-- ==== Sys2Proof/Word.lean ====
section
/-! DEFINITION. The plain value types of the model: bytes, byte strings, and the sparse tables that hold numbered things. -/
namespace Sys2Proof

/-- One byte of a packet, frame, record, register or memory. -/
abbrev Byte := BitVec 8

/-- A string of bytes, first byte first. -/
abbrev Bytes := List Byte

/-- A sparse table of numbered things (channels, pans, streams, …): only the entries that were set stand in it. -/
abbrev Tbl (α : Type) := List (Nat × α)

end Sys2Proof
end

