-- ==== Sys2Proof/Syntax.lean ====
section
/-! DEFINITION. The commands of the block: one constructor of `Instr` for each row of spec/opcode_table.json, and the operand types they carry. -/
namespace Sys2Proof

/-- The four fabric ports (R343, table "Fabric ports"). -/
inductive Port where
  | up | dn0 | dn1 | twin
  deriving DecidableEq, Repr

/-- The path by which a command packet arrives (R20, R21): the MPORT command ring, or a CONTROL frame on a fabric port. -/
inductive Origin where
  | mport
  | fabric (port : Port)
  deriving DecidableEq, Repr

/-- A command packet less its opcode, which the constructor (or `Held.opcode`) gives: the fields of the table "Command header" (R23) and the bytes that follow the header. `length` of the packet is 16 plus the number of bytes. -/
structure Cmd where
  version     : Byte
  flags       : Byte
  tag         : Byte
  queue       : Byte
  paramLength : BitVec 16
  target      : BitVec 16
  source      : BitVec 16
  sessionId   : BitVec 32
  params      : Bytes
  deriving DecidableEq, Repr

/-- A Dalevo frame as a port receives or sends it (R368, table "Frame header"): `intact` says that its CRC matched and no block inside it was invalid (R391 reason 1), `received` how many payload bytes came. (log 70: DESIGN CHOICE) -/
structure Frame where
  type          : Byte
  flags         : Byte
  payloadLength : BitVec 16
  target        : BitVec 16
  source        : BitVec 16
  linkSeq       : BitVec 16
  ack           : BitVec 16
  hops          : Byte
  reserved      : BitVec 24
  payload       : Bytes
  intact        : Bool
  deriving DecidableEq, Repr

/-- A frame on SP0 from the fall to the rise of SP0_SS_N (R544): the number of bits clocked, the whole words shifted in, and whether SP0_SS_N fell while SP0_RDY was low. -/
structure SpiFrame where
  bits      : Nat
  words     : List (BitVec 32)
  rdyWasLow : Bool
  deriving DecidableEq, Repr

/-- The strap balls as they stand when the hub leaves RESET (R83). -/
structure Straps where
  bootSrc  : BitVec 2
  twinRole : Bool
  deriving DecidableEq, Repr

/-- The rails of the power-on orders 1 to 4 (R80). -/
inductive Rail where
  | vdd | vddm | vdds | vddsh | vddio18 | avdd18 | vddio33 | avp | avn
  deriving DecidableEq, Repr

/-- What one conversion gives: the converter's code c (R460), by how many LSB its redundant decision cycles disagree and whether it overran its slot (R131), whether the overload detector fired in the 40 ns before the strike, and whether by common mode (R106). (log 38: DESIGN CHOICE) -/
structure Conversion where
  code       : Int
  disagree   : Nat
  overran    : Bool
  overload   : Bool
  commonMode : Bool
  deriving DecidableEq, Repr

/-- Where a stage-1 input of the mash array comes from (R163, 01 table "Island crossings"). -/
inductive MashSource where
  | pan (p : Nat) | feed | tap
  deriving DecidableEq, Repr

/-- What a detector of a receive lane reports (R361): loss of signal; loss of the clock recovery's frequency lock; the sync headers, of which it names how many of the last 64 are invalid, so that block lock can be judged (R349). The last two are one detector, loss of lock. -/
inductive Detector where
  | signal | lock | block (invalid : Nat)
  deriving DecidableEq, Repr

/-- What an interpolator of the PPS_IN pair digitises of one edge (R238, R239, R425): the code A, and the calibration pair A1 and A2 that it measures afterwards. -/
structure PairCodes where
  code : Nat
  a1   : Nat
  a2   : Nat
  deriving DecidableEq, Repr

/-- What VERIFY has found on one physical lane (R357): invalid sync headers, BIP8 errors, and whether it lost lock, and byte 6 of the partner's latest training block there, with its readiness and verdict (R354, R355). A lane with no entry has passed on both sides. -/
structure LaneErrors where
  lane    : Nat
  headers : Nat
  bip8    : Nat
  lost    : Bool
  partner : Byte := 3
  deriving DecidableEq, Repr

/-- What stands at a marker position of a physical lane (R347 to R350): the block's index on that lane, its sync header (1 for 0b01, 2 for 0b10) and payload as received, when it arrived, in ps, and the BIP8 that the receiver has formed since the marker before. -/
structure MarkerSeen where
  index   : Nat
  header  : Nat
  bytes   : Bytes
  arrival : Nat
  bip     : Byte
  deriving DecidableEq, Repr

/-- A lane in service and what its receiver met at its marker positions, oldest first (R349). -/
structure LaneSeen where
  lane    : Nat
  markers : List MarkerSeen
  deriving DecidableEq, Repr

/-- What one physical lane has received in a training step (R349 to R355): whether its loss of signal has cleared, how many valid sync headers in a row it has met, what stood at its marker positions, the partner's latest training block, byte 4 (the requests) of its training blocks in order, whether the hub's own receiver has finished the step, and the peaking it has settled at. -/
structure LaneReport where
  lane     : Nat
  signal   : Bool
  valid    : Nat
  markers  : List MarkerSeen
  block    : Bytes
  requests : Bytes
  settled  : Bool
  peaking  : Nat
  deriving DecidableEq, Repr

/-- What the lanes of a port have received in the training step under way (R355 to R358). -/
structure TrainingReport where
  lanes : List LaneReport
  deriving DecidableEq, Repr

/-- The two heartbeat paths (R433). -/
inductive HbPath where
  | link | pin
  deriving DecidableEq, Repr

/-- The two channels of the safety island. -/
inductive SafeCh where
  | a | b
  deriving DecidableEq, Repr

/-- The islands that the liveness monitor watches (R534). -/
inductive Island where
  | grid | mash | kiln | mem | port (p : Port)
  deriving DecidableEq, Repr

/-- What foreground calibration measures on one pan (R470 to R476, table "Calibrated quantities"). Of each front-end path, the eight channels and then the test path, it carries the measurements in order: the first one, and one after each step of the path's analogue trim (R463). -/
structure PanResults where
  weights   : List Int
  offset    : Int
  frontEnds : List (List (List Int))
  tcal      : List Int
  trims     : List Int
  tdcBin    : List Int
  tdcOffset : List Int
  lead      : Nat
  dacOffset : Int
  dacGain   : Int
  ratios    : List Int
  deriving DecidableEq, Repr


/-- One constructor for each row of spec/opcode_table.json, in the order of the table. A command packet carries where it came from and its header and parameter bytes (R23); every other row carries `t`, the fabric time in ns at which it comes about, and what the outside world gives it. -/
inductive Instr where
  | hello (o : Origin) (c : Cmd)
  | getInfo (o : Origin) (c : Cmd)
  | goodbye (o : Origin) (c : Cmd)
  | echo (o : Origin) (c : Cmd)
  | cmdAbort (o : Origin) (c : Cmd)
  | cmdQuery (o : Origin) (c : Cmd)
  | cmdStats (o : Origin) (c : Cmd)
  | fenceWaitEnd (t : Nat) (queue : Nat)
  | sessionIdleTimeout (t : Nat) (slot : Nat)
  | stateGet (o : Origin) (c : Cmd)
  | stateHistory (o : Origin) (c : Cmd)
  | stateRun (o : Origin) (c : Cmd)
  | stateStop (o : Origin) (c : Cmd)
  | stateGoLocal (o : Origin) (c : Cmd)
  | stateReset (o : Origin) (c : Cmd)
  | stateLeaveFault (o : Origin) (c : Cmd)
  | fwGetStatus (o : Origin) (c : Cmd)
  | fwVerify (o : Origin) (c : Cmd)
  | fwActivate (o : Origin) (c : Cmd)
  | firmwareActivationStart (t : Nat)
  | firmwareRestartEnd (t : Nat)
  | panGetConfig (o : Origin) (c : Cmd)
  | panReadResults (o : Origin) (c : Cmd)
  | compGet (o : Origin) (c : Cmd)
  | panGetStatus (o : Origin) (c : Cmd)
  | panPower (o : Origin) (c : Cmd)
  | panSetGain (o : Origin) (c : Cmd)
  | panSetFilter (o : Origin) (c : Cmd)
  | panSetSequence (o : Origin) (c : Cmd)
  | panSpot (o : Origin) (c : Cmd)
  | panSetTestDac (o : Origin) (c : Cmd)
  | compSet (o : Origin) (c : Cmd)
  | tripSet (o : Origin) (c : Cmd)
  | panSubstitute (o : Origin) (c : Cmd)
  | gridGetConfig (o : Origin) (c : Cmd)
  | gridGetStatus (o : Origin) (c : Cmd)
  | gridGetDelays (o : Origin) (c : Cmd)
  | gridSetOrigin (o : Origin) (c : Cmd)
  | gridSetPeriod (o : Origin) (c : Cmd)
  | gridSetDivisor (o : Origin) (c : Cmd)
  | gridSetDelay (o : Origin) (c : Cmd)
  | recipeGet (o : Origin) (c : Cmd)
  | recipeReadBank (o : Origin) (c : Cmd)
  | recipeGetAssign (o : Origin) (c : Cmd)
  | recipeGetStats (o : Origin) (c : Cmd)
  | reduceGet (o : Origin) (c : Cmd)
  | recipeDefine (o : Origin) (c : Cmd)
  | recipeLoadCoefs (o : Origin) (c : Cmd)
  | recipeSetShifts (o : Origin) (c : Cmd)
  | recipeAssign (o : Origin) (c : Cmd)
  | recipeSwap (o : Origin) (c : Cmd)
  | recipeReset (o : Origin) (c : Cmd)
  | reduceSet (o : Origin) (c : Cmd)
  | captureGet (o : Origin) (c : Cmd)
  | captureGetStatus (o : Origin) (c : Cmd)
  | captureGetMemory (o : Origin) (c : Cmd)
  | captureListHeld (o : Origin) (c : Cmd)
  | captureDefine (o : Origin) (c : Cmd)
  | captureSetTrigger (o : Origin) (c : Cmd)
  | captureEnable (o : Origin) (c : Cmd)
  | captureForce (o : Origin) (c : Cmd)
  | captureReadout (o : Origin) (c : Cmd)
  | captureRelease (o : Origin) (c : Cmd)
  | captureSetMeasure (o : Origin) (c : Cmd)
  | captureFree (o : Origin) (c : Cmd)
  | edgeGetConfig (o : Origin) (c : Cmd)
  | edgeGetStatus (o : Origin) (c : Cmd)
  | measGet (o : Origin) (c : Cmd)
  | edgeSetInput (o : Origin) (c : Cmd)
  | edgeSetStream (o : Origin) (c : Cmd)
  | measSetInterval (o : Origin) (c : Cmd)
  | measSetFrequency (o : Origin) (c : Cmd)
  | measOff (o : Origin) (c : Cmd)
  | kilnGetCoding (o : Origin) (c : Cmd)
  | kilnGetStatus (o : Origin) (c : Cmd)
  | kilnJobGet (o : Origin) (c : Cmd)
  | kilnRead (o : Origin) (c : Cmd)
  | kilnGetState (o : Origin) (c : Cmd)
  | kilnSetCoding (o : Origin) (c : Cmd)
  | kilnSetState (o : Origin) (c : Cmd)
  | kilnTap (o : Origin) (c : Cmd)
  | kilnWorkspace (o : Origin) (c : Cmd)
  | kilnWrite (o : Origin) (c : Cmd)
  | kilnJobStart (o : Origin) (c : Cmd)
  | kilnJobResume (o : Origin) (c : Cmd)
  | streamGet (o : Origin) (c : Cmd)
  | streamGetOutbound (o : Origin) (c : Cmd)
  | streamList (o : Origin) (c : Cmd)
  | feedGetStatus (o : Origin) (c : Cmd)
  | streamSetEnable (o : Origin) (c : Cmd)
  | streamSetRecord (o : Origin) (c : Cmd)
  | streamAck (o : Origin) (c : Cmd)
  | streamDropRest (o : Origin) (c : Cmd)
  | streamSetFormat (o : Origin) (c : Cmd)
  | streamSetSpill (o : Origin) (c : Cmd)
  | feedSetConfig (o : Origin) (c : Cmd)
  | feedSetChannel (o : Origin) (c : Cmd)
  | feedFlush (o : Origin) (c : Cmd)
  | laneGetStatus (o : Origin) (c : Cmd)
  | laneGetEq (o : Origin) (c : Cmd)
  | laneGetCounters (o : Origin) (c : Cmd)
  | laneSetRates (o : Origin) (c : Cmd)
  | laneRetrain (o : Origin) (c : Cmd)
  | laneSetEq (o : Origin) (c : Cmd)
  | lanePortEnable (o : Origin) (c : Cmd)
  | laneTest (o : Origin) (c : Cmd)
  | fabricGetPort (o : Origin) (c : Cmd)
  | fabricGetCounters (o : Origin) (c : Cmd)
  | fabricGetRoutes (o : Origin) (c : Cmd)
  | fabricGetConfig (o : Origin) (c : Cmd)
  | fabricSetCredit (o : Origin) (c : Cmd)
  | fabricSetLimits (o : Origin) (c : Cmd)
  | fabricLeave (o : Origin) (c : Cmd)
  | fabricRejoin (o : Origin) (c : Cmd)
  | fabricSetVersions (o : Origin) (c : Cmd)
  | timeGetStatus (o : Origin) (c : Cmd)
  | timeGetPort (o : Origin) (c : Cmd)
  | timeGetPps (o : Origin) (c : Cmd)
  | timeSetServo (o : Origin) (c : Cmd)
  | timeSetAsymmetry (o : Origin) (c : Cmd)
  | timeSetAgeing (o : Origin) (c : Cmd)
  | timeSetOutputs (o : Origin) (c : Cmd)
  | timeSetLocalRef (o : Origin) (c : Cmd)
  | twinGetStatus (o : Origin) (c : Cmd)
  | twinGetCounters (o : Origin) (c : Cmd)
  | twinSetMode (o : Origin) (c : Cmd)
  | twinSetTiming (o : Origin) (c : Cmd)
  | twinSwap (o : Origin) (c : Cmd)
  | twinRelay (o : Origin) (c : Cmd)
  | calGetStatus (o : Origin) (c : Cmd)
  | calRead (o : Origin) (c : Cmd)
  | calSetMode (o : Origin) (c : Cmd)
  | calSetReference (o : Origin) (c : Cmd)
  | calRun (o : Origin) (c : Cmd)
  | calWrite (o : Origin) (c : Cmd)
  | calStage (o : Origin) (c : Cmd)
  | calApply (o : Origin) (c : Cmd)
  | powerGetStatus (o : Origin) (c : Cmd)
  | sluiceGetStatus (o : Origin) (c : Cmd)
  | powerSetTolerance (o : Origin) (c : Cmd)
  | sluiceSetBudget (o : Origin) (c : Cmd)
  | powerWake (o : Origin) (c : Cmd)
  | safetyGetStatus (o : Origin) (c : Cmd)
  | safetyGetParams (o : Origin) (c : Cmd)
  | safetyGetCounters (o : Origin) (c : Cmd)
  | safetyWrite (o : Origin) (c : Cmd)
  | safetyConfirm (o : Origin) (c : Cmd)
  | safetyDiscard (o : Origin) (c : Cmd)
  | faultGetSummary (o : Origin) (c : Cmd)
  | faultReadLog (o : Origin) (c : Cmd)
  | faultGetMemory (o : Origin) (c : Cmd)
  | diagGetTemps (o : Origin) (c : Cmd)
  | faultClearLog (o : Origin) (c : Cmd)
  | faultSetScrub (o : Origin) (c : Cmd)
  | faultSetMirror (o : Origin) (c : Cmd)
  | diagInject (o : Origin) (c : Cmd)
  | flashGetInfo (o : Origin) (c : Cmd)
  | flashRead (o : Origin) (c : Cmd)
  | flashErase (o : Origin) (c : Cmd)
  | flashProgram (o : Origin) (c : Cmd)
  | spiTransfer (o : Origin) (c : Cmd)
  | flashOperationDone (t : Nat) (status : Byte)
  | flashOperationTimeout (t : Nat)
  | flashWindowRead (t : Nat) (offset : Nat)
  | mportReadFrame (t : Nat) (f : SpiFrame)
  | mportWriteFrame (t : Nat) (f : SpiFrame)
  | mportNopFrame (t : Nat) (f : SpiFrame)
  | mailboxPush (t : Nat) (f : SpiFrame)
  | mailboxPull (t : Nat) (f : SpiFrame)
  | mportMasterPoll (t : Nat) (f : SpiFrame)
  | commandRingRead (t : Nat)
  | replyRingAppend (t : Nat)
  | flushCmd (t : Nat)
  | flushReply (t : Nat)
  | sp0CtrlWrite (t : Nat) (value : BitVec 32)
  | sp1CtrlWrite (t : Nat) (value : BitVec 32)
  | timeSnapTake (t : Nat)
  | spCntClear (t : Nat)
  | calWindowWrite (t : Nat) (value : BitVec 32)
  | calImageWindowWrite (t : Nat) (addr : Nat) (value : BitVec 32)
  | registerWrite (t : Nat) (addr : Nat) (value : BitVec 32)
  | resetNLow (t : Nat) (lowNs : Nat) (taken : Bool)
  | leaveReset (t : Nat) (straps : Straps) (idStart : BitVec 32) (temps : List Int)
  | railOutOfRegulation (t : Nat) (rail : Rail) (ns : Nat)
  | supervisorRelease (t : Nat)
  | memorySelfTestEnd (t : Nat) (single double : List (Nat × Nat))
  | d2dLinkBringupEnd (t : Nat) (die : Nat) (locked : Bool) (failed : List Nat)
  | patchReadEnd (t : Nat)
  | bootComplete (t : Nat)
  | d2dLaneFailure (t : Nat) (die lane : Nat)
  | gridStrobe (t : Nat) (k : Nat)
  | strobeMessageSend (t : Nat) (pan k : Nat)
  | strobeMessageReceive (t : Nat) (pan : Nat)
  | epochBoundary (t : Nat)
  | conversionEnd (t : Nat) (pan : Nat) (c : Conversion)
  | urgentSlotBoundary (t : Nat) (pan : Nat) (c : Conversion)
  | spotReplyTimeout (t : Nat)
  | urgentRequestEndUnserved (t : Nat) (pan : Nat)
  | comparatorCrossing (t : Nat) (ch : Nat) (input : Int)
  | tdcConversionEnd (t : Nat) (ch beats : Nat)
  | comparatorEventDelivery (t : Nat) (pan : Nat)
  | overloadIntervalEnd (t : Nat)
  | sampleArrivalMash (t : Nat) (src : MashSource)
  | captureSample (t : Nat)
  | caskHandover (t : Nat) (group : Nat)
  | timedTriggerApply (t : Nat) (entry : Nat)
  | scheduleTime (t : Nat) (group term : Nat)
  | fabricTriggerReceive (t : Nat) (msg : Bytes)
  | edgeArrival (t : Nat) (input : Nat) (rising : Bool)
  | interpolatorStampEnd (t : Nat) (input : Nat) (b : Bool) (code a1 a2 : Nat)
  | interpolatorCalRepeat (t : Nat) (input : Nat) (b : Bool) (a1 a2 : Nat)
  | stampArrivalMem (t : Nat) (input : Nat)
  | intervalTimeout (t : Nat) (unit : Nat)
  | frequencyGateEnd (t : Nat) (unit : Nat)
  | recordLatencyExpiry (t : Nat) (stream : Nat)
  | recordAdmit (t : Nat)
  | pendingGapTimeout (t : Nat) (stream : Nat)
  | eventEntryArise (t : Nat)
  | upRecordSend (t : Nat)
  | spillDrain (t : Nat)
  | kilnRecordCode (t : Nat) (lane : Nat) (failedBlocks : List Nat)
  | tapRecordDecode (t : Nat) (tap : Nat)
  | kilnJobBlock (t : Nat)
  | feedItem (t : Nat) (item : Bytes)
  | feedSyncItem (t : Nat) (item : Bytes)
  | feedValidLow (t : Nat) (bytes : Nat)
  | feedWatermark (t : Nat)
  | feedCreditReturn (t : Nat)
  | trainingStepAdvance (t : Nat) (port : Port) (r : TrainingReport)
  | trainingStepLimit (t : Nat) (port : Port)
  | verifyEnd (t : Nat) (port : Port) (errs : List LaneErrors)
  | trainingRestartWait (t : Nat) (port : Port)
  | lossOfSignal (t : Nat) (port : Port) (lane : Nat) (d : Detector) (asserted : Bool)
  | laneFailed (t : Nat) (port : Port) (lane : Nat)
  | degradeTrainingEnd (t : Nat) (port : Port) (passed : Bool)
  | electricalIdleEntry (t : Nat) (port : Port)
  | portWake (t : Nat) (port : Port)
  | wakeBurstFail (t : Nat) (port : Port) (lane : Nat)
  | laneOffEntry (t : Nat) (port : Port)
  | payloadReceive (t : Nat) (port : Port) (f : Frame)
  | ackReceive (t : Nat) (port : Port) (f : Frame)
  | nakReceive (t : Nat) (port : Port) (f : Frame)
  | replayTimeout (t : Nat) (port : Port)
  | creditReceive (t : Nat) (port : Port) (f : Frame)
  | creditSendTimer (t : Nat) (port : Port)
  | helloSendTimer (t : Nat) (port : Port) (linkId : BitVec 32)
  | helloReceive (t : Nat) (port : Port) (f : Frame)
  | abandonReceive (t : Nat) (port : Port) (f : Frame)
  | attachReceive (t : Nat) (port : Port) (f : Frame)
  | assignReceive (t : Nat) (port : Port) (f : Frame)
  | restartEntriesTimeout (t : Nat)
  | detachReceive (t : Nat) (port : Port) (f : Frame)
  | unreachableReceive (t : Nat) (port : Port) (f : Frame)
  | partnerLost (t : Nat) (port : Port)
  | upDetached (t : Nat)
  | syncSendTimer (t : Nat) (port : Port) (txFrac : Nat)
  | pdelayReqSend (t : Nat) (port : Port) (t1 : Int)
  | pdelayReqReceive (t : Nat) (port : Port) (f : Frame) (t2 t3 : Int)
  | pdelayRespReceive (t : Nat) (port : Port) (f : Frame) (t4 : Int)
  | syncReceive (t : Nat) (port : Port) (f : Frame) (rx : Int)
  | syncMissing (t : Nat)
  | bridgeTimeout (t : Nat)
  | ppsInEdge (t : Nat) (stamp : PairCodes)
  | trefInPresence (t : Nat) (present : Bool) (freqErr : Int)
  | ppsOutSecond (t : Nat)
  | heartbeatSend (t : Nat) (path : HbPath)
  | heartbeatReceive (t : Nat) (path : HbPath) (msg : Bytes)
  | heartbeatPathDead (t : Nat) (path : HbPath)
  | dutyInChange (t : Nat) (level : Bool)
  | claimWindowEnd (t : Nat)
  | dutyKeeperDrop (t : Nat)
  | twinCycleEnd (t : Nat)
  | copyReceive (t : Nat) (msg : Bytes)
  | copyAckReceive (t : Nat) (msg : Bytes)
  | mirrorReceive (t : Nat) (msg : Bytes)
  | mirrorDoneReceive (t : Nat) (msg : Bytes)
  | mirrorTimeout (t : Nat) (number : Nat)
  | relayReceive (t : Nat) (msg : Bytes)
  | relayReplyReceive (t : Nat) (msg : Bytes)
  | twinTriggerReceive (t : Nat) (msg : Bytes)
  | gangPartnerRecord (t : Nat) (record : Bytes)
  | yieldTimeout (t : Nat)
  | pairingTimeout (t : Nat)
  | pairFormed (t : Nat)
  | rotationTrigger (t : Nat) (temps : List Int)
  | converterLoanEnd (t : Nat) (weights : List Int) (offset : Int)
  | tdcSelfMeasure (t : Nat) (ch fs : Nat)
  | foregroundPanStart (t : Nat) (pan : Nat) (vcal senseErr : Int)
  | foregroundPanEnd (t : Nat) (pan : Nat) (results : PanResults)
  | groupIdleTimeout (t : Nat) (group : Nat)
  | groupWake (t : Nat) (group : Nat)
  | dormantEntry (t : Nat)
  | dormantExit (t : Nat)
  | wakeHoldExpiry (t : Nat)
  | sluiceRequest (t : Nat) (op : Nat) (port : Port)
  | sluiceGrant (t : Nat) (recovery : Bool)
  | sluiceTokenReturn (t : Nat) (op : Nat)
  | sluiceTimeout (t : Nat) (recovery : Bool)
  | safetyCycle (t : Nat) (ch : SafeCh) (sin sfb : Nat) (srst : Bool) (selfTestOk : Bool)
  | crossCompareReceive (t : Nat) (ch : SafeCh)
  | testPulseEnd (t : Nat) (ch : SafeCh) (pair : Nat) (sfbLow : Bool)
  | safetyRailFault (t : Nat) (ch : SafeCh)
  | hubEnableChange (t : Nat) (ch : SafeCh) (level : Bool)
  | safetySetPendingTimeout (t : Nat)
  | eccReadError (t : Nat) (store word : Nat) (double : Bool)
  | scrubPassStart (t : Nat)
  | scrubPassEnd (t : Nat)
  | afeLost (t : Nat) (die cause lanes : Nat)
  | afeEndStrobe (t : Nat) (die : Nat)
  | watchdogExpiry (t : Nat)
  | islandDead (t : Nat) (i : Island)
  | fwSlotVerifyEnd (t : Nat)
  | localTimeLock (t : Nat)
  | laneTestEnd (t : Nat) (port : Port) (bits errs : List Nat)
  | laneOffWakeTimeout (t : Nat) (port : Port)
  | markerLockLost (t : Nat) (port : Port) (lane : LaneSeen)
  | idleEntryBlockReceive (t : Nat) (port : Port) (lane : Nat)
  | copyAckTimeout (t : Nat)
  | safetyChannelStart (t : Nat) (ch : SafeCh)
  deriving DecidableEq, Repr

end Sys2Proof
end

