-- ==== Sys2Proof/Decode.lean ====
section
/-! DEFINITION. The commands that a word of spec/opcode_table.json spells. No row of the table gives bits: a command packet carries its opcode and parameters in bytes, which `Machine.packetOf` reads, and every other row is an event. -/
namespace Sys2Proof

/-- The command that a word spells by the table's bits: none, since no row gives bits. (log 2: DESIGN CHOICE) -/
def decodeTableWord (_nbits _w : Nat) : Option Instr := none

end Sys2Proof
end

