-- ==== Sys2Proof/Machine/Operands.lean ====
section
/-! DEFINITION. Operand forms: reading the fields of a packet, frame or record out of its bytes and laying them out again (R6), tables of numbered things, and byte memories. -/
namespace Sys2Proof.Machine

open Sys2Proof

/-! ## Fields of byte strings, little-endian (R6) -/

/-- The byte at offset `i`, 0 past the end. -/
def u8 (b : Bytes) (i : Nat) : Nat := (b.getD i 0).toNat

/-- The u16 at offset `i`. -/
def u16 (b : Bytes) (i : Nat) : Nat := u8 b i + 256 * u8 b (i + 1)

/-- The 24-bit field at offset `i`. -/
def u24 (b : Bytes) (i : Nat) : Nat := u16 b i + 65536 * u8 b (i + 2)

/-- The u32 at offset `i`. -/
def u32 (b : Bytes) (i : Nat) : Nat := u16 b i + 65536 * u16 b (i + 2)

/-- The u64 at offset `i`. -/
def u64 (b : Bytes) (i : Nat) : Nat := u32 b i + 4294967296 * u32 b (i + 4)

/-- `v` read as two's complement of `n` bits. -/
def signed (n v : Nat) : Int := if v < 2 ^ (n - 1) then (v : Int) else (v : Int) - (2 ^ n : Nat)

/-- The i8 at offset `i`. -/
def i8 (b : Bytes) (i : Nat) : Int := signed 8 (u8 b i)

/-- The i16 at offset `i`. -/
def i16 (b : Bytes) (i : Nat) : Int := signed 16 (u16 b i)

/-- The i32 at offset `i`. -/
def i32 (b : Bytes) (i : Nat) : Int := signed 32 (u32 b i)

/-- The i64 at offset `i`. -/
def i64 (b : Bytes) (i : Nat) : Int := signed 64 (u64 b i)

/-- The `n` bytes from offset `i`. -/
def slice (b : Bytes) (i n : Nat) : Bytes := (b.drop i).take n

/-- Whether the `n` bytes from offset `i` are all 0 (R584). -/
def zeroAt (b : Bytes) (i n : Nat) : Bool := (slice b i n).all (· == 0)

/-- `v` in `n` bytes, least significant byte first; higher bits are dropped. -/
def le : (n v : Nat) → Bytes
  | 0, _ => []
  | n + 1, v => BitVec.ofNat 8 v :: le n (v / 256)

/-- An integer in `n` bytes of two's complement, least significant byte first. -/
def leInt (n : Nat) (v : Int) : Bytes := le n (v % (256 ^ n : Nat)).toNat

/-- `n` zero bytes. -/
def zeros (n : Nat) : Bytes := List.replicate n 0

/-- `v` held to the range of an unsigned counter of `n` bits: a counter that saturates. -/
def sat (n v : Nat) : Nat := min v (2 ^ n - 1)

/-- `v` clamped to `lo … hi`. -/
def clampInt (lo hi v : Int) : Int := max lo (min hi v)

/-- Rounds `a / b` to nearest, halves up (b > 0). -/
def roundDiv (a : Int) (b : Nat) : Int := (2 * a + b).fdiv (2 * b)

/-- Rounds a / b half to even (b > 0). -/
def roundEven (a : Int) (b : Nat) : Int :=
  let q := a.fdiv b
  let r := a - q * b
  if 2 * r > b ∨ (2 * r = b ∧ q % 2 = 1) then q + 1 else q

/-- The least multiple of `d` at or above `a`. -/
def ceilTo (a d : Nat) : Nat := (a + d - 1) / d * d

/-- Whether bit `i` of `v` is set. -/
def bit (v i : Nat) : Bool := v.testBit i

/-- The numbers 0 to n − 1 whose bit is set in `mask`. -/
def bitsOf (n mask : Nat) : List Nat := (List.range n).filter mask.testBit

/-- The mask that holds the bits listed. -/
def maskOf (l : List Nat) : Nat := l.foldl (fun m i => m ||| 2 ^ i) 0

/-- The u32 values from offset `i`, `n` of them. -/
def words32 (b : Bytes) (i n : Nat) : List Nat := (List.range n).map (fun j => u32 b (i + 4 * j))

/-! ## Tables of numbered things -/

/-- The entry of number `k`, or the default that every number has until it is set. -/
def Tbl.get (d : α) (t : Tbl α) (k : Nat) : α := (t.lookup k).getD d

/-- Sets the entry of number `k`; entries stand in rising order. -/
def Tbl.set (t : Tbl α) (k : Nat) (v : α) : Tbl α :=
  match t with
  | [] => [(k, v)]
  | (k', v') :: r =>
    if k < k' then (k, v) :: (k', v') :: r
    else if k = k' then (k, v) :: r
    else (k', v') :: Tbl.set r k v

/-- Removes the entry of number `k`. -/
def Tbl.erase (t : Tbl α) (k : Nat) : Tbl α := t.filter (·.1 != k)

/-- Changes the entry of number `k`. -/
def Tbl.modify (d : α) (t : Tbl α) (k : Nat) (f : α → α) : Tbl α := Tbl.set t k (f (Tbl.get d t k))

/-- Adds 1 to the counter `k`, which saturates at `2^n − 1`. -/
def Tbl.bump (n : Nat) (t : Tbl Nat) (k : Nat) : Tbl Nat := Tbl.modify 0 t k (fun v => sat n (v + 1))

/-! ## Byte memories -/

/-- The byte at address `a`; `d` gives what an address reads as that nothing has written. -/
def Mem.read (d : Nat → Byte) : List Host.Cell → Nat → Byte
  | [], a => d a
  | (k, v) :: r, a => if k = a then v else Mem.read d r a

/-- Writes one byte and keeps the canonical form: addresses strictly rising, and no entry equal to what the address reads as unwritten. -/
def Mem.write (d : Nat → Byte) : List Host.Cell → Nat → Byte → List Host.Cell
  | [], a, b => if b = d a then [] else [(a, b)]
  | (k, v) :: r, a, b =>
    if a < k then (if b = d a then (k, v) :: r else (a, b) :: (k, v) :: r)
    else if a = k then (if b = d a then r else (a, b) :: r)
    else (k, v) :: Mem.write d r a b

/-- The canonical form of a byte memory. -/
def Mem.wf (d : Nat → Byte) : List Host.Cell → Bool
  | [] => true
  | (k, v) :: r => v != d k && r.all (fun c => decide (k < c.1)) && Mem.wf d r

/-- The `n` bytes from address `a`. -/
def Mem.readN (d : Nat → Byte) (m : List Host.Cell) (a n : Nat) : Bytes := (List.range n).map (fun i => Mem.read d m (a + i))

/-- Writes bytes from address `a` up. -/
def Mem.writeN (d : Nat → Byte) (m : List Host.Cell) (a : Nat) : Bytes → List Host.Cell
  | [] => m
  | b :: r => Mem.writeN d (Mem.write d m a b) (a + 1) r

end Sys2Proof.Machine
end

