-- ==== Sys2Proof/Config.lean ====
section
/-! DEFINITION. What one manufactured part or its board fixes, and the values the spec leaves open: constants without a body. -/
namespace Sys2Proof.Config

/-- `HUB_ID`, written at the factory (19 table "Identity and boot registers"). (log 10: DESIGN CHOICE) -/
opaque hubId : BitVec 64

/-- `ORDERING.code`: true for NZH256-SB, false for NZH256-IB (R3). (log 10: DESIGN CHOICE) -/
opaque orderingSB : Bool

/-- The three bytes of the JEDEC ID of the flash device on SS0 (R554); the device is the board's. (log 10: DESIGN CHOICE) -/
opaque jedecId : BitVec 24

/-- The fused factory offset o_cal of EDGE input e (16 is `PPS_IN`), 2^−16 ns (R568). (log 10: DESIGN CHOICE) -/
opaque edgeOffset : Nat → BitVec 32

/-- A free value, one for each count of the state's `freeUsed` counter: what the spec calls an estimate or leaves open. (log 9: DESIGN CHOICE) -/
opaque freeValue : Nat → BitVec 32

/-- What the device on select 1 to 3 answers to an `SPI_TRANSFER` (R560): byte i of the answer to these sent bytes, at the n-th transfer since reset. (log 9: DESIGN CHOICE) -/
opaque spiAnswer : (select : Nat) → (sent : Bytes) → (n i : Nat) → Byte

/-- How long an idle interpolator takes to repeat its calibration pair, in ns; the spec bounds it by the dead time that covers one (R241, R243). (log 110: DESIGN CHOICE) -/
opaque repeatTime : Nat

end Sys2Proof.Config
end

