-- ==== Sys2Proof/Machine/State.lean ====
section
/-! DEFINITION. The state of the hub: every register, queue, buffer, counter, mode and pin the spec gives it, as plain data, and the state right after reset. Times named in ns are fabric time in whole nanoseconds; times named `fr` are in 2^−16 ns (R7). A numbered thing without an entry in its table stands at the default that its structure gives, which is its value after reset. -/
namespace Sys2Proof.Machine

open Sys2Proof

/-! ## Hub states and start-up (chapters 02, 03) -/

/-- The twelve major states (R71, table "State codes"). -/
inductive HubState where
  | reset | boot | discover | timelock | ready | calibrate | run | reconfigure | shadow | dormant | holdover | faultHold
  deriving DecidableEq, Repr

/-- One entry of the state history (R73). -/
structure Transition where
  old    : HubState
  new    : HubState
  reason : Nat
  time   : Nat
  deriving DecidableEq, Repr

/-- How the choice of the firmware patch stands in BOOT (R88): not yet read, ROM only, a slot chosen and its body checked, or no valid slot where one is required. -/
inductive PatchChoice where
  | unread | romOnly | slot (n : Nat) | missing
  deriving DecidableEq, Repr

/-- A running `FW_VERIFY` or `FW_ACTIVATE` (R101, R102): the slot, the command's serial, whether it activates, and whether its verification has passed. -/
structure FwCheck where
  slot     : Nat
  ref      : Nat
  activate : Bool
  passed   : Bool
  deriving DecidableEq, Repr

/-- Hub state, boot and firmware (chapter 03). `genBefore` is the config_gen before the changes of the present epoch (R308). -/
structure Sys where
  hub            : HubState := .reset
  old            : HubState := .reset
  reason         : Nat := 0
  changedAt      : Nat := 0
  history        : List Transition := []
  calFrom        : HubState := .ready
  timeLostInCal  : Bool := false
  localMode      : Bool := false
  localSince     : Nat := 0
  supervisor     : Bool := false
  softReset      : Bool := false
  straps         : Straps := ⟨0, false⟩
  selfTest       : Option Bool := none
  d2dUp          : List (Nat × Bool) := []
  patch          : PatchChoice := .unread
  patchTried     : List Nat := []
  bootResult     : Nat := 0
  slotValid      : Bool × Bool := (false, false)
  firstCrcFail   : Bool := false
  eccMapped      : Nat := 0
  rdy            : Bool := false
  fwVersion      : BitVec 32 := 0x00020004
  fwSource       : Nat := 0
  fwActivations  : Nat := 0
  fwLastAt       : Nat := 0
  fwChecks       : List FwCheck := []
  fwPaused       : Bool := false
  fwPausedAt     : Nat := 0
  fwRestartRef   : Option Nat := none
  fwRestartDue   : Bool := false
  forcedRestarts : List Nat := []
  restartCount   : Nat := 0
  configGen      : BitVec 16 := 0
  genBefore      : BitVec 16 := 0
  hubId          : BitVec 64 := Config.hubId
  orderingSB     : Bool := Config.orderingSB
  freeUsed       : Nat := 0
  deriving DecidableEq, Repr

/-! ## Commands and sessions (chapter 02) -/

/-- A packet that the hub sends: the opcode and the rest of it. -/
structure Packet where
  opcode : BitVec 16
  cmd    : Cmd
  deriving DecidableEq, Repr

/-- On whose behalf a command runs: a session (its slot), a session that has ended since (R37, R66), a broadcast (R55), the duty hub's mirror (R440) or the gang lead's relay (R453). -/
inductive Owner where
  | session (slot : Nat)
  | ended
  | broadcast
  | mirror (number : Nat)
  | relay
  deriving DecidableEq, Repr

/-- How a command ends: its status, detail and result bytes, and the config_gen in force then (R29). -/
structure Final where
  status : Nat
  detail : Nat
  result : Bytes
  gen    : BitVec 16
  deriving DecidableEq, Repr

/-- Where an admitted command stands: waiting in its queue, started with its reply held back, answered ACCEPTED, or at its final status with the notice waiting behind an earlier one of its queue (R50). -/
inductive Phase where
  | queued
  | executing
  | accepted
  | finished (f : Final)
  deriving DecidableEq, Repr

/-- An admitted command whose notices have not all left (R34, R35). `version` and `replyId` are those of its reply (R25). `segment` counts the FENCE commands of its queue before it (R51). `answered` says that its final status is in its reply; `owes` that its completion notice has yet to be formed; `replyOut` and `noticeOut` hold its reply and its notice, each with the path it takes, from their forming until they have left (R34, R44, R49); `newGen` is the config_gen that its change has brought; `removed` says that CMD_ABORT removed it before its start (R67), `fenceWaits` that it is a FENCE command which has found an earlier command of its queue without final status (R51), `behind` are the commands whose notices go before its own (R78), and `asked` is the version of the session that brought it (R61). -/
structure Held where
  serial    : Nat
  owner     : Owner
  origin    : Origin
  opcode    : BitVec 16
  cmd       : Cmd
  version   : Byte
  replyId   : BitVec 32
  immediate : Bool
  segment   : Nat
  phase     : Phase
  admitted  : Nat
  started   : Nat
  answered  : Bool := false
  owes      : Bool := false
  replyOut  : Option (Origin × Bytes) := none
  noticeOut : Option (Origin × Bytes) := none
  newGen    : Option (BitVec 16) := none
  removed   : Bool := false
  fenceWaits : Bool := false
  behind    : List Nat := []
  asked     : Byte := 3
  deriving DecidableEq, Repr

/-- An open session (R28 to R38). -/
structure Session where
  id           : BitVec 32
  origin       : Origin
  source       : BitVec 16
  version      : Byte
  queues       : Byte
  lock         : Bool
  stateNotices : Bool
  idleTimeout  : Nat
  lastAdmit    : Nat
  label        : BitVec 32
  noticeTag    : Nat
  finishing    : Option Nat
  deriving DecidableEq, Repr

/-- The fences of one queue: how many were admitted, and the segments in which a command ended other than OK (R51). -/
structure Fences where
  count  : Nat := 0
  failed : List Nat := []
  deriving DecidableEq, Repr

/-- A configuration change accepted for a later epoch (R17, R48): its epoch, the command it completes, and that command's opcode and parameter bytes. -/
structure Change where
  epoch  : Nat
  ref    : Nat
  opcode : BitVec 16
  params : Bytes
  deriving DecidableEq, Repr

/-- A packet that has come in a CONTROL frame while the command processor pauses (R92): its path, whose it is, the packet, the credit of its frame, and how many entries of the command ring came before it. -/
structure Arrival where
  origin : Origin
  owner  : Owner
  packet : Packet
  owe    : Option (Nat × Nat × Nat)
  ring   : Nat := 0
  deriving DecidableEq, Repr

/-- The command processor (chapter 02). `resetAfter` stands once a reset has been commanded (R98), with the time at which its reply left. `arrivals` are the packets that wait for the end of a firmware pause. `sent` is the record of every reply and notice in the order formed: the model's own trace, beside the rings and ports that carry them. -/
structure Cmds where
  sessions   : Tbl Session := []
  nextId     : BitVec 32 := 1
  nextSerial : Nat := 0
  held       : List Held := []
  fences     : Tbl Fences := []
  changes    : List Change := []
  counters   : Tbl Nat := []
  lastReject : List (Origin × Nat × Nat) := []
  sent       : List (Origin × Packet) := []
  waiting    : List (Origin × Bytes) := []
  arrivals   : List Arrival := []
  resetAfter : Option (Option Nat) := none
  deriving DecidableEq, Repr

/-! ## Front end, pans and grid (chapters 01, 04, 05) -/

/-- Power of a pan: off, on, or powering up since its sluice grant (R140). -/
inductive PanPower where
  | off | on | poweringUp
  deriving DecidableEq, Repr

/-- A strobe message: the grid strobe k, its instant T, the counter value of the GRID cycle it names (2^−40 ns) and the residual r (R146). -/
structure Strobe where
  k     : Nat
  time  : Nat
  cycle : Nat
  resid : Nat
  deriving DecidableEq, Repr

/-- A pan frame under way (R108): its strobe, the entry and slot next, the urgent conversions inserted, and the gain codes of the nine paths at the strike (8 is the test path). -/
structure PanFrame where
  k        : Nat
  time     : Nat
  entry    : Nat
  slot     : Nat
  inserted : Nat
  gains    : List Nat
  deriving DecidableEq, Repr

/-- A waiting urgent request (R113): a spot of a path (0 to 7 a channel, 8 the test path) for a command, or a handover that connects the roving converter for a loan or a substitution (with the command that asked for it), releases it from a loan, or gives a substituted pan back to its own converter. -/
inductive Urgent where
  | spot (path ref : Nat) (deferred : Nat)
  | connect (forLoan : Bool) (ref : Option Nat)
  | release
  | restore
  deriving DecidableEq, Repr

/-- A spot conversion under way (R115, R141): its path and command, the pan frames deferred, the strike time in 2^−16 ns, when its slot ends, and what it converts to. -/
structure SpotRun where
  path     : Nat
  ref      : Nat
  deferred : Nat
  strike16 : Nat
  ends     : Nat
  code     : Int
  clip     : Bool
  fails    : Bool
  common   : Bool
  deriving DecidableEq, Repr

/-- One sample on its way from a pan to the mash array, or a hole of `count` samples with the GAP reason (R131): channel, pan sample index, instant, code and record flags. -/
structure PanSample where
  ch    : Nat
  index : Nat
  time  : Nat
  code  : Int
  gap   : Nat
  count : Nat
  flags : BitVec 16
  deriving DecidableEq, Repr

/-- A comparator crossing event (R130): channel, alarm entry or exit, its time in 2^−16 ns, COARSE (R261) and the lost flag. -/
structure Crossing where
  ch     : Nat
  entry  : Bool
  time   : Nat
  coarse : Bool
  lost   : Bool
  came   : Nat := 0
  era    : Nat := 0
  deriving DecidableEq, Repr

/-- One pan (R108 to R123, R130). `strobes` holds the messages on the GRID → PAN crossing, `armed` those the pan has taken, `outWait` the samples that its queue to the mash array has refused for want of room (R330). (log 3: DESIGN CHOICE) -/
structure Pan where
  power      : PanPower := .off
  wasOn      : Bool := false
  seq        : List Byte := [0, 1, 2, 3, 4, 5, 6, 7]
  testGain   : Nat := 0
  testDac    : Int := 0
  testCheck  : Bool := false
  testTol    : Nat := 1
  testMisses : Nat := 0
  missAt     : Nat := 0
  checkFails : Nat := 0
  failed     : Bool := false
  unsampled  : Bool := false
  frame      : Option PanFrame := none
  urgent     : List Urgent := []
  spot       : Option SpotRun := none
  strobes    : List Strobe := []
  armed      : List Strobe := []
  sentTo     : Nat := 0
  samples    : List PanSample := []
  holes      : List PanSample := []
  outWait    : List PanSample := []
  events     : List Crossing := []
  eventLost  : Bool := false
  calUntil   : Option Nat := none
  calStart   : Nat := 0
  settleTo   : Nat := 0
  release    : Option (Nat × Nat × Nat) := none
  log2D      : Nat := 0
  powerRef   : Option Nat := none
  lastTestTap : Nat := 0
  deriving DecidableEq, Repr

/-- Which way a comparator is in alarm (R125). -/
inductive Alarm where
  | none | above | below | inside
  deriving DecidableEq, Repr

/-- One analogue channel: PGA, filter, strike and comparator (R103 to R107, R124 to R130, R147). -/
structure Chan where
  gain       : Nat := 0
  filter     : Bool := true
  settleNext : Nat := 0
  settleTo   : Nat := 0
  userDelay  : Int := 0
  lastTap    : Nat := 0
  cmCount    : Nat := 0
  cmFirst    : Nat := 0
  upper      : Int := 0
  lower      : Int := 0
  mode       : Nat := 0
  hyst       : Nat := 0
  route      : BitVec 4 := 0
  alarm      : Alarm := .none
  input      : Int := 0
  entries    : Nat := 0
  dropped    : Nat := 0
  tdcBusy    : Nat := 0
  tdcPending : List Crossing := []
  deriving DecidableEq, Repr

/-- The roving converter (R132 to R135, R467). -/
inductive Roving where
  | idle | loan (pan : Nat) | substituting (pan : Nat) | unavailable
  deriving DecidableEq, Repr

/-- What the two ends of a dual-clock queue have yet to see of each other (R329): when an item was last pushed and how many at that instant, which the consumer's empty flag does not show yet, and the same of the pops that the producer's full flag does not show. -/
structure DualClock where
  pushed : Nat × Nat := (0, 0)
  popped : Nat × Nat := (0, 0)
  deriving DecidableEq, Repr

/-- The front end and the grid (chapters 01, 04, 05); `epochAt` is the last grid epoch boundary that the hub has passed, and `queues` the dual-clock queues by number. -/
structure Front where
  pans      : Tbl Pan := []
  chans     : Tbl Chan := []
  results   : Tbl (BitVec 32) := []
  roving    : Roving := .idle
  rovingFails : Nat := 0
  rovingFailed : Bool := false
  nextSub   : Option (Nat × Option Nat) := none
  tripEnable : BitVec 4 := 0
  tripPolarity : BitVec 4 := 0
  tripPins  : BitVec 4 := 0
  cmTotal   : Nat := 0
  cmOrder   : List Nat := []
  gridN     : Nat := 10
  gridG0    : Nat := 0
  strikeFrom : Nat := 0
  lastK     : Nat := 0
  lastTime  : Nat := 0
  passedTo  : Nat := 0
  struck    : Bool := false
  lastResid : Nat := 0
  missed    : Nat := 0
  skipped   : Nat := 0
  laneFails : Tbl (List Nat) := []
  laneMapped : Tbl Nat := []
  afeLost   : List (Nat × Nat) := []
  endStrobe : List (Nat × Nat) := []
  temps     : List Int := [0, 0, 0, 0, 0, 0, 0, 0, 0, 0]
  epochAt   : Option Nat := none
  queues    : Tbl DualClock := []
  deriving DecidableEq, Repr

/-! ## Filter chain (chapter 06) -/

/-- One coefficient bank: the coefficients of FIR 1 to 3 and the biquad, and the four shifts. -/
structure Bank where
  fir1   : List Int := []
  fir2   : List Int := []
  fir3   : List Int := []
  biquad : List Int := [0, 0, 0, 0, 0]
  shifts : List Nat := [0, 0, 0, 0]
  deriving DecidableEq, Repr

/-- A swap accepted and waiting for the running fade to end: target bank, L, command, and whether it replaced a queued one (R181). -/
structure SwapReq where
  target   : Bool
  length   : Nat
  ref      : Nat
  replaced : Bool
  deriving DecidableEq, Repr

/-- One recipe (R166, R195). Bank B is active when `activeB`. -/
structure Recipe where
  isDefined : Bool := false
  w       : Nat := 0
  k       : Nat := 0
  stages  : BitVec 4 := 0
  t1      : Nat := 0
  m1      : Nat := 0
  t2      : Nat := 0
  m2      : Nat := 0
  t3      : Nat := 0
  m3      : Nat := 0
  q       : Nat := 0
  bankA   : Bank := {}
  bankB   : Bank := {}
  activeB : Bool := false
  fading  : Bool := false
  fadeLen : Nat := 0
  fadeTo  : Nat := 0
  queued  : Option SwapReq := none
  sat     : List Nat := [0, 0, 0, 0]
  settled : Nat := 0
  resets  : Nat := 0
  deriving DecidableEq, Repr

/-- The state of one stage of an instance: its history, newest word first, each word with its clip mark; the index f of its first input after the reset, and the index L of its last flagged output (R176). An empty history has yet to be preloaded (R175). -/
structure Stage where
  hist  : List (Int × Bool) := []
  first : Option Int := none
  last  : Int := -1
  deriving DecidableEq, Repr

/-- One instance of a recipe's state (R179): its stages, the y history of the biquad, the index of the last flagged stage-1 input, and whether a stage has saturated since the last output. -/
structure Instance where
  rank  : Stage := {}
  fir1  : Stage := {}
  fir2  : Stage := {}
  fir3  : Stage := {}
  bq    : Stage := {}
  ys    : List Int := []
  flagged : Option Int := none
  sats  : Bool := false
  deriving DecidableEq, Repr

/-- One reduction slot (R185 to R190): its setting, the block open since its first word, and the CROSS state. -/
structure Slot where
  op     : Nat := 0
  source : Nat := 0
  incl   : Bool := false
  m      : Nat := 1
  level  : Int := 0
  hyst   : Nat := 0
  block  : Option Nat := none
  keep   : BitVec 16 := 0
  used   : Nat := 0
  sum    : Int := 0
  sq     : Nat := 0
  lo     : Int := 0
  hi     : Int := 0
  cross  : Nat := 0
  above  : Option Bool := none
  flags  : Nat := 0
  time   : Nat := 0
  deriving DecidableEq, Repr

/-- One channel of the mash array, 0 to 319. -/
structure MashChan where
  recipe  : Option Nat := none
  inst    : Instance := {}
  oldInst : Option Instance := none
  fadeAt  : Nat := 0
  resetDue : Bool := true
  brineNew : Bool := true
  filtNew  : Bool := true
  slots   : Tbl Slot := []
  deriving DecidableEq, Repr

/-- A word on the MASH → MEM crossing: source (false brine, true filtered), channel, index, time, period, value, record flags, config_gen, and whether it is the first after a restart of its source (R219); a hole of `count` words carries the GAP reason. -/
structure MemWord where
  filtered : Bool
  ch       : Nat
  index    : Nat
  time     : Nat
  period   : Nat
  value    : Int
  flags    : BitVec 16
  gen      : BitVec 16
  restart  : Bool := false
  gap      : Nat := 0
  count    : Nat := 1
  deriving DecidableEq, Repr

/-- The mash array (chapter 06). `outWait` holds the words that the queue to MEM has refused for want of room (R330). -/
structure Mash where
  recipes : Tbl Recipe := []
  chans   : Tbl MashChan := []
  toMem   : List MemWord := []
  outWait : List MemWord := []
  deriving DecidableEq, Repr

/-! ## Triggers and capture (chapter 07) -/

/-- One trigger term (R218, R219): bytes 1 to 31 of its command; for the digital kinds whether it has its initial state, the states of modes 0 and 1 (LEVEL: below, above; WINDOW: inside; SLOPE: the rising and the falling condition true), and the newest words of its source, newest first, each with its time; for SCHEDULE its next time and the count left. -/
structure Term where
  bytes   : Bytes := []
  started : Bool := false
  lo      : Bool := false
  hi      : Bool := false
  hist    : List (Nat × Int) := []
  next    : Option Nat := none
  left    : Nat := 0
  deriving DecidableEq, Repr

/-- What a crossing event brings to a trigger: the lost flag (R130) and COARSE (R261). -/
structure TrigMarks where
  lost   : Bool := false
  coarse : Bool := false
  deriving DecidableEq, Repr

/-- One committed cask (R206, R214): serial, t_trig in 2^−16 ns, source and placement, trigger index, P_act, post samples written, flags, the source's period, its words once it has closed, and the measurement setting in force then. `head` marks the head of a STREAM_TAIL cask (R212). -/
structure Cask where
  serial  : Nat
  trig    : Nat
  source  : Nat
  place   : Nat
  nt      : Nat
  pAct    : Nat
  post    : Nat
  flags   : BitVec 16
  period  : Nat
  coarse  : Bool := false
  words   : List MemWord := []
  measure : Bytes := []
  head    : Bool := false
  deriving DecidableEq, Repr

/-- A capture group's life (table "CAPTURE_GET_STATUS result parameters"). A group with a cask armed is `armed`. -/
inductive GroupState where
  | undefined | disabled | armed | post | tail | starved | stopped
  deriving DecidableEq, Repr

/-- A readout in progress (CAPTURE_READOUT): its command, casks still to hand over, casks taken and the serial of the first. -/
structure Readout where
  ref   : Nat
  left  : Nat
  taken : Nat
  first : Nat
  deriving DecidableEq, Repr

/-- One capture group (R200 to R217). `ring` holds the words of the armed or committed cask, oldest first; `armedAt` is its first index and `armTime` the earliest time of a word it takes; `reached` counts, for each channel, one more than the newest index that arrived; `ranges` are the index ranges that casks covered; `tailTo` is where each channel's continuation records have come to (R212), and `waiting` a definition that waits for spilled words, with its command (R204). -/
structure Group where
  state    : GroupState := .undefined
  define   : Bytes := []
  words    : Nat := 0
  waiting  : Option (Nat × Bytes) := none
  terms    : Tbl Term := []
  measure  : Bytes := []
  ring     : List MemWord := []
  armedAt  : Nat := 0
  armTime  : Nat := 0
  reached  : Tbl Nat := []
  newest   : Option (Nat × Nat × Nat) := none
  current  : Option Cask := none
  casks    : List Cask := []
  ranges   : List (Nat × Nat) := []
  tailTo   : Tbl Nat := []
  serial   : Nat := 0
  committed : Nat := 0
  missed   : Nat := 0
  late     : Nat := 0
  shortPre : Nat := 0
  shortIgnored : Nat := 0
  starved  : Nat := 0
  compLost : Nat := 0
  firstMissed : Option Nat := none
  missedSince : Bool := false
  readouts : List Readout := []
  deriving DecidableEq, Repr

/-- A trigger that waits for its index (R206, R223): its time in 2^−16 ns, source (0 to 3 a term, 4 a fabric message, 5 a command) and placement, the groups it still concerns, the groups decided so far, whether its comparator event carried the lost flag, and the command that waits for it. -/
structure TimedTrigger where
  time   : Nat
  source : Nat
  place  : Nat
  groups : List Nat
  done   : List Nat := []
  failed : List Nat := []
  marks  : TrigMarks := {}
  ref    : Option Nat := none
  deriving DecidableEq, Repr

/-- The capture engine (chapter 07). `own` and `issued` hold fabric triggers to be sent: number and t_trig in 2^−16 ns, to the hub's own terms and to the fabric (R224); `linked` the commits that a gang tells its partner (R454). -/
structure Capture where
  groups : Tbl Group := []
  timed  : List TimedTrigger := []
  own    : List (Nat × Nat) := []
  issued : List (Nat × Nat) := []
  linked : List (Nat × Nat) := []
  deriving DecidableEq, Repr

/-! ## Edge stamps (chapter 08) -/

/-- One time-to-amplitude interpolator (R238, R241, R243): in service, its accepted calibration pair, rejections in a row, when its dead time ends, the edge it is charging, when it last took a pair, and the repeat of its pair in progress: when it ends, and the two codes. The edge holds the counter value of c2 and the increment (2^−40 ns), and its polarity. -/
structure Interp where
  inService : Bool := true
  a1        : Nat := 2000
  a2        : Nat := 4000
  rejects   : Nat := 0
  busyTo    : Nat := 0
  c2        : Option (Nat × Nat × Bool) := none
  calAt     : Nat := 0
  renewal   : Option (Nat × Nat × Nat) := none
  deriving DecidableEq, Repr

/-- A passed edge of an input whose stamp has not entered the queue (R242, R244, R246): its polarity, the time at which it came and the steps of fabric time before it, the interpolator that took it (none: it was lost at once) and its stamp, once made. -/
structure Flight where
  rising : Bool
  came   : Nat
  era    : Nat
  taker  : Option Bool
  time   : Option Nat := none
  deriving DecidableEq, Repr

/-- A lost edge (R242, R252, R257): the steps of fabric time before it, when it came in ns, and the stamp that it would have carried in 2^−16 ns. -/
structure Loss where
  era  : Nat
  came : Nat
  time : Nat
  deriving DecidableEq, Repr

/-- A stamp: time in 2^−16 ns, rising, taken by interpolator B, edges lost before it; when the edge came, the steps of fabric time before it, and the last rising and falling edges lost before it. -/
structure Stamp where
  time     : Nat
  rising   : Bool
  byB      : Bool
  lost     : Nat
  came     : Nat
  era      : Nat
  lostRise : Option Loss := none
  lostFall : Option Loss := none
  deriving DecidableEq, Repr

/-- One EDGE input (R235 to R247). `setting` is bytes 1 to 15 of EDGE_SET_INPUT and `stream` bytes 1 to 7 of EDGE_SET_STREAM; `line` holds the passed edges whose stamps are still to come, in their order; `lostNow`, `lostRise`, `lostFall` describe the edges lost since the last stamp that entered the queue. -/
structure Edge where
  setting   : Bytes := [0, 0, 0, 1, 0, 0, 0, 0, 0, 0, 0, 0, 0, 0, 0]
  stream    : Bytes := [0, 0, 0, 0, 0, 0, 0]
  prescale  : Nat := 0
  lastB     : Bool := true
  interpA   : Interp := {}
  interpB   : Interp := {}
  line      : List Flight := []
  queue     : List Stamp := []
  lostNow   : Nat := 0
  lostRise  : Option Loss := none
  lostFall  : Option Loss := none
  passed    : Nat := 0
  stamps    : Nat := 0
  lostDead  : Nat := 0
  lostFull  : Nat := 0
  rejected  : Nat := 0
  deriving DecidableEq, Repr

/-- An edge as an interval unit takes it (R250 to R261): its time in 2^−16 ns, when it came (ns) and the steps of fabric time before it, whether its time is COARSE, whether its event carries the lost flag, and the era and time of the last edge of its source and polarity lost before it. -/
structure Mark where
  time   : Nat
  came   : Nat
  era    : Nat
  coarse : Bool := false
  lost   : Bool := false
  loss   : Option Loss := none
  deriving DecidableEq, Repr

/-- One measurement unit (R250 to R258): mode 0 off, 1 interval, 2 frequency; its 24 setting bytes; whether it has fallen idle, whether it runs, when it was armed (2^−16 ns), in which era and whether by an edge that it used; the start and stop it holds, the edges that came while their side was taken (true: a start), the last losses of its start and stop edges; its gate opening and number, its stamps, the stamps that edges lost at its input would have carried, the stretches of fabric time that steps crossed; and its last result. -/
structure Unit8 where
  mode     : Nat := 0
  setting  : Bytes := []
  idle     : Bool := false
  active   : Bool := false
  armedAt  : Nat := 0
  armedEra : Nat := 0
  armedBy  : Bool := false
  start    : Option Mark := none
  stop     : Option Mark := none
  early    : List (Bool × Mark) := []
  lossStart : Option Loss := none
  lossStop : Option Loss := none
  tOpen    : Nat := 0
  gate     : Nat := 0
  stamps   : List Nat := []
  losses   : List Nat := []
  steps    : List (Nat × Nat) := []
  last     : Bytes := []
  deriving DecidableEq, Repr

/-- Edge stamps and measurement units (chapter 08); `era` counts the steps of fabric time. -/
structure Edges where
  inputs : Tbl Edge := []
  units  : Tbl Unit8 := []
  era    : Nat := 0
  deriving DecidableEq, Repr

/-! ## Streams, kiln and feed (chapters 09, 10) -/

/-- A record as it is formed or held (R303). `key` is stream_id [19:0]; `payload` holds bytes as laid out, and `samples` sample values not yet laid out or coded, 24 bits wide when `wide`. For a GAP record `index`, `first`, `last` (2^−16 ns), `reason`, `unit` and `replaced` are the fields of the table "GAP payload"; for an END record `reason` is its reason. `toCode` marks a record that the kiln has yet to code (R267), `coder` the predictor mask, reference and refresh interval under which it began where the stream's setting has changed since (R301), and `needs` names the reference stream whose samples its blocks use, with the first and last index used (R290); `was` and `lead` are the samples of a coded record and the bytes before its blocks, from which a standby has it plain (R445). `fixed` marks a record whose sequence stands already: one of a twin's copy or of a gang partner (R443, R446, R453). `address` is the stream address of a record formed before a pair dissolved (R458). -/
structure Record where
  key      : Nat
  kind     : Nat
  coding   : Nat := 0
  flags    : BitVec 16 := 0
  sequence : BitVec 32 := 0
  gen      : BitVec 16 := 0
  units    : Nat := 0
  index    : Nat := 0
  first    : Nat := 0
  period   : Nat := 0
  payload  : Bytes := []
  samples  : List Int := []
  wide     : Bool := false
  reason   : Nat := 0
  unit     : Nat := 0
  last     : Nat := 0
  replaced : Nat := 0
  format   : Nat := 2
  toCode   : Bool := false
  coder    : Option (Nat × Nat × Nat) := none
  needs    : Option (Nat × Nat × Nat) := none
  was      : List Int := []
  lead     : Nat := 0
  fixed    : Bool := false
  address  : Option Nat := none
  deriving DecidableEq, Repr

/-- A pending gap (R316): units missing, first index, first time (ns), last time (2^−16 ns), reason and unit code. -/
structure Gap where
  count  : Nat
  index  : Nat
  first  : Nat
  last   : Nat
  reason : Nat
  unit   : Nat
  deriving DecidableEq, Repr

/-- One stream (R309 to R317, STREAM_GET). `nextIndex` and `nextTime` (ns) belong to the first unit that has been neither produced nor counted missing; `afterFault` marks one that FAULT_HOLD ended and the next STATE_RUN opens again (R538). `arrived` is when the first unit of the open record reached MEM (R308); `claimSeq` the first sequence that this hub sends since it took duty, until the root acknowledges it (R282). -/
structure Stream where
  isOpen   : Bool := false
  ending   : Bool := false
  sequence : BitVec 32 := 0
  ack      : Option (BitVec 32) := none
  startSeq : BitVec 32 := 0
  records  : Nat := 0
  units    : Nat := 0
  gapUnits : Nat := 0
  pending  : Option Gap := none
  current  : Option Record := none
  arrived  : Nat := 0
  lastFirst : Nat := 0
  lastUnit : Nat := 0
  period   : Nat := 0
  afterGap : Bool := false
  calGap   : Bool := false
  awaiting : Bool := false
  resume   : Bool := false
  claimSeq : Option (BitVec 32) := none
  nextIndex : Nat := 0
  nextTime : Nat := 0
  afterFault : Bool := false
  deriving DecidableEq, Repr

/-- A record of the outbound path with its admission number (R321): how many of its bytes have been sent, once its transmission has begun, and by which port; for a forwarded one (R373) its bytes as they came, with its source, target and hop count; `via` the port of its first fragment (R374); and the port, class and units of the credit that its sending gives back (R322); `detach` marks a DETACH frame that stands behind the records of its subtree (R394), whose payload `raw` holds, and `event` a forwarded record of the EVENT class (R373). -/
structure OutRecord where
  body      : Record
  admission : Nat
  sent      : Option Nat := none
  raw       : Bytes := []
  source    : Nat := 0
  target    : Nat := 0
  hops      : Nat := 0
  owe       : Option (Nat × Nat × Nat) := none
  detach    : Bool := false
  event     : Bool := false
  via       : Port := .up
  deriving DecidableEq, Repr

/-- An EVENT entry (R526): class, time in 2^−16 ns, code and details. -/
structure EventEntry where
  cls  : Nat
  time : Nat
  code : Nat
  d0   : BitVec 32
  d1   : BitVec 32
  d2   : BitVec 32
  deriving DecidableEq, Repr

/-- The streams and the outbound path (R304 to R328). `table` is by stream_id [19:0]; `enabled` and `sizes` (units per record, max_latency in µs) are by stream kind × 65536 + channel or class. `closed` holds records formed and not yet admitted; `awaited` lists commands that complete after the END records of some streams (R96, R217); `eventDrops` counts the EVENT entries dropped by class (R320), and `eventTimes` holds the time of the newest entry of each (R319); `sent` is the model's own trace of the records that left on UP. -/
structure Streams where
  table     : Tbl Stream := []
  enabled   : Tbl Bool := []
  sizes     : Tbl (Nat × Nat) := []
  format    : Nat := 2
  spillLimit : Nat := 8192
  closed    : List Record := []
  buffer    : List OutRecord := []
  control   : List OutRecord := []
  spill     : List OutRecord := []
  nextAdm   : Nat := 0
  peak      : Nat := 0
  refused   : Nat := 0
  gapsAdm   : Nat := 0
  gapUnits  : Nat := 0
  eventsDropped : Nat := 0
  eventDrops : Tbl Nat := []
  acksIgnored : Nat := 0
  arisen    : List EventEntry := []
  eventTimes : Tbl Nat := []
  rateBits  : Nat := 0
  rateMs    : Nat := 0
  ratePrev  : Nat := 0
  notified  : BitVec 16 := 0
  awaited   : List (Nat × List Nat) := []
  sent      : List Record := []
  deriving DecidableEq, Repr

/-- Coding settings and coder state of one stream that the kiln may code (R280, R291, R300). -/
structure Coder where
  coding  : Nat := 0
  mask    : Nat := 0x3F
  ref     : Nat := 1
  refresh : Nat := 256
  forced  : Bool := false
  lastSeq : BitVec 32 := 0
  hist    : List Int := []
  refHist : Option Int := none
  count   : Nat := 0
  fresh   : Bool := true
  lastIndex : Option Nat := none
  lastPeriod : Nat := 0
  plainBytes : Nat := 0
  codedBytes : Nat := 0
  blocks  : Nat := 0
  rawBlocks : Nat := 0
  refs    : List (Nat × Int) := []
  deriving DecidableEq, Repr

/-- A sample, or a hole of `count` samples with a gap's reason, that a tap has taken from a record of a period, on its way to the mash array (R293). -/
structure TapWord where
  time   : Nat
  value  : Option Int
  count  : Nat := 1
  gap    : Nat := 0
  period : Nat
  deriving DecidableEq, Repr

/-- One expansion tap (R292, R293): its setting; the next index of its channel; the decoder's history; the records of its stream that the hub has forwarded and it has not decoded; the samples and holes on their way to the mash array; the period of the record whose samples last reached the array; the time of the last error logged; the newest samples with their times, for taps that refer to it; and a source index of its stream with its time and period, from a START or GAP record. -/
structure Tap where
  on      : Bool := false
  chan    : Nat := 0xFFFF
  stream  : BitVec 32 := 0
  rate    : Nat := 0
  wide    : Bool := false
  next    : Nat := 0
  hist    : List Int := []
  valid   : Bool := false
  queue   : List Bytes := []
  words   : List TapWord := []
  period  : Nat := 0
  errAt   : Option Nat := none
  recent  : List (Nat × Int) := []
  anchor  : Option (Nat × Nat × Nat) := none
  deriving DecidableEq, Repr

/-- The kiln job (R294 to R302): state (0 none, 1 running, 2 stopped, 3 ended), the bytes of KILN_JOB_START, its command, the output region in force with the bytes written into it, the limit, the input consumed and the output produced, blocks, outcome, check code, the offset of a failed block, and the coder's history. `running` says that the sluice has granted it. -/
structure Job where
  state    : Nat := 0
  params   : Bytes := []
  ref      : Nat := 0
  outOff   : Nat := 0
  outLen   : Nat := 0
  outPos   : Nat := 0
  limit    : Nat := 0
  inPos    : Nat := 0
  produced : Nat := 0
  samples  : Nat := 0
  blocks   : Nat := 0
  outcome  : Nat := 0
  check    : Nat := 0
  failedAt : Nat := 0
  hist     : List Int := []
  refHist  : Option Int := none
  running  : Bool := false
  deriving DecidableEq, Repr

/-- The kiln (chapter 09). `work` holds the workspace bytes; an unlisted byte reads 0 (R294). -/
structure Kiln where
  coders   : Tbl Coder := []
  lanesOut : List Nat := []
  laneFails : Tbl (List Nat) := []
  decompOut : Bool := false
  taps     : Tbl Tap := []
  workKiB  : Nat := 0
  workWait : Option (Nat × Nat) := none
  work     : List Host.Cell := []
  job      : Job := {}
  blocks   : Nat := 0
  failures : Nat := 0
  tapBlocks : Nat := 0
  tapErrors : Nat := 0
  lastCheck : Nat := 0
  lastTap  : Nat := 0
  deriving DecidableEq, Repr

/-- One feed channel 256 + o (R335, R336). -/
structure FeedChan where
  on     : Bool := false
  width  : Nat := 18
  period : Nat := 8
  first  : Nat := 0
  next   : Nat := 0
  skip   : Nat := 0
  deriving DecidableEq, Repr

/-- One sample of the feed FIFO (R334, R335): its virtual channel, index, instant and value; an entry with a GAP reason stands for `count` samples that are missing there: one of reason 9 is a SYNC item, of a count that may be 0, and takes room as a sample does, and one of another reason takes none. -/
structure FeedItem where
  ch    : Nat
  index : Nat
  time  : Nat
  value : Int := 0
  gap   : Nat := 0
  count : Nat := 1
  deriving DecidableEq, Repr

/-- The feed port (R333 to R339, FEED_GET_STATUS). `staging` holds the bytes of the item under way, and `partialSkip` how many bytes of a flushed item are still to come. The FIFO holds whole items. -/
structure Feed where
  enabled : Bool := false
  credit  : Bool := false
  high    : Nat := 24576
  low     : Nat := 8192
  staging : Bytes := []
  partialSkip : Nat := 0
  fifo    : List FeedItem := []
  holdN   : Bool := true
  owed    : Nat := 0
  chans   : Tbl FeedChan := []
  accepted : Nat := 0
  droppedFull : Nat := 0
  cutShort : Nat := 0
  discarded : Nat := 0
  syncGaps : Nat := 0
  behind  : Nat := 0
  pulses  : Nat := 0
  peak    : Nat := 0
  deriving DecidableEq, Repr

/-! ## Lanes (chapter 11) -/

/-- A 64b/66b block: whether its sync header is 0b10 (control) or 0b01 (data), and its payload (R346). -/
structure LineBlock where
  control : Bool
  payload : Bytes
  deriving DecidableEq, Repr

/-- The transmit coding of a port (R346 to R348, R354): the 58 newest scrambled bits, newest first; the logical lane that the next block goes to; the blocks that every lane has sent since its marker; the count of the next marker; the BIP8 so far of each logical lane; the count of training blocks. `out` is the model's own trace of the blocks sent, each with its logical lane. -/
structure LineTx where
  history : List Bool := []
  dealt   : Nat := 0
  index   : Nat := 0
  count   : Nat := 0
  bip     : Tbl Byte := []
  trained : Nat := 0
  out     : List (Nat × LineBlock) := []
  deriving DecidableEq, Repr

/-- One physical lane of a port: whether it is failed or inverted, its logical lane (255 none), since when loss of signal, loss of lock or loss of marker lock has stood, and which of its two causes loss of lock has (R361, R362), whether the partner has announced electrical idle; whether its next marker is the first of a training or wake, whose BIP8 is not judged (R348), the marker positions in a row without a valid marker and the index of the last valid one (R349); the equaliser settings for the next training (modes, peaking, c(−1), c(+1)) and the values in force (R352, R353); the status of the own transmit cursors, as byte 5 of the training block codes it; the six counters of `LANE_GET_COUNTERS`. -/
structure Lane where
  failed   : Bool := false
  inverted : Bool := false
  logical  : Nat := 255
  signalAt : Option Nat := none
  lockAt   : Option Nat := none
  freqLost  : Bool := false
  blockLost : Bool := false
  markerAt : Option Nat := none
  idle     : Bool := false
  unjudged : Bool := true
  missed   : Nat := 0
  marked   : Option Nat := none
  setting  : Bytes := [0, 0, 0, 0, 0]
  rxFixed  : Bool := false
  peaking  : Nat := 0
  txFixed  : Bool := false
  cMinus   : Nat := 0
  cPlus    : Nat := 8
  status   : Nat := 0
  counters : Tbl Nat := []
  deriving DecidableEq, Repr

/-- The lanes of a port (R343 to R367): the port state and training step as `LANE_GET_STATUS` codes them, rate, width, lanes in use, the rates and widths allowed, the partner's, the last result, the training runs, the time of the last state change and of the last step; for the run under way the rates and widths allowed, the rates still to try, the rate and width chosen, whether VERIFY has been repeated, whether the sluice has granted it, whether it follows a failure, whether it is a degrade training and whether it has found miswiring; the retrain commands that wait for its end; the 100 ms wait; since when the port is idle or off; when it last sent blocks of a frame; since when it wakes from lane off; the lane test with its command and end, and its mode; the transmit coding. -/
structure LanePort where
  lanes    : Tbl Lane := []
  state    : Nat := 1
  step     : Nat := 1
  rate     : Nat := 0
  width    : Nat := 0
  used     : List Nat := []
  rateMask : Nat := 31
  widthMask : Nat := 7
  partnerRates  : Nat := 0
  partnerWidths : Nat := 0
  result   : Nat := 0
  runs     : Nat := 0
  changedAt : Nat := 0
  stepAt   : Nat := 0
  allow    : Nat × Nat := (31, 7)
  pick     : Option (Nat × Nat) := none
  left     : Nat := 31
  again    : Bool := false
  granted  : Bool := false
  recovery : Bool := false
  degrade  : Bool := false
  miswired : Bool := false
  waiting  : List Nat := []
  waitFrom : Option Nat := none
  quietAt  : Nat := 0
  sentAt   : Nat := 0
  wakeAt   : Option Nat := none
  test     : Option (Nat × Nat) := none
  testMode : Nat := 0
  tx       : LineTx := {}
  deriving DecidableEq, Repr

/-! ## Links and topology (chapter 12) -/

/-- A frame that waits for its turn at a port, with the port, class and units of credit that its sending gives back, the forwarded record or own record it is a fragment of, and the counter as it was queued, by which the stamps of a TIME frame move on while it waits (R405). -/
structure Queued where
  frame  : Frame
  owe    : Option (Nat × Nat × Nat) := none
  record : Option OutRecord := none
  since  : Nat := 0
  deriving DecidableEq, Repr

/-- A sequenced frame in the replay buffer (R379): how often it has been sent, and for a fragment of an own or forwarded record that record. -/
structure Replay where
  frame  : Frame
  sends  : Nat
  record : Option OutRecord := none
  deriving DecidableEq, Repr

/-- One link (R368 to R394): its state and reason as `FABRIC_GET_PORT` codes them; the version in use and the highest offered at its start; the partner's last HELLO; partner-heard; the two link ids; whether it may resume and did; whether the child is attached, with its address, and whether ATTACH has been sent; the counters of both directions; per class the partner's grants and what has been charged of them, the own grants and what has been taken of them, the grants as last sent, and DATA units withheld; when a grant grew and when CREDIT went; when a HELLO went and whether HELLO asks to be attached again; whether a resend waits for credit, or for the lanes to wake; the replay buffer and when its ack last advanced; waiting frames; fragments of records under way per class with their units and source; the counters of `FABRIC_GET_COUNTERS`; violations and retrains by time; times of the link; whether NO_COMMON_VERSION has been logged. `sent` is the model's own trace of the frames sent. -/
structure Link where
  state    : Nat := 0
  reason   : Nat := 0
  version  : Nat × Nat := (0, 0)
  offered  : Nat × Nat := (2, 0)
  peer     : Bytes := []
  heard    : Bool := false
  ownId    : Option (BitVec 32) := none
  peerId   : Nat := 0
  peerHub  : Nat := 0
  mayResume : Bool := false
  resumed  : Bool := false
  attached : Bool := false
  child    : Nat := 0
  attachSent : Bool := false
  txSeq    : Nat := 0
  rxNext   : Nat := 0
  granted  : Tbl Nat := []
  charged  : Tbl Nat := []
  given    : Tbl Nat := []
  taken    : Tbl Nat := []
  told     : Tbl Nat := []
  withheld : Nat := 0
  grewAt   : Option Nat := none
  creditAt : Nat := 0
  helloAt  : Option Nat := none
  helloOwed : Bool := false
  creditHold : Bool := false
  resendOwed : Bool := false
  replay   : List Replay := []
  ackAt    : Nat := 0
  waiting  : List Queued := []
  frags    : Tbl (Bytes × Nat) := []
  counters : Tbl Nat := []
  violations : List Nat := []
  violLogAt : Option Nat := none
  retrains : List Nat := []
  downAt   : Nat := 0
  changedAt : Nat := 0
  versionLogged : Bool := false
  sent     : List Frame := []
  deriving DecidableEq, Repr

/-- The fabric ports and topology (R343 to R398): the hub's address, the previous one, its hop count (255 none), whether it is attached; T_det (ms) and V; the DATA grants of DN0 and DN1 in KiB; the highest version offered; the routes; ports and links by port code; the rejoin and leave commands under way; the restart entries still to come with the time of their ASSIGN and whether their lateness is logged, and the streams named so far; records discarded at a restart; and whether UP is attached, as last seen, and since when it has not been (R449). -/
structure Fabric where
  address  : BitVec 12 := 0
  previous : BitVec 12 := 0
  hops     : Nat := 255
  attached : Bool := false
  detectMs : Nat := 50
  violations : Nat := 32
  grants   : Nat × Nat := (1024, 1024)
  maxVersion : Nat × Nat := (2, 0)
  below    : List (Nat × Port) := []
  ports    : Tbl LanePort := []
  links    : Tbl Link := []
  rejoin   : List Nat := []
  leaving  : Option (Nat × Bool) := none
  restart  : Option (Nat × Nat × Bool) := none
  named    : List Nat := []
  discarded : Nat := 0
  wasAttached : Bool := false
  lostAt   : Nat := 0
  deriving DecidableEq, Repr

/-! ## Fabric time (chapter 13) -/

/-- Fabric time at one port (R402 to R408): asymmetry A in ps; the accepted delays and their mean in 2^−40 ns; outliers in a row; counters; the sequence ids of SYNC, PDELAY_REQ and PDELAY_RESP; the outstanding request with t1; and when the last SYNC and request went. -/
structure TimePort where
  asym     : Int := 0
  delays   : List Int := []
  mean     : Option Int := none
  outliers : Nat := 0
  accepted : Nat := 0
  discarded : Nat := 0
  syncSent : Nat := 0
  syncRcvd : Nat := 0
  respSent : Nat := 0
  seqSync  : Nat := 0
  seqReq   : Nat := 0
  seqResp  : Nat := 0
  asked    : Option (Nat × Int) := none
  syncAt   : Option Nat := none
  askedAt  : Option Nat := none
  deriving DecidableEq, Repr

/-- Fabric time (R399 to R429). `counter` counts in 2^−40 ns, modulo 2^104, and `inc` is 8.40. `phase` is as `TIME_GET_STATUS` codes it (FREQ with no sync counted is STEP); `count` the syncs counted in it; `good`, `far`, `unlocked`, `locked` runs of syncs within W_lock, beyond W_loss, unlocked and locked; `regain` says that a regain is under way (R418). `fit` are the FREQ points; `integral` I_k, `base` inc_F; `values` the newest servo values; `bridgeAt` when a bridge began. The last accepted SYNC: its time, stamp, sequence id, flags, interval code and hop count. Offsets and stamps are in 2^−40 ns. `stepAt` is the counter after the last step. Then the counters, the settings (R429), local reference, outputs and reference inputs, with the increment in force as TREF_IN was measured, the slew of local source 2, and when PPS_IN last had an edge or source 2 began (R427). The interpolator pair of PPS_IN is input 16 of `Edges` (R425). -/
structure Time where
  counter  : Nat := 0
  inc      : Nat := 2 ^ 40
  phase    : Nat := 0
  count    : Nat := 0
  good     : Nat := 0
  far      : Nat := 0
  unlocked : Nat := 0
  locked   : Nat := 0
  regain   : Bool := false
  fit      : List (Int × Int) := []
  integral : Int := 0
  base     : Nat := 2 ^ 40
  values   : List Nat := []
  held     : Nat := 2 ^ 40
  bridgeAt : Option Nat := none
  syncAt   : Option Nat := none
  syncRx   : Option Int := none
  syncSeq  : Option Nat := none
  flags    : BitVec 8 := 0
  parentCode : Nat := 3
  parentHops : Nat := 255
  parentRoot : Bool := false
  offset   : Int := 0
  stepAt   : Nat := 0
  steps    : Nat := 0
  clamps   : Nat := 0
  accepted : Nat := 0
  discarded : Nat := 0
  losses   : Nat := 0
  changedAt : Nat := 0
  code     : Nat := 3
  kp       : Nat := 16384
  ki       : Nat := 1024
  wLock    : Nat := 100
  wLoss    : Nat := 1000
  stepLimit : Nat := 1000
  bridgeMs : Nat := 50
  ageing   : Int := 0
  applied  : Int := 0
  source   : Nat := 0
  fellBack : Bool := false
  aligned  : Bool := false
  ppsOn    : Bool := false
  ppsOffset : Nat := 0
  ppsWidth : Nat := 1000
  ppsNext  : Option (Nat × Nat × Nat) := none
  ppsRose  : Option Nat := none
  trefOn   : Bool := false
  ppsIn    : List Int := []
  trefIn   : Bool := false
  trefErr  : Int := 0
  trefInc  : Nat := 2 ^ 40
  slew     : Int := 0
  ppsSeen  : Nat := 0
  ports    : Tbl TimePort := []
  deriving DecidableEq, Repr

/-! ## Twinning (chapter 14) -/

/-- A mirrored command whose reply waits for MIRROR_DONE (R440): its number, the command, its own status, detail and result, whether its reply is held, and when it was sent. -/
structure Mirror where
  number : Nat
  ref    : Nat
  status : Nat
  detail : Nat
  result : Bytes
  holds  : Bool
  sentAt : Nat
  deriving DecidableEq, Repr

/-- A COPY that waits for its COPY_ACK (R441, R444): cycle, the admission number up to which it lists records, and when it was sent. -/
structure Copy where
  cycle  : Nat
  upTo   : Nat
  sentAt : Nat
  deriving DecidableEq, Repr

/-- A command that another hub of the gang executes for one of this hub's (R452, R453): the number by which its replies are told, the command here, and for a `CMD_ABORT` the queue and opcode of the command that it names (R67). -/
structure Relay where
  key  : Nat
  ref  : Nat
  tail : Bytes := []
  deriving DecidableEq, Repr

/-- Twinning (R430 to R458): the mode, whether the pair has formed, the role as `TWIN_GET_STATUS` codes it, the stream address, the partner's address, state and HEARTBEAT flags; SYNCED and degraded; when a heartbeat last came by link and by pin, and which losses have been logged; the two interlock pins, since when `DUTY_IN` has been high (R450) or low, the claim window with whether `DUTY_IN` rose in it, a retreat that waits for the next low; RELEASE set and seen; the generator's last heartbeats by link and by pin; T_c, a T_c that waits for its multiple, T_yield and the time source; cycle numbers; entries of the cycle under way, and block count and flags of each coder as last copied (R441); copies not acknowledged; the admission number below which records are released; mirrors under way; what a standby retains; the pairing commands with their times, and the swap; whether the streams of an unsynchronised claim wait for watermarks; mismatches in a row; counters; the last duty change; whether a pair in `SHADOW` samples; whether the duty hub waits for the standby to see that the pair is unsynchronised; whether the hub may take no duty until it pairs again (R539); whether streams begin at the next epoch (R446); whether a gang partner stands for its lead on UP (R455, R456); of retained records discarded, by stream, the first sequence, how many and their units (R446); messages that wait to be sent over TWIN; the newest linked triggers received (R454); whether the hub has claimed duty, and its streams acknowledged since, whose blocks need not be fresh (R282). -/
structure Twin where
  mode      : Nat := 0
  paired    : Bool := false
  role      : Nat := 0
  streamAddr : Nat := 0
  partner   : Nat := 0
  partnerState : Nat := 0
  partnerFlags : BitVec 8 := 0
  partnerMode : Nat := 0
  synced    : Bool := false
  degraded  : Bool := false
  linkAt    : Option Nat := none
  pinAt     : Option Nat := none
  linkLost  : Bool := false
  pinLost   : Bool := false
  bothLost  : Bool := false
  faulted   : Bool := false
  dutyOut   : Bool := false
  tookDuty  : Bool := false
  proven    : List Nat := []
  dutyIn    : Bool := false
  dutyInAt  : Option Nat := none
  lowSince  : Option Nat := none
  windowAt  : Option Nat := none
  sawHigh   : Bool := false
  retreated : Bool := false
  release   : Bool := false
  releaseSeen : Bool := false
  beatAt    : Option Nat := none
  pinBeatAt : Option Nat := none
  pinLevel  : Bool := false
  cycleUs   : Nat := 100
  nextUs    : Option Nat := none
  yieldUs   : Nat := 1000
  timeSrc   : Nat := 0
  cycle     : Nat := 0
  aligned   : Nat := 0
  syncDue   : Bool := false
  records   : List Bytes := []
  casks     : List Bytes := []
  coders    : Tbl (Nat × Nat) := []
  copies    : List Copy := []
  released  : Nat := 0
  mirrorNo  : Nat := 0
  mirrors   : List Mirror := []
  retained  : List OutRecord := []
  pairRefs  : List (Nat × Nat) := []
  swap      : Option (Nat × Nat) := none
  swapStage : Nat := 0
  unsync    : Bool := false
  mismatches : Nat := 0
  relays    : List Relay := []
  counters  : Tbl Nat := []
  changedAt : Nat := 0
  claimedAt : Option Nat := none
  lockstep  : Bool := false
  desynced  : Bool := false
  barred    : Bool := false
  startDue  : Bool := false
  startAsked : Bool := false
  asLead    : Bool := false
  dropped   : Tbl (Nat × Nat × Nat) := []
  relayTag  : Nat := 128
  outbox    : List Bytes := []
  heardTrig : List (Nat × Nat) := []
  deriving DecidableEq, Repr

/-! ## Calibration (chapter 15) -/

/-- A background rotation (R465 to R469): the command it serves, its pans, the temperatures at its start, the strike taps measured, the pans its converter pass has left (32 is the roving converter), the pan it has asked a loan for, what it has done, and whether it covers every powered pan (R466). -/
structure Rotation where
  ref      : Option Nat
  mask     : Nat
  temps    : List Int
  targets  : List (Nat × Nat)
  strikeDone : Bool
  left     : List Nat
  asked    : Option Nat
  done     : Nat
  rejected : Nat
  skipped  : Nat
  start    : Nat
  every    : Bool
  deriving DecidableEq, Repr

/-- A foreground pass (R470 to R474): when the sluice granted it, when its last interruption ended, pans not yet started, and pans under interruption. -/
structure ForePass where
  ref      : Nat
  parallel : Bool
  mask     : Nat
  epoch    : Nat
  granted  : Option Nat := none
  entered  : Bool := false
  freeAt   : Nat := 0
  left     : List Nat
  running  : List Nat := []
  done     : Nat := 0
  rejected : Nat := 0
  skipped  : Nat := 0
  start    : Nat := 0
  lead     : Nat := 0
  deriving DecidableEq, Repr

/-- Calibration (chapter 15). `live` and `staging` hold the bytes of the two images; an unlisted byte holds its nominal value (R477). -/
structure Cal where
  mode       : Nat := 1
  threshold  : Nat := 200
  declared   : Nat := 4096000
  measured   : Nat := 0
  rejections : Nat := 0
  skips      : Nat := 0
  lastReason : Nat := 0
  lastPan    : Nat := 0
  lastEnd    : Nat := 0
  firstDone  : Bool := false
  rotation   : Option Rotation := none
  waiting    : Option (Option Nat × Nat) := none
  fore       : Option ForePass := none
  streaks    : Tbl Nat := []
  live       : List Host.Cell := []
  staging    : List Host.Cell := []
  page       : Nat := 0
  view       : Bool := false
  stagedChanged : Bool := false
  applyResult : Nat := 255
  deriving DecidableEq, Repr

/-! ## Power and the sluice (chapter 16) -/

/-- Tokens on VDD, on AVP and AVN, and on VDDS. -/
structure Tokens where
  vdd  : Nat := 0
  av   : Nat := 0
  vdds : Nat := 0
  deriving DecidableEq, Repr

/-- A request to the sluice (R491 to R495): its heavy operation, unit, cost, queue, the command it serves, when it was entered and its deadline. A granted one carries the time of its grant in `entered`. -/
structure Request where
  op       : Nat
  unit     : Nat
  cost     : Tokens
  recovery : Bool
  ref      : Option Nat
  entered  : Nat
  deadline : Nat
  deriving DecidableEq, Repr

/-- The sluice (R492). -/
structure Sluice where
  budget   : Tokens := { vdd := 64, av := 64, vdds := 32 }
  reserve  : Tokens := { vdd := 16, av := 16, vdds := 16 }
  timeout  : Nat := 100
  normal   : List Request := []
  recovery : List Request := []
  granted  : List Request := []
  grants   : Nat := 0
  timeouts : Nat := 0
  longest  : Nat := 0
  headSince : Nat := 0
  deriving DecidableEq, Repr

/-- Power states (R482 to R490): tolerances and present states of groups 0 to 5 (the ports' levels stand in their port states), since when a group has been idle, since when the conditions of R489 have held in READY, DORMANT entries, the end of the wake hold, and the POWER_WAKE commands that wait for DORMANT to end. -/
structure Power where
  tolerance : List Nat := [0, 0, 0, 0, 0, 0]
  states    : List Nat := [0, 0, 0, 0, 0, 0]
  entries   : Nat := 0
  holdTo    : Nat := 0
  idleAt    : Tbl Nat := []
  calmAt    : Option Nat := none
  wakes     : List Nat := []
  deriving DecidableEq, Repr

/-! ## Faults (chapter 18) -/

/-- One fault-log entry (R524). -/
structure LogEntry where
  serial   : Nat
  cls      : Nat
  island   : Nat
  code     : Nat
  time     : Nat
  frac     : Nat
  inst     : Nat
  d0       : BitVec 32
  d1       : BitVec 32
  withheld : Nat
  pinned   : Bool
  inBoot   : Bool
  deriving DecidableEq, Repr

/-- The fault log and memory protection (chapter 18). The log is a table by slot, 0 to 255; `withheld` counts by fault code; `fatal` is the Fatal cause with the slot of its entry; `mem` holds the corrected and uncorrectable counts of the four stores; `injected` the erroneous cask words with whether two bits are wrong; `crcInject` the ports whose next sequenced frame goes out with a CRC error; `dead` the dead islands, each with the time of its death. -/
structure Faults where
  log        : Tbl LogEntry := []
  nextSerial : Nat := 0
  counts     : Tbl Nat := []
  highest    : Option Nat := none
  lastAt     : Nat := 0
  withheld   : Tbl Nat := []
  mirror     : BitVec 8 := 0x3F
  fatal      : Option (Nat × Nat) := none
  mem        : Tbl Nat := []
  scrubEvery : Nat := 60
  scrubDue   : Option Nat := some 60000000000
  scrubFrom  : Option Nat := none
  scrubAsked : Bool := false
  scrubDone  : Nat := 0
  scrubSkipped : Nat := 0
  scrubEnd   : Nat := 0
  injected   : List (Nat × Bool) := []
  crcInject  : List Nat := []
  dead       : List (Nat × Nat) := []
  deriving DecidableEq, Repr

/-! ## Safety island (chapter 17) -/

/-- A cross-comparison message (R503): the cycle count, accepted input levels, commanded outputs, demand latches, DISCREPANCY latches by input pair, READBACK latches by output pair, channel fault latches (their bits as the table "Safety fault latches" gives), the CRCs of the set in force and of the pending set, the valid release edges judged so far and those of them consumed, the `SFB` levels sampled, and the output pairs whose pulse is announced and running. -/
structure SafeMsg where
  cycle    : Nat
  levels   : Nat
  souts    : Nat
  demand   : Nat
  disc     : Nat
  readback : Nat
  latches  : Nat
  crc      : Option Nat
  pendCrc  : Option Nat
  releases : Nat
  used     : Nat
  sfb      : Nat
  announced : Nat
  pulsing  : Nat
  deriving DecidableEq, Repr

/-- One safety channel (R502 to R519). Masks are by input or output pair. `levels` are the accepted input levels and `counts` the samples in a row that differ from them; `disc`, `discShown`, `discCount` belong to DISCREPANCY; `cmd` are the commanded outputs and `pins` those at the balls; `age` counts cycles since an output's last commanded change and `misses` its mismatches in a row; `pulse` is 0 none, 1 announced, 2 written low, 3 low at the ball, and `pulseAge` counts cycles since the pair turned on or was tested; `press` counts cycles of the present press; `releases` counts valid release edges, `used` those that a reset or a timeout has consumed, `releaseAge` the age of the one outstanding, and `partnerUsed`, `partnerAge` the same of the partner's; `silent` counts cycles without a message, `window` and `inWindow` the cycles and messages of the present 1,000; `ccClean`, `oscClean` the cycles since the cause was last present; `differ` the cycles of set mismatch and `newSet` a set confirmed since PARAMETER latched; `set`, `waiting` the parameter set in force and the pending one; `out` the message on its way to the partner and `heard` the partner's latest. -/
structure SafeChan where
  held      : Bool := true
  enable    : Bool := false
  cycle     : Nat := 0
  levels    : Nat := 0
  counts    : Tbl Nat := []
  disc      : Nat := 0
  discShown : Nat := 0
  discCount : Tbl Nat := []
  readback  : Nat := 0
  latches   : Nat := 0
  demand    : Nat := 15
  cmd       : Nat := 0
  pins      : Nat := 0
  sfb       : Nat := 0
  age       : Tbl Nat := []
  misses    : Tbl Nat := []
  pulse     : Tbl Nat := []
  pulseAge  : Tbl Nat := []
  press     : Nat := 0
  releases  : Nat := 0
  used      : Nat := 0
  releaseAge : Nat := 0
  partnerUsed : Nat := 0
  partnerAge : Nat := 0
  silent    : Nat := 0
  window    : Nat := 0
  inWindow  : Nat := 0
  ccClean   : Nat := 0
  oscClean  : Nat := 0
  differ    : Nat := 0
  newSet    : Bool := false
  set       : Option Bytes := none
  waiting   : Option Bytes := none
  out       : Option SafeMsg := none
  heard     : Option SafeMsg := none
  deriving DecidableEq, Repr

/-- The safety island as the hub sees it: its two channels, and on the hub's side the writes since reset, the session that wrote the pending set with its slot and the time of the reply, the confirmation under way, the counters of `SAFETY_GET_COUNTERS`, what each channel made of the last accepted reset (pairs turned on, pairs refused), the pairs that were on, and the status last seen with the time of its change. -/
structure Safety where
  a         : SafeChan := {}
  b         : SafeChan := {}
  writes    : Nat := 0
  writer    : Option (Nat × BitVec 32) := none
  writtenAt : Nat := 0
  confirm   : Option Nat := none
  counters  : Tbl Nat := []
  resetA    : Option (Nat × Nat) := none
  resetB    : Option (Nat × Nat) := none
  wasOn     : Nat := 0
  seen      : Bytes := []
  changedAt : Nat := 0
  deriving DecidableEq, Repr

/-! ## Serial ports and registers (chapter 19) -/

/-- A flash operation (R556): the command, whether it erases, its address, the bytes erased or programmed, when it was asked for, and whether the sluice has granted it and it runs, with the time from which. -/
structure FlashOp where
  ref     : Nat
  erase   : Bool
  addr    : Nat
  size    : Nat
  data    : Bytes := []
  asked   : Bool := false
  since   : Option Nat := none
  deriving DecidableEq, Repr

/-- The serial ports (R543 to R561): SP0_CTRL and SP1_CTRL, with a write to the second that waits until SP1 is idle; the last frame's rejection reason, READ_END and write_discarded, and the words that the hub drove in it; when the next poll is due, and from when RDY is high again; the rings, with the packets held for room; the counters 0x00_4040 to 0x00_406C by word; the time snapshot from 0x00_3004 up; the flash contents, an unlisted byte erased; the operations in order of start; window reads that wait for their region, and flash reads that do; the last status register; the bytes of the last window line; SPI transfers made; and flash operations completed since reset. -/
structure Serial where
  sp0Ctrl  : BitVec 32 := 0x00641800
  sp1Ctrl  : BitVec 32 := 0x00000018
  sp1Next  : Option (BitVec 32) := none
  reason   : Nat := 0
  readEnd  : Bool := false
  writeEnd : Bool := false
  driven   : List Nat := []
  polledAt : Nat := 0
  rdyFrom  : Nat := 0
  commands : List Bytes := []
  replies  : List Bytes := []
  held     : List Bytes := []
  counters : Tbl Nat := []
  snap     : Bytes := []
  flash    : List Host.Cell := []
  ops      : List FlashOp := []
  winReads : List Nat := []
  reads    : List Nat := []
  status   : Byte := 0
  line     : Bytes := []
  transfers : Nat := 0
  opsDone   : Nat := 0
  deriving DecidableEq, Repr

/-! ## The hub -/

/-- The state of the hub. `pending` is the queue of commands and events that wait, first in, first out. (log 3: DESIGN CHOICE) -/
structure State where
  pending : List Instr := []
  sys     : Sys := {}
  cmds    : Cmds := {}
  front   : Front := {}
  mash    : Mash := {}
  capture : Capture := {}
  edges   : Edges := {}
  streams : Streams := {}
  kiln    : Kiln := {}
  feed    : Feed := {}
  fabric  : Fabric := {}
  time    : Time := {}
  twin    : Twin := {}
  cal     : Cal := {}
  power   : Power := {}
  sluice  : Sluice := {}
  faults  : Faults := {}
  safety  : Safety := {}
  serial  : Serial := {}
  deriving DecidableEq, Repr

/-- A reason why a step stops with a fault. The block has none: every row of the table has an effect that the spec gives. -/
inductive Fault where
  /-- Raised by no meaning; it keeps the type inhabited. Safe. -/
  | none
  deriving DecidableEq, Repr

/-- A reason why a command has no meaning. -/
inductive Refusal where
  /-- Raised by an arm of `exec` whose meaning is not written. Safe. -/
  | notModelled (mnemonic : String)
  deriving DecidableEq, Repr

/-- The state right after reset: the hub in RESET (R71), every register at the value the spec gives for reset and otherwise at the value its log entry names, nothing pending. (log 2: DESIGN CHOICE; 3: DESIGN CHOICE) -/
def State.reset : State := {}

end Sys2Proof.Machine
end

