-- ==== Sys2Proof/Machine/Flags.lean ====
section
/-! DEFINITION. Codes, flags and checks: status and state codes, header flags, fault classes and islands, command counters, legality by state, and the CRCs. -/
namespace Sys2Proof.Machine

open Sys2Proof

/-! ## Status codes (R56) -/

/-- `OK`. -/
abbrev stOk : Nat := 0x00
/-- `ACCEPTED`. -/
abbrev stAccepted : Nat := 0x01
/-- `MALFORMED`. -/
abbrev stMalformed : Nat := 0x10
/-- `BAD_OPCODE`. -/
abbrev stBadOpcode : Nat := 0x11
/-- `BAD_PARAM`. -/
abbrev stBadParam : Nat := 0x12
/-- `BAD_STATE`. -/
abbrev stBadState : Nat := 0x13
/-- `BAD_VERSION`. -/
abbrev stBadVersion : Nat := 0x14
/-- `TAG_BUSY`. -/
abbrev stTagBusy : Nat := 0x15
/-- `NO_RESOURCE`. -/
abbrev stNoResource : Nat := 0x16
/-- `DENIED`. -/
abbrev stDenied : Nat := 0x17
/-- `ADMIT_TIMEOUT`. -/
abbrev stAdmitTimeout : Nat := 0x18
/-- `ABORTED`. -/
abbrev stAborted : Nat := 0x19
/-- `SAFETY_LOCKED`. -/
abbrev stSafetyLocked : Nat := 0x1A
/-- `INTERNAL`. -/
abbrev stInternal : Nat := 0x20

/-- The counter that a status increments, as a word of the table "CMD_STATS result parameters" (R42). -/
def counterOf (status : Nat) : Nat :=
  match status with
  | 0x10 => 2 | 0x14 => 3 | 0x17 => 4 | 0x15 => 5 | 0x16 => 6 | 0x11 => 7 | 0x12 => 8
  | 0x13 => 9 | 0x19 => 10 | 0x18 => 13 | 0x1A => 14 | 0x20 => 15 | _ => 12

/-- The code of a state (table "State codes"). -/
def HubState.code : HubState → Nat
  | .reset => 0 | .boot => 1 | .discover => 2 | .timelock => 3 | .ready => 4 | .calibrate => 5
  | .run => 6 | .reconfigure => 7 | .shadow => 8 | .dormant => 9 | .holdover => 10 | .faultHold => 11

/-- States in which records are formed for delivery or in lockstep (R71). -/
def HubState.streaming : HubState → Bool
  | .run | .reconfigure | .holdover | .shadow => true
  | _ => false

/-- The header flag FENCE. -/
def cmdFence (c : Cmd) : Bool := c.flags.getLsbD 0
/-- The header flag NOTIFY. -/
def cmdNotify (c : Cmd) : Bool := c.flags.getLsbD 1
/-- The header flag DRY_RUN. -/
def cmdDryRun (c : Cmd) : Bool := c.flags.getLsbD 2

/-! ## Legality by state (R59) -/

/-- A cell of the table "Group legality by state"; `p` and `l` leave the choice to the owning chapter. -/
inductive Legal where
  | a | q | p | d | l
  deriving DecidableEq, Repr

/-- The table "Group legality by state". RESET and BOOT take no commands; their cells are as queries only. -/
def groupLegal (group : Nat) (h : HubState) : Legal :=
  let row : List Legal := match group with
    | 0x00 => [.a, .a, .a, .a, .a, .a, .a, .a, .a, .a]
    | 0x01 => [.a, .a, .a, .a, .a, .a, .d, .a, .a, .l]
    | 0x02 => [.q, .a, .a, .q, .a, .a, .d, .q, .a, .q]
    | 0x03 => [.q, .q, .a, .q, .p, .p, .d, .q, .q, .q]
    | 0x04 => [.q, .a, .a, .a, .a, .a, .d, .q, .a, .q]
    | 0x05 => [.q, .a, .a, .a, .a, .a, .d, .q, .a, .q]
    | 0x06 => [.q, .a, .a, .a, .a, .a, .d, .q, .a, .q]
    | 0x07 => [.q, .a, .a, .a, .a, .a, .d, .q, .a, .q]
    | 0x08 => [.q, .a, .a, .a, .a, .a, .p, .q, .a, .q]
    | 0x09 => [.a, .a, .a, .a, .a, .a, .a, .a, .a, .q]
    | 0x0A => [.q, .a, .a, .a, .a, .a, .p, .a, .a, .q]
    | 0x0B => [.a, .a, .a, .a, .a, .a, .a, .q, .a, .q]
    | 0x0C => [.q, .q, .a, .a, .p, .p, .d, .q, .p, .q]
    | 0x0D => [.a, .a, .a, .a, .a, .a, .a, .a, .a, .q]
    | 0x0E => [.q, .q, .a, .q, .q, .q, .q, .q, .q, .q]
    | 0x0F => [.a, .a, .a, .a, .a, .a, .a, .a, .a, .a]
    | 0x10 => [.a, .a, .a, .q, .a, .p, .a, .q, .p, .q]
    | _ => []
  row.getD (h.code - 2) .q

/-- Whether an opcode is a query (R58). -/
def isQuery (op : Nat) : Bool :=
  let g := op / 256
  let n := op % 256
  (1 ≤ g && g ≤ 0x10 && 1 ≤ n && n ≤ 0x0F) || (g == 9 && 0x80 ≤ n && n ≤ 0x8F)

/-! ## Fault codes (R525, R585) -/

/-- The class of a fault code (table "Fault codes"). -/
def faultClass (code : Nat) : Nat :=
  if 0xF0 ≤ code then 5
  else match code with
    | 0x0002 => 2 | 0x0003 => 5 | 0x0011 => 2 | 0x0012 => 2 | 0x0015 => 2 | 0x0021 => 2
    | _ =>
      if 0x30 ≤ code && code ≤ 0x35 then 1
      else if 0x40 ≤ code && code ≤ 0x42 then 3
      else if 0x50 ≤ code && code ≤ 0x54 then 4
      else 0

/-- The source island of a fault code (table "Fault code islands"). -/
def faultIsland (code : Nat) : Nat :=
  match code with
  | 0x0012 => 1 | 0x0013 => 1 | 0x0014 => 1
  | 0x0020 => 3 | 0x0021 => 3 | 0x0022 => 3 | 0x0023 => 3
  | 0x0001 => 4 | 0x0002 => 4 | 0x0003 => 4 | 0x0004 => 4 | 0x00F3 => 4 | 0x0016 => 4
  | 0x0060 => 6 | 0x0061 => 6 | 0x0062 => 6 | 0x0063 => 6 | 0x00F0 => 6 | 0x00F4 => 6
  | 0x0010 => 10 | 0x0011 => 10 | 0x00F2 => 10
  | 0x0005 => 11 | 0x00F1 => 11
  | _ => if 0x30 ≤ code && code ≤ 0x35 then 5 else 0

/-! ## CRCs -/

/-- One bit of a reflected CRC register. -/
def crcBit (poly c : Nat) : Nat := if c % 2 = 1 then (c / 2) ^^^ poly else c / 2

/-- One byte of a reflected CRC register. -/
def crcByte (poly c : Nat) (b : Byte) : Nat :=
  let c := c ^^^ b.toNat
  crcBit poly (crcBit poly (crcBit poly (crcBit poly (crcBit poly (crcBit poly (crcBit poly (crcBit poly c)))))))

/-- CRC-32C (Castagnoli): reflected 0x82F6_3B78, preset and final inversion of all ones. -/
def crc32c (b : Bytes) : Nat := (b.foldl (crcByte 0x82F63B78) 0xFFFFFFFF) ^^^ 0xFFFFFFFF

end Sys2Proof.Machine
end

