-- ==== Sys2Proof/Machine/Ops.lean ====
section
/-! DEFINITION. The operations every chapter shares: fabric time, the fault log and EVENT entries, state changes, packets, the life of an admitted command, and the form in which a command's checks and effect are given. -/
namespace Sys2Proof.Machine

open Sys2Proof

/-! ## Time -/

/-- Fabric time in whole ns (R7). (log 8: DEDUCED) -/
def State.now (s : State) : Nat := s.time.counter / 2 ^ 40

/-- Fabric time in 2^−16 ns, as the hub reports it: rounded, ties to even (R7, R401). (log 8: DEDUCED) -/
def State.now16 (s : State) : Nat := (roundEven s.time.counter (2 ^ 24)).toNat

/-- A time in 2^−16 ns as its u64 ns and u16 fraction. (log 8: DEDUCED) -/
def stampBytes (t16 : Nat) : Bytes := le 8 (t16 / 65536) ++ le 2 (t16 % 65536)

/-- Draws the next free value (a value the spec leaves open): nothing constrains it. (log 9: DESIGN CHOICE) -/
def State.free (s : State) : BitVec 32 × State :=
  (Config.freeValue s.sys.freeUsed, { s with sys := { s.sys with freeUsed := s.sys.freeUsed + 1 } })

/-! ## EVENT entries and the fault log (R523 to R527) -/

/-- An EVENT entry arises (R526); it waits for its place in the control store (R320). Its time never precedes that of the previous entry of its class (R319, R527). (log 36: DEDUCED) -/
def State.arise (s : State) (cls code d0 d1 d2 time16 : Nat) : State :=
  let time := max time16 (Tbl.get 0 s.streams.eventTimes cls)
  { s with streams := { s.streams with eventTimes := Tbl.set s.streams.eventTimes cls time, arisen := s.streams.arisen ++ [{ cls, time, code, d0 := BitVec.ofNat 32 d0, d1 := BitVec.ofNat 32 d1, d2 := BitVec.ofNat 32 d2 }] } }

/-- The slot for the entry of serial `n`: its own, or the next that holds no pinned entry (R523). (log 36: DEDUCED) -/
def freeSlot (log : Tbl LogEntry) (n : Nat) : (fuel : Nat) → Nat
  | 0 => n % 256
  | fuel + 1 =>
    match log.lookup (n % 256) with
    | some e => if e.pinned then freeSlot log (n + 1) fuel else n % 256
    | none => n % 256

/-- Writes a fault-log entry and mirrors it as a class 0 EVENT entry (R523 to R527). -/
def State.logEntry (s : State) (cls island code inst d0 d1 : Nat) : State :=
  let f := s.faults
  let slot := freeSlot f.log f.nextSerial 256
  let e : LogEntry := { serial := f.nextSerial, cls, island, code, time := s.now16 / 65536, frac := s.now16 % 65536, inst := inst % 65536, d0 := BitVec.ofNat 32 d0, d1 := BitVec.ofNat 32 d1, withheld := Tbl.get 0 f.withheld code, pinned := cls == 5, inBoot := s.sys.hub == .boot }
  let f' := { f with log := Tbl.set f.log slot e, nextSerial := (f.nextSerial + 1) % 2 ^ 32, counts := Tbl.bump 32 f.counts cls, highest := some (max cls (f.highest.getD 0)), lastAt := s.now, withheld := Tbl.erase f.withheld code, fatal := if cls = 5 then some (code, slot) else f.fatal }
  let s := { s with faults := f' }
  if f.mirror.getLsbD cls then s.arise 0 code f.nextSerial (cls + 256 * island + 65536 * (inst % 65536)) d0 s.now16 else s

/-- The hub logs a fault of a code of the table "Fault codes", which fixes its class and its island (R525, R585). (log 36: DEDUCED) -/
def State.logFault (s : State) (code inst d0 d1 : Nat) : State := s.logEntry (faultClass code) (faultIsland code) code inst d0 d1

/-- A rate limit withholds an entry but not its count (R525). -/
def State.withhold (s : State) (code : Nat) : State :=
  { s with faults := { s.faults with withheld := Tbl.bump 16 s.faults.withheld code } }

/-! ## Packets (R20 to R29) -/

/-- The bytes of a packet (table "Command header"). -/
def packetBytes (p : Packet) : Bytes :=
  [p.cmd.version, p.cmd.flags] ++ le 2 p.opcode.toNat ++ [p.cmd.tag, p.cmd.queue] ++ le 2 p.cmd.paramLength.toNat
    ++ le 2 p.cmd.target.toNat ++ le 2 p.cmd.source.toNat ++ le 4 p.cmd.sessionId.toNat ++ p.cmd.params

/-- Reads a packet out of its bytes; none for a runt of fewer than 16 bytes (R40 step 1). -/
def packetOf (b : Bytes) : Option Packet :=
  if b.length < 16 then none
  else some { opcode := BitVec.ofNat 16 (u16 b 2), cmd := { version := b.getD 0 0, flags := b.getD 1 0, tag := b.getD 4 0, queue := b.getD 5 0, paramLength := BitVec.ofNat 16 (u16 b 6), target := BitVec.ofNat 16 (u16 b 8), source := BitVec.ofNat 16 (u16 b 10), sessionId := BitVec.ofNat 32 (u32 b 12), params := b.drop 16 } }

/-- The four bytes of the status block (R26, R27, R61). -/
def statusBlock (version : Byte) (status detail : Nat) (h : HubState) : Bytes :=
  [BitVec.ofNat 8 status, BitVec.ofNat 8 detail, if version = 2 then 0 else BitVec.ofNat 8 h.code, 0]

/-- The hub forms a reply or notice and hands it to the path it leaves by (R21): it waits for its ring entry or CONTROL frame. -/
def State.emit (s : State) (o : Origin) (p : Packet) : State :=
  { s with cmds := { s.cmds with sent := s.cmds.sent ++ [(o, p)], waiting := s.cmds.waiting ++ [(o, packetBytes p)] } }

/-- The reply to a packet (R25, R26); the reserved bits of its target are 0 (R9). -/
def replyPacket (s : State) (op : BitVec 16) (c : Cmd) (version : Byte) (id : BitVec 32) (status detail : Nat) (result : Bytes) : Packet :=
  let result := (if op = 0x0001 ∧ version = 2 then result.take 16 else result).take 1020
  { opcode := op, cmd := { version, flags := (c.flags &&& 7) ||| 0x80, tag := c.tag, queue := c.queue, paramLength := BitVec.ofNat 16 (4 + result.length), target := c.source &&& 0x0FFF, source := s.fabric.address.zeroExtend 16, sessionId := id, params := statusBlock version status detail s.sys.hub ++ result } }

/-- A notice to a session, with its next notice tag (R28). -/
def State.noticePacket (s : State) (ses : Session) (op : BitVec 16) (flags queue : Byte) (status detail : Nat) (params : Bytes) : Packet :=
  { opcode := op, cmd := { version := ses.version, flags := (flags &&& 7) ||| 0x80, tag := BitVec.ofNat 8 ses.noticeTag, queue, paramLength := BitVec.ofNat 16 (4 + params.length), target := ses.source, source := s.fabric.address.zeroExtend 16, sessionId := ses.id, params := statusBlock ses.version status detail s.sys.hub ++ params } }

/-- Sends a notice to the session in `slot`, and advances its notice tag counter (R28). (log 17: DEDUCED) -/
def State.notice (s : State) (slot : Nat) (op : BitVec 16) (flags queue : Byte) (status detail : Nat) (params : Bytes) : State :=
  match s.cmds.sessions.lookup slot with
  | none => s
  | some ses =>
    let ses' := { ses with noticeTag := if ses.noticeTag = 255 then 128 else ses.noticeTag + 1 }
    State.emit { s with cmds := { s.cmds with sessions := Tbl.set s.cmds.sessions slot ses' } } ses.origin (s.noticePacket ses op flags queue status detail params)

/-! ## State changes (R69, R73) -/

/-- The 16 bytes that describe a transition (table "NOTICE_STATE parameters"). -/
def transitionBytes (x : Transition) : Bytes := le 1 x.old.code ++ le 1 x.new.code ++ le 2 x.reason ++ zeros 4 ++ le 8 x.time

/-- The hub changes state: history, class 1 EVENT entry and NOTICE_STATE (R69, R73). -/
def State.go (s : State) (new : HubState) (reason : Nat) : State :=
  let x : Transition := { old := s.sys.hub, new, reason, time := s.now }
  let s := { s with sys := { s.sys with hub := new, old := x.old, reason, changedAt := s.now, history := (x :: s.sys.history).take 16 } }
  let s := s.arise 1 reason (x.old.code + 256 * new.code) 0 0 s.now16
  (s.cmds.sessions.filter (·.2.stateNotices)).foldl (fun (s : State) e => s.notice e.1 0x00C1 0 0 stOk 0 (transitionBytes x)) s

/-! ## The life of an admitted command (R34, R35, R48 to R53) -/

/-- Counts one command counter (R42). -/
def State.count (s : State) (i : Nat) : State :=
  { s with cmds := { s.cmds with counters := Tbl.bump 32 s.cmds.counters i } }

/-- The admitted command of a serial. -/
def State.heldOf (s : State) (serial : Nat) : Option Held := s.cmds.held.find? (·.serial == serial)

/-- Changes the admitted command of a serial. -/
def State.setHeld (s : State) (serial : Nat) (f : Held → Held) : State :=
  { s with cmds := { s.cmds with held := s.cmds.held.map (fun h => if h.serial = serial then f h else h) } }

/-- Removes the admitted command of a serial. -/
def State.dropHeld (s : State) (serial : Nat) : State :=
  { s with cmds := { s.cmds with held := s.cmds.held.filter (·.serial != serial) } }

/-- Whether a command has not reached its final status (R35). -/
def Held.incomplete (h : Held) : Bool := match h.phase with | .finished _ => false | _ => true

/-- Whether a command belongs to the session in a slot. -/
def Held.ofSlot (h : Held) (slot : Nat) : Bool := h.owner == .session slot

/-- The queue key of a command's session queue: none for commands outside queue order (R43, R55). The session that a gang partner holds for its lead has queues of its own (R453). -/
def Held.line (h : Held) : Option Nat :=
  match h.owner with
  | .session slot => if h.immediate then none else some (8 * slot + h.cmd.queue.toNat)
  | .relay => if h.immediate then none else some (1024 + h.cmd.queue.toNat)
  | _ => none

/-- Whether the hub that passed a command on has judged its time_ns, so that it executes at the same epoch here (R440, R452). -/
def Held.passed (h : Held) : Bool :=
  match h.owner with
  | .mirror _ => true
  | .relay => h.cmd.sessionId == 2
  | _ => false

/-- Queues a message for the twin partner (R435). -/
def State.tellTwin (s : State) (m : Bytes) : State := { s with twin := { s.twin with outbox := s.twin.outbox ++ [m] } }

/-- A reply or notice to the gang lead waits to leave by TWIN, as the message RELAY_REPLY (R435, R453). -/
def State.tellLead (s : State) (m : Bytes) : State := { s with cmds := { s.cmds with waiting := s.cmds.waiting ++ [(.fabric .twin, m)] } }

/-- Sends the completion notice of a finished command (R29); a relayed one's goes to the lead, with the next notice tag of the session held for it (R28, R453). Its param_length never exceeds 1024, as that of every packet: a result too long for it is cut. (log 14: DEDUCED; 111: DESIGN CHOICE) -/
def State.completion (s : State) (h : Held) (f : Final) : State :=
  match h.owner with
  | .session slot =>
    let b := ([h.cmd.tag, 0] ++ le 2 f.gen.toNat ++ f.result).take 1020
    let out := (s.cmds.sessions.lookup slot).map (fun ses => (ses.origin, packetBytes (s.noticePacket ses h.opcode h.cmd.flags h.cmd.queue f.status f.detail b)))
    (s.notice slot h.opcode h.cmd.flags h.cmd.queue f.status f.detail b).setHeld h.serial (fun k => { k with owes := false, noticeOut := out })
  | .relay =>
    let b := ([h.cmd.tag, 0] ++ le 2 f.gen.toNat ++ f.result).take 1020
    let m := 7 :: packetBytes { opcode := h.opcode, cmd := { version := h.version, flags := (h.cmd.flags &&& 7) ||| 0x80, tag := BitVec.ofNat 8 s.twin.relayTag, queue := h.cmd.queue, paramLength := BitVec.ofNat 16 (4 + b.length), target := h.cmd.source, source := s.fabric.address.zeroExtend 16, sessionId := 0, params := statusBlock h.version f.status f.detail s.sys.hub ++ b } }
    let s : State := { s with twin := { s.twin with relayTag := if s.twin.relayTag = 255 then 128 else s.twin.relayTag + 1 } }
    (s.tellLead m).setHeld h.serial (fun k => { k with owes := false, noticeOut := some (.fabric .twin, m) })
  | _ => s.setHeld h.serial (fun k => { k with owes := false })

/-- Whether nothing more is to come of a command: its final status and its notices have left. -/
def Held.over (h : Held) : Bool := !h.incomplete && !h.owes && h.replyOut.isNone && h.noticeOut.isNone

/-- Removes the commands of which nothing more is to come. -/
def State.dropOver (s : State) : State := { s with cmds := { s.cmds with held := s.cmds.held.filter (fun h => !h.over) } }

/-- Sends the completion notices whose turn it is, each queue in submission order (R50): `blocked` lists the queues in which an earlier command still owes its notice. A STATE_STOP that waits for the notices of the changes it brought into force lets them pass (R78). -/
def flushNotices : List Held → (blocked : List Nat) → State → State
  | [], _, s => s
  | h :: r, blocked, s =>
    match h.phase with
    | .finished f =>
      if !h.owes ∨ h.line.any blocked.contains then flushNotices r blocked s
      else flushNotices r blocked (s.completion h f)
    | _ => flushNotices r (if h.behind.isEmpty then blocked ++ h.line.toList else blocked) s

/-- Whether the notice of a command waits for those of the changes that its stop epoch brought into force (R78). -/
def State.standsBehind (s : State) (serial : Nat) : Bool :=
  (s.heldOf serial).any (fun h => h.behind.any (fun r => (s.heldOf r).any (fun k => k.incomplete || k.owes || k.noticeOut.isSome)))

/-- Counts a final status, and logs a broadcast that failed (R42, R55). -/
def State.countFinal (s : State) (h : Held) (status : Nat) : State :=
  match h.owner with
  | .broadcast => if status = stOk then s.count 12 else (s.count 11).logFault 0x0061 h.cmd.source.toNat status h.opcode.toNat
  | _ => s.count (counterOf status)

/-- Notes that a command ended other than `OK`, for the FENCE that judges it (R51). -/
def State.noteFailure (s : State) (h : Held) (status : Nat) : State :=
  match h.line with
  | some q =>
    if status = stOk ∨ cmdFence h.cmd then s
    else { s with cmds := { s.cmds with fences := Tbl.modify {} s.cmds.fences q (fun f => { f with failed := h.segment :: f.failed }) } }
  | none => s

/-- Sends the reply of a command on the path by which it came (R21). A broadcast has none (R55); what the twin mirrored or relayed is answered over TWIN (R440, R453). -/
def State.reply (s : State) (h : Held) (status detail : Nat) (result : Bytes) : State :=
  match h.owner with
  | .session _ | .ended =>
    let p := replyPacket s h.opcode h.cmd h.version h.replyId status detail result
    (s.emit h.origin p).setHeld h.serial (fun k => { k with replyOut := some (h.origin, packetBytes p) })
  | .broadcast => s
  | .mirror n => s.tellTwin (5 :: le 4 n ++ statusBlock h.version status detail s.sys.hub)
  | .relay =>
    let m := 7 :: packetBytes (replyPacket s h.opcode h.cmd h.version 0 status detail result)
    (s.tellLead m).setHeld h.serial (fun k => { k with replyOut := some (.fabric .twin, m) })

/-- A command reaches its final status: in its reply when that has not been sent, and otherwise in its completion notice (R48, R53). A notice needs a session: NOTIFY on `HELLO` or `GET_INFO` without one brings none. (log 14: DEDUCED) -/
def State.finish (s : State) (serial : Nat) (status detail : Nat) (result : Bytes) : State :=
  match s.heldOf serial with
  | none => s
  | some h =>
    if !h.incomplete then s
    else
      let s := (s.countFinal h status).noteFailure h status
      let f : Final := { status, detail, result, gen := s.sys.configGen }
      let owes := match h.phase with
        | .accepted => true
        | _ => cmdNotify h.cmd && !(h.asked == 2 && status == stOk)
      let s := match h.phase with
        | .accepted => s.setHeld serial (fun h => { h with phase := .finished f, owes })
        | _ => (s.reply h status detail result).setHeld serial (fun h => { h with phase := .finished f, answered := true, owes })
      let s := match h.owner with
        | .session _ | .relay => s
        | _ => s.dropHeld serial
      (flushNotices s.cmds.held [] s).dropOver

/-! ## What a command does -/

/-- What a command's meaning answers: done with a detail and result bytes, accepted with its effect pending, its reply held back, its reply left to another hub that makes its checks, or refused; `stopped` is a refusal that leaves a trace of its own in the state. -/
inductive Answer where
  | done (detail : Nat) (result : Bytes) (s : State)
  | accepted (result : Bytes) (s : State)
  | holds (s : State)
  | asks (s : State)
  | fail (status detail : Nat)
  | failWith (status detail : Nat) (result : Bytes)
  | stopped (status detail : Nat) (result : Bytes) (s : State)

/-- An opcode's entry in its owning chapter: the param_length it requires, its parameter checks by index (R583), the further checks in the order of R45 steps 4 to 7 (`deny` gives the detail of a `DENIED` of step 4), whether it is immediate (R43) or broadcast-capable (R55), how `CMD_ABORT` stops it where it can (R67), the epoch of the configuration change it makes and that change's effect (which advances config_gen itself when `ownGen`, and otherwise by one before it) with the final status it ends with (R48; none: a later event ends it), and its meaning. -/
structure Op where
  need   : Bytes → Nat
  params : Held → State → List (Nat × Bool) := fun _ _ => []
  states : List HubState
  deny   : Held → State → Option Nat := fun _ _ => none
  allow  : Held → State → Bool := fun _ _ => true
  budget : Held → State → Option (Nat × Nat) := fun _ _ => none
  bcast  : Bytes → Bool := fun _ => false
  immediate : Bool := false
  lockExempt : Bool := false
  abort  : Held → State → Option State := fun _ _ => none
  epoch  : Held → State → Option Nat := fun _ _ => none
  ownGen : Bool := false
  effect : (ref : Nat) → Bytes → State → State × Option (Nat × Nat × Bytes) := fun _ _ s => (s, some (0, 0, []))
  run    : Held → State → Answer

/-- Adds a change to those accepted, by epoch and then by acceptance (R157). -/
def insertChange (c : Change) : List Change → List Change
  | [] => [c]
  | d :: r => if c.epoch < d.epoch then c :: d :: r else d :: insertChange c r

/-- config_gen advances by one (R157). -/
def State.nextGen (s : State) : State := { s with sys := { s.sys with configGen := s.sys.configGen + 1 } }

/-- The state that decides how a time_ns is taken: in CALIBRATE that of the state left (R341). -/
def State.base (s : State) : HubState := if s.sys.hub = .calibrate then s.sys.calFrom else s.sys.hub

/-- Whether a configuration change waits for its epoch (R138): in RUN, RECONFIGURE and HOLDOVER, and on a standby while its pair samples (R440). -/
def State.live (s : State) : Bool :=
  match s.base with
  | .run | .reconfigure | .holdover => true
  | .shadow => s.twin.lockstep
  | _ => false

/-- The opcodes whose pending entries are not configuration changes: STATE_RUN, STATE_STOP, FABRIC_LEAVE, CAL_RUN, TWIN_SET_MODE and TWIN_SWAP. -/
def isConfig (op : BitVec 16) : Bool := !([0x0110, 0x0111, 0x0912, 0x0C12, 0x0B10, 0x0B12].contains op.toNat)

/-- A command's own change at its epoch. -/
def Held.change (h : Held) (epoch : Nat) : Change := { epoch, ref := h.serial, opcode := h.opcode, params := h.cmd.params }

/-- Accepts a change for an epoch (R157). -/
def State.addChange (s : State) (h : Held) (epoch : Nat) : State :=
  { s with cmds := { s.cmds with changes := insertChange (h.change epoch) s.cmds.changes } }

/-- The commands whose configuration changes are pending (R73, R74): accepted for a later epoch, a swap that waits for a fade (R181), a power-up of pans that still waits for its grants (R140), or one that waits for leave to open its streams (R496). (log 28: DEDUCED) -/
def State.pendingConfigs (s : State) : List Nat :=
  let powerUps := (s.sluice.normal.filter (·.op == 1)).filterMap (·.ref)
  let asking := (s.sluice.normal.filter (·.op == 7)).filterMap (fun r => (r.ref.bind s.heldOf).bind (fun h => if isConfig h.opcode then some h.serial else none))
  ((s.cmds.changes.filter (fun c => isConfig c.opcode)).map (·.ref) ++ s.mash.recipes.filterMap (fun (e : Nat × Recipe) => e.2.queued.map (·.ref)) ++ powerUps ++ asking).eraseDups

/-- Whether a configuration change is pending. -/
def State.configPending (s : State) : Bool := !s.pendingConfigs.isEmpty

/-- A command is answered `ACCEPTED` and its effect is pending (R48); with a configuration change for a later epoch, RUN becomes RECONFIGURE (R73, R74). (log 13: DEDUCED) -/
def State.accept (s : State) (serial : Nat) (result : Bytes) : State :=
  match s.heldOf serial with
  | none => s
  | some h =>
    let s := (s.reply h stAccepted 0 result).setHeld serial (fun h => { h with phase := .accepted })
    if s.sys.hub = .run ∧ s.pendingConfigs.contains serial then s.go .reconfigure 0x0050 else s

/-- RECONFIGURE ends when the last pending change is in force or withdrawn (R74). -/
def State.leaveReconfigure (s : State) : State :=
  if s.sys.hub = .reconfigure ∧ !s.configPending then s.go .run 0x0051 else s

/-- A pending change is withdrawn (R67); RECONFIGURE ends with the last of them (R74). -/
def State.dropChange (s : State) (ref : Nat) : State :=
  State.leaveReconfigure { s with cmds := { s.cmds with changes := s.cmds.changes.filter (·.ref != ref) } }

/-- `CMD_ABORT` of a command whose change still waits for its epoch. -/
def abortChange (h : Held) (s : State) : Option State :=
  if h.phase = .accepted ∧ s.cmds.changes.any (·.ref == h.serial) then some (s.dropChange h.serial) else none

/-- The meaning of a configuration command (R48, R138): in force at once, with config_gen advanced, or accepted for its epoch. -/
def configRun (effect : Nat → Bytes → State → State × Option (Nat × Nat × Bytes)) (epoch : Option Nat) (h : Held) (s : State) : Answer :=
  match epoch with
  | some e => .accepted [] (s.addChange h e)
  | none =>
    match effect h.serial h.cmd.params s.nextGen with
    | (s', some (0, d, r)) => .done d r s'
    | (_, some (st, d, r)) => .failWith st d r
    | (s', none) => .accepted [] s'

/-- Every state that admits commands. -/
def allStates : List HubState := [.discover, .timelock, .ready, .calibrate, .run, .reconfigure, .shadow, .dormant, .holdover, .faultHold]

/-- The index of the first bad parameter (R583). -/
def firstBad : List (Nat × Bool) → Option Nat
  | [] => none
  | (i, ok) :: r => if ok then firstBad r else some i

/-- Steps 4 and 5 of R45: the configuration lock, where the hub is no hub to take the command, and its state; `allow` says whether the further conditions of the entry hold. (log 21: DEDUCED) -/
def stateError (op : Op) (h : Held) (s : State) (allow : Bool) : Option (Nat × Nat) :=
  let n := h.opcode.toNat
  let locked := s.cmds.sessions.any (fun e => e.2.lock && !(h.ofSlot e.1))
  let legal := groupLegal (n / 256) s.sys.hub
  let binds : Bool := match h.owner with | .session _ | .relay => true | _ => false
  if n / 256 ≠ 0 ∧ !isQuery n ∧ !op.lockExempt ∧ binds ∧ locked then some (stDenied, 2)
  else if legal = .d ∧ !isQuery n then some (stDenied, 1)
  else if (op.deny h s).isSome then (op.deny h s).map (fun d => (stDenied, d))
  else if !op.states.contains s.sys.hub ∨ (legal = .q ∧ !isQuery n) ∨ !allow then
    some (if s.sys.hub = .shadow then (stDenied, 1) else (stBadState, 0))
  else none

/-- The checks of R45 at a command's start, in their order, given the entry of its opcode. The standby executes what the duty hub mirrors whatever its own state, and takes the settings of channels whose pans are not powered there too (R438, R440). (log 21: DEDUCED) -/
def startError (op : Op) (h : Held) (s : State) : Option (Nat × Nat) :=
  let b := h.cmd.params
  if b.length ≠ op.need b then some (stMalformed, min 255 (16 + min b.length (op.need b)))
  else match firstBad (op.params h s) with
    | some i => some (stBadParam, i)
    | none =>
      let mirrored : Bool := match h.owner with | .mirror _ => true | _ => false
      if mirrored then (if [0x0211, 0x0212, 0x0213, 0x0215, 0x0216].contains h.opcode.toNat then none else op.budget h s) else (stateError op h s (op.allow h s)).or (op.budget h s)

/-! ## Dual-clock queues (R329, R330) -/

/-- A dual-clock queue by its number: 0 to 31 the samples of a pan, 32 to 63 its comparator events, 64 to 95 its strobe messages, 96 the feed FIFO, 97 the words from MASH to MEM, and from 98 on the stamps of each EDGE input. (log 109: DEDUCED) -/
def State.dual (s : State) (q : Nat) : DualClock := Tbl.get {} s.front.queues q

/-- Items pushed at this instant: the consumer's empty flag does not show them yet (R330). -/
def State.unseen (s : State) (q : Nat) : Nat := if (s.dual q).pushed.1 = s.now then (s.dual q).pushed.2 else 0

/-- Items popped at this instant: the producer's full flag does not show their room yet (R330). -/
def State.unfreed (s : State) (q : Nat) : Nat := if (s.dual q).popped.1 = s.now then (s.dual q).popped.2 else 0

/-- The consumer's empty flag of a queue that holds `n` items (R329). -/
def State.queueEmpty (s : State) (q n : Nat) : Bool := decide (n ≤ s.unseen q)

/-- The producer's full flag of a queue of a depth that holds `n` items (R329). -/
def State.queueFull (s : State) (q depth n : Nat) : Bool := decide (depth ≤ n + s.unfreed q)

/-- Notes a push. -/
def State.notePush (s : State) (q : Nat) : State :=
  { s with front := { s.front with queues := Tbl.set s.front.queues q { s.dual q with pushed := (s.now, s.unseen q + 1) } } }

/-- Notes a pop. -/
def State.notePop (s : State) (q : Nat) : State :=
  { s with front := { s.front with queues := Tbl.set s.front.queues q { s.dual q with popped := (s.now, s.unfreed q + 1) } } }

/-! ## The answer of a started command -/

/-- Notes on a command the config_gen that its change has brought (R49); `before` is the state before the change. -/
def State.noteNewGen (s : State) (serial : Nat) (before : State) : State :=
  if s.sys.configGen = before.sys.configGen then s else s.setHeld serial (fun h => { h with newGen := some s.sys.configGen })

/-- Gives a started command's answer its effect (R45, R48, R52). A dry run keeps the state as it was and answers the status alone. (log 13: DEDUCED; 22: DEDUCED) -/
def State.settleAnswer (s : State) (h : Held) (a : Answer) : State :=
  let dry := cmdDryRun h.cmd
  match a with
  | .fail st d => s.finish h.serial st d []
  | .failWith st d r => s.finish h.serial st d r
  | .done d r s' => if dry then s.finish h.serial stOk d [] else (s'.noteNewGen h.serial s).finish h.serial stOk d r
  | .accepted r s' => if dry then s.finish h.serial stOk 1 [] else s'.accept h.serial r
  | .holds s' => if dry then s.finish h.serial stOk 0 [] else s'
  | .asks s' => s'
  | .stopped st d r s' => if dry then s.finish h.serial st d [] else s'.finish h.serial st d r

end Sys2Proof.Machine
end

