-- ==== Sys2Proof/Machine/Blocks.lean ====
section
/-! DEFINITION. Block coding of the lanes (chapter 11, R346 to R348, R354, R368): the blocks that carry a frame, the scrambler, alignment markers with their BIP8, training blocks, and what a receiver judges of them. -/
namespace Sys2Proof.Machine

open Sys2Proof

/-- The type of the terminate block after `k` last bytes (IEEE 802.3 Clause 49). (log 69: PRESUMED) -/
def terminateType (k : Nat) : Byte :=
  match k with
  | 0 => 0x87 | 1 => 0x99 | 2 => 0xAA | 3 => 0xB4 | 4 => 0xCC | 5 => 0xD2 | 6 => 0xE1 | _ => 0xFF

/-- Data blocks and the terminate block of the bytes that follow the start block. -/
def blocksAfterStart : (fuel : Nat) → Bytes → List LineBlock
  | 0, _ => []
  | fuel + 1, b =>
    if 8 ≤ b.length then { control := false, payload := b.take 8 } :: blocksAfterStart fuel (b.drop 8)
    else [{ control := true, payload := terminateType b.length :: b ++ zeros (7 - b.length) }]

/-- The blocks of a frame: a start block of type 0x78 with bytes 0 to 6, data blocks, and the terminate block that fits (R368). (log 69: PRESUMED; 70: DESIGN CHOICE) -/
def frameBlocks (b : Bytes) : List LineBlock :=
  { control := true, payload := 0x78 :: b.take 7 } :: blocksAfterStart (b.length + 1) (b.drop 7)

/-- The self-synchronous scrambler 1 + x^39 + x^58 over bits in the order sent; `h` holds the 58 newest scrambled bits, newest first (R346). (log 70: DESIGN CHOICE) -/
def scramble : List Bool → (h : List Bool) → List Bool
  | [], _ => []
  | b :: r, h =>
    let x := xor b (xor (h.getD 38 false) (h.getD 57 false))
    x :: scramble r ((x :: h).take 58)

/-- The receiver's descrambler. -/
def descramble : List Bool → (h : List Bool) → List Bool
  | [], _ => []
  | x :: r, h => xor x (xor (h.getD 38 false) (h.getD 57 false)) :: descramble r ((x :: h).take 58)

/-- The aggregate order of the blocks of logical lanes 0 to W − 1 after deskew: one of each lane in turn (R346). -/
def interleave : (fuel : Nat) → List (List LineBlock) → List LineBlock
  | 0, _ => []
  | fuel + 1, l => if l.any List.isEmpty then [] else l.filterMap List.head? ++ interleave fuel (l.map List.tail)

/-- The bits of a payload in the order sent: byte 0 first, bit 0 of a byte first (Clause 49). (log 69: PRESUMED) -/
def lineBits (b : Bytes) : List Bool := (b.map (fun x => (List.range 8).map x.getLsbD)).flatten

/-- The bytes of bits in the order sent. -/
def lineBytes (l : List Bool) : Bytes := (List.range (l.length / 8)).map (fun i => BitVec.ofNat 8 (((List.range 8).map (fun j => if l.getD (8 * i + j) false then 2 ^ j else 0)).sum))

/-- Descrambles the payloads of blocks in the aggregate order. -/
def descrambleBlocks : List LineBlock → (h : List Bool) → List LineBlock
  | [], _ => []
  | b :: r, h => { b with payload := lineBytes (descramble (lineBits b.payload) h) } :: descrambleBlocks r (((lineBits b.payload).reverse ++ h).take 58)

/-- What a receiver makes of the deskewed blocks of its logical lanes, markers taken out: it puts them back in the aggregate order, and only then descrambles them (R346). (log 70: DESIGN CHOICE) -/
def receiveBlocks (lanes : List (List LineBlock)) (h : List Bool) : List LineBlock :=
  descrambleBlocks (interleave ((lanes.map List.length).foldl max 0) lanes) h

/-- An idle control block of Clause 49: type 0x1E and eight idle characters of 0. (log 69: PRESUMED) -/
def idleBlock : LineBlock := { control := true, payload := 0x1E :: List.replicate 7 0 }

/-- The idle-entry block, of type 0x69 (R346, R363); its other bytes are open. (log 70: DESIGN CHOICE) -/
def idleEntryBlock (open' : Bytes) : LineBlock := { control := true, payload := 0x69 :: open' }

/-- The BIP8 of the payload bytes a lane has sent (R348). -/
def bip8 (b : Bytes) : Byte := b.foldl (· ^^^ ·) 0

/-- The alignment marker of a lane (R347, table "Alignment marker"). (log 70: DESIGN CHOICE) -/
def alignmentMarker (lane port count : Nat) (bip : Byte) : LineBlock :=
  let b : Bytes := [0xA5, BitVec.ofNat 8 (lane % 4 + 4 * (port % 4)), bip, BitVec.ofNat 8 count]
  { control := true, payload := b ++ b.map (fun x => ~~~x) }

/-- Whether a marker is valid: bytes 4 to 7 complement bytes 0 to 3 (R349). -/
def validMarker (b : LineBlock) : Bool := b.control && b.payload.length == 8 && (b.payload.drop 4 == (b.payload.take 4).map (fun x => ~~~x))

/-- Bit errors that a BIP8 shows: one for each bit position that disagrees (R348). -/
def bipErrors (sent seen : Byte) : Nat := ((List.range 8).filter (fun i => (sent ^^^ seen).getLsbD i)).length

/-- The training block of a lane (R354, table "Training block"): `request` and `status` are bytes 4 and 5. (log 70: DESIGN CHOICE) -/
def trainingBlock (step rates widths request status : Nat) (ready passed failed : Bool) (count : Nat) : LineBlock :=
  { control := true, payload := [0xC3, BitVec.ofNat 8 (step % 16), BitVec.ofNat 8 (rates % 32), BitVec.ofNat 8 (widths % 8), BitVec.ofNat 8 request, BitVec.ofNat 8 (status % 16),
      BitVec.ofNat 8 ((if ready then 1 else 0) + (if passed then 2 else 0) + (if failed then 4 else 0)), BitVec.ofNat 8 count] }

/-! ## What a port sends (R346, R347) -/

/-- Every lane sends its alignment marker: on the same block index, unscrambled and without a step of the scrambler, with the BIP8 of the payload it has sent since its marker before (R347, R348). -/
def LineTx.markers (x : LineTx) (w port : Nat) : LineTx :=
  { x with index := 0, count := (x.count + 1) % 256, bip := [], out := x.out ++ (List.range w).map (fun k => (k, alignmentMarker k port x.count (Tbl.get 0 x.bip k))) }

/-- A port of width `w` sends one block: it is scrambled in the aggregate stream and dealt to the next logical lane; once every lane has sent 16,383 blocks, a marker follows on each (R346, R347). -/
def LineTx.block (x : LineTx) (w port : Nat) (b : LineBlock) : LineTx :=
  let bits := scramble (lineBits b.payload) x.history
  let b := { b with payload := lineBytes bits }
  let lane := x.dealt % w
  let x := { x with history := (bits.reverse ++ x.history).take 58, dealt := (lane + 1) % w, bip := Tbl.modify 0 x.bip lane (fun v => v ^^^ bip8 b.payload), out := x.out ++ [(lane, b)] }
  if (lane + 1) % w ≠ 0 then x
  else if x.index + 1 = 16383 then x.markers w port
  else { x with index := x.index + 1 }

/-- A port of width `w` sends blocks. -/
def LineTx.send (x : LineTx) (w port : Nat) (l : List LineBlock) : LineTx := l.foldl (fun x b => x.block (max 1 w) port b) x

/-- A port of width `w` fills the row of blocks that it deals to its lanes with idle blocks, so that every lane stands on the same block index (R347). (log 70: DESIGN CHOICE) -/
def LineTx.pad (x : LineTx) (w port : Nat) : LineTx := if x.dealt = 0 then x else x.send w port (List.replicate (w - x.dealt) idleBlock)

/-- The wake burst of a port of width `w`: 64 blocks dealt across its lanes, of which the last on each is a marker (R363). (log 69: PRESUMED) -/
def LineTx.wake (x : LineTx) (w port : Nat) : LineTx := (x.send w port (List.replicate (64 - max 1 w) idleBlock)).markers (max 1 w) port

end Sys2Proof.Machine

namespace Sys2Proof

open Machine

/-! ## What a lane receives (R348 to R350) -/

/-- Whether a marker comes on an inverted lane: sync header 0b01 and byte 0 = 0x5A (R350). -/
def MarkerSeen.inverted (m : MarkerSeen) : Bool := m.header == 1 && u8 m.bytes 0 == 0x5A

/-- What stands at a marker position, put right where the lane is inverted (R350). -/
def MarkerSeen.upright (m : MarkerSeen) : LineBlock :=
  if m.inverted then { control := true, payload := m.bytes.map (fun x => ~~~x) } else { control := m.header == 2, payload := m.bytes }

/-- Whether a valid marker stands there (R349). -/
def MarkerSeen.valid (m : MarkerSeen) : Bool := validMarker m.upright

/-- The logical lane that a marker names (R347). -/
def MarkerSeen.logical (m : MarkerSeen) : Nat := u8 m.upright.payload 1 % 4

/-- The sending port code that a marker names (R347). -/
def MarkerSeen.portCode (m : MarkerSeen) : Nat := u8 m.upright.payload 1 / 4 % 4

/-- The marker count of a marker (R347). -/
def MarkerSeen.count (m : MarkerSeen) : Nat := u8 m.upright.payload 3

/-- Marker lock: two consecutive valid markers exactly 16,384 blocks apart; the newest of them (R349). -/
def markerLock : List MarkerSeen → Option MarkerSeen
  | a :: b :: r => (markerLock (b :: r)).or (if a.valid && b.valid && b.index == a.index + 16384 then some b else none)
  | _ => none

/-- Block lock and marker lock of a lane in a training step: 64 valid sync headers in a row, and two markers (R349). -/
def LaneReport.lock (r : LaneReport) : Option MarkerSeen := if r.valid < 64 then none else markerLock r.markers

/-- Whether the partner reports receiver ready for a step on a lane: byte 6 [0] of its training block of that step (R354, R355). -/
def LaneReport.partner (r : LaneReport) (step : Nat) : Bool := u8 r.block 0 == 0xC3 && u8 r.block 1 % 16 == step && (u8 r.block 6).testBit 0

/-- Whether both partners are ready for a step on a lane; steps 2 and 5 take the lane's lock (R355). -/
def LaneReport.done (r : LaneReport) (step : Nat) : Bool := r.settled && r.partner step && ((step != 2 && step != 5) || r.lock.isSome)

/-- Whether a lane has passed VERIFY at the hub's own receiver (R357). -/
def LaneErrors.clean (e : LaneErrors) : Bool := e.headers == 0 && e.bip8 == 0 && !e.lost

/-- Whether the partner reports that a lane failed VERIFY (R354). -/
def LaneErrors.partnerFails (e : LaneErrors) : Bool := e.partner.getLsbD 2

/-- Whether the partner's verdict on a lane is still to come: it reports neither readiness and a pass nor a failure (R354, R355). -/
def LaneErrors.awaited (e : LaneErrors) : Bool := !e.partnerFails && !(e.partner.getLsbD 0 && e.partner.getLsbD 1)

/-- What a report says of a lane. -/
def TrainingReport.at' (r : TrainingReport) (i : Nat) : Option LaneReport := r.lanes.find? (fun l => l.lane == i)

/-- The marker that a lane of a report has locked to. -/
def TrainingReport.lockOf (r : TrainingReport) (i : Nat) : Option MarkerSeen := (r.at' i).bind (·.lock)

/-- Whether lanes align (R350): markers of equal count, on different logical lanes, with at most 40 ns of skew between any two. -/
def TrainingReport.aligned (r : TrainingReport) (lanes : List Nat) : Bool :=
  let ms := lanes.filterMap r.lockOf
  ms.length == lanes.length && decide ((ms.map (·.logical)).Nodup) && ms.all (fun a => ms.all (fun b => a.count == b.count && decide (a.arrival ≤ b.arrival + 40000)))

end Sys2Proof

namespace Sys2Proof.Machine

open Sys2Proof

/-- A lane's marker position passes (R348, R349): an invalid marker is counted, and the 4th in a row loses marker lock, which two valid ones 16,384 blocks apart give back; a valid one's BIP8 is judged, but for the first of a training or wake. -/
def Lane.takeMarker (now : Nat) (l : Lane) (m : MarkerSeen) : Lane :=
  if m.valid then
    let e := if l.unjudged then 0 else bipErrors (BitVec.ofNat 8 (u8 m.upright.payload 2)) m.bip
    { l with unjudged := false, missed := 0, inverted := m.inverted, marked := some m.index, markerAt := if l.marked.any (fun a => m.index == a + 16384) then none else l.markerAt, counters := Tbl.modify 0 l.counters 4 (fun v => sat 32 (v + e)) }
  else
    { l with missed := l.missed + 1, marked := none, markerAt := if l.missed + 1 = 4 then some (l.markerAt.getD now) else l.markerAt, counters := Tbl.modify 0 l.counters 5 (fun v => sat 32 (v + 1)) }

/-! ## The transmit cursors (R353) -/

/-- The transmit presets: c(−1) and c(+1) (table "Transmit presets"). -/
def preset (n : Nat) : Option (Nat × Nat) :=
  match n with
  | 0 => some (0, 0) | 1 => some (0, 4) | 2 => some (0, 8) | 3 => some (2, 6) | 4 => some (4, 10) | _ => none

/-- One request for a cursor, its value and its largest one: the new value, and the status (0 not updated, 1 updated, 2 at limit). -/
def stepCursor (req v most : Nat) : Nat × Nat :=
  match req with
  | 1 => if v < most then (v + 1, 1) else (v, 2)
  | 2 => if 0 < v then (v - 1, 1) else (v, 2)
  | _ => (v, 0)

/-- A lane takes a request of the partner, byte 4 of its training block (R353, R354): a preset, or one unit more or less for each cursor; in fixed mode every request is answered "at limit". (log 65: DEDUCED) -/
def Lane.takeRequest (l : Lane) (req : Byte) : Lane :=
  let a := req.toNat % 4
  let b := req.toNat / 4 % 4
  if req.getLsbD 4 then
    match preset (req.toNat / 32), l.txFixed with
    | some (m, q), false => { l with cMinus := m, cPlus := q, status := 5 }
    | _, _ => { l with status := 10 }
  else if l.txFixed then { l with status := (if a = 0 then 0 else 2) + 4 * (if b = 0 then 0 else 2) }
  else
    let (m, x) := stepCursor a l.cMinus 6
    let (q, y) := stepCursor b l.cPlus 14
    { l with cMinus := m, cPlus := q, status := x + 4 * y }

/-- Byte 4 of a training block for an open choice of requests: each request and preset number as the table codes them (R354). -/
def requestByte (v : Nat) : Nat := v % 3 + 4 * (v / 3 % 3) + 16 * (v / 9 % 2) + 32 * (v / 18 % 5)

end Sys2Proof.Machine
end

