-- ==== Sys2Proof/Machine/Epochs.lean ====
section
/-! DEFINITION. Grid instants and epochs (chapter 05): the grid in force at a time, its epoch boundaries, and the rule for every time_ns parameter (R96, R138, R161). -/
namespace Sys2Proof.Machine

open Sys2Proof

/-- Whether a key is that of a gang partner's stream (R453). -/
def partnerKey (key : Nat) : Bool := decide (32768 ≤ key % 65536)

/-- A grid: frame length N in slots, and origin G0 in ns (R142). -/
abbrev Grid := Nat × Nat

/-- The frame period T_f in ns. -/
def Grid.period (g : Grid) : Nat := 40 * g.1

/-- One grid epoch in ns: 1,024 frames (R143). -/
def Grid.epoch (g : Grid) : Nat := 1024 * (40 * g.1)

/-- The instant of grid strobe k (R142). -/
def Grid.at (g : Grid) (k : Nat) : Nat := g.2 + k * (40 * g.1)

/-- Whether t is a grid epoch boundary (R143). -/
def Grid.isEpoch (g : Grid) (t : Nat) : Bool := decide (g.2 ≤ t) && (t - g.2) % Grid.epoch g == 0

/-- The next grid epoch boundary after t; a grid whose origin lies ahead has its first boundary there (R162). -/
def Grid.next (g : Grid) (t : Nat) : Nat :=
  if t < g.2 then g.2 else g.2 + ((t - g.2) / Grid.epoch g + 1) * Grid.epoch g

/-- The first grid epoch boundary at or after t. -/
def Grid.nextFrom (g : Grid) (t : Nat) : Nat := if Grid.isEpoch g t then t else Grid.next g t

/-- The grid in force. -/
def State.grid (s : State) : Grid := (s.front.gridN, s.front.gridG0)

/-- The grid that a change leaves, given the grid before it: GRID_SET_ORIGIN, or GRID_SET_PERIOD with the change epoch as the new origin. -/
def gridAfter (c : Change) (g : Grid) : Grid :=
  match c.opcode.toNat with
  | 0x0310 => (u16 c.params 0, u64 c.params 8)
  | 0x0311 => if u16 c.params 0 = g.1 then g else (u16 c.params 0, c.epoch)
  | _ => g

/-- The grid that will be in force at time t, by the changes already accepted (R161). -/
def State.gridAt (s : State) (t : Nat) : Grid :=
  (s.cmds.changes.filter (fun c => decide (c.epoch ≤ t))).foldl (fun g c => gridAfter c g) s.grid

/-- Whether a non-zero time_ns is a grid epoch boundary at least 1 ms after admission (R96). -/
def timeOk (h : Held) (s : State) (t : Nat) : Bool := t == 0 || ((s.gridAt t).isEpoch t && (h.passed || decide (h.admitted + 1000000 ≤ t)))

/-- The rule of R138 for a time_ns. -/
def timeRule (h : Held) (s : State) (t : Nat) : Bool := if s.live then timeOk h s t else t == 0 || h.passed

/-- The epoch that a time_ns names: 0 is the next boundary of the grid in force. -/
def State.epochOf (s : State) (t : Nat) : Nat := if t = 0 then s.grid.next s.now else t

/-- The epoch of a configuration change under R138: none when it takes effect at once. -/
def State.changeEpoch (s : State) (t : Nat) : Option Nat := if s.live then some (s.epochOf t) else none

/-- log2 of the divisor D that a pan will have at time t. -/
def State.divisorAt (s : State) (p t : Nat) : Nat :=
  (s.cmds.changes.filter (fun c => c.opcode == 0x0312 && decide (c.epoch ≤ t) && (u32 c.params 0).testBit p)).foldl (fun _ c => u8 c.params 4) (Tbl.get {} s.front.pans p).log2D

/-- The instants that strobe number k names on the grid in force and on those accepted for later epochs: each grid holds from its own epoch up to that of the next (R154, R158). -/
def strobeTimes (g : Grid) (k lo : Nat) : List Change → List Nat
  | [] => if lo ≤ g.at k then [g.at k] else []
  | c :: r => (if lo ≤ g.at k ∧ g.at k < c.epoch then [g.at k] else []) ++ strobeTimes (gridAfter c g) k c.epoch r

/-- The instant of strobe k for a pan that is sent its strobes in order: the first that it names after the last one sent. The strobe at a change epoch counts on the new grid (R154). (log 44: DEDUCED) -/
def strobeTime (g : Grid) (k sent : Nat) (l : List Change) : Nat := ((strobeTimes g k 0 l).find? (fun t => decide (sent < t))).getD (g.at k)

/-- The changes accepted, with those that wait for the sluice where they can take effect at the earliest: a power-up of pans (R140), and what waits for leave to open its streams (R496). (log 20: DEDUCED) -/
def State.foreseen (s : State) : List Change :=
  s.sluice.normal.foldl (fun l r =>
    match r.ref.bind s.heldOf with
    | none => l
    | some h =>
      if !(r.op = 1 ∨ r.op = 7) ∨ !isConfig h.opcode ∨ l.any (fun c => c.ref == h.serial) then l
      else if h.opcode = 0x0210 then
        let t := max (u64 h.cmd.params 8) (s.now + 2000000)
        insertChange (h.change (if s.live then (s.gridAt t).nextFrom t else s.now + 2000000)) l
      else insertChange (h.change (if r.unit = 0 then s.grid.nextFrom (s.now + 1000000) else r.unit)) l) s.cmds.changes

/-- The pending grid changes, in order of their epochs. -/
def State.gridChanges (s : State) : List Change := s.cmds.changes.filter (fun c => c.opcode == 0x0310 || c.opcode == 0x0311)

end Sys2Proof.Machine
end

