-- ==== Sys2Proof/Machine/Streams.lean ====
section
/-! DEFINITION. Records and streams (chapter 10): forming records, opening and closing streams, pending gaps, admission to the outbound buffer, the control store and spill. -/
namespace Sys2Proof.Machine

open Sys2Proof

/-! ## Streams and their settings -/

/-- stream_id [19:0] of a stream kind and index (R303). -/
def streamKey (kind index : Nat) : Nat := 65536 * kind + index

/-- The stream of a key. -/
def State.stream (s : State) (key : Nat) : Stream := Tbl.get {} s.streams.table key

/-- Changes the stream of a key. -/
def State.setStream (s : State) (key : Nat) (f : Stream → Stream) : State :=
  { s with streams := { s.streams with table := Tbl.modify {} s.streams.table key f } }

/-- The address in the stream_ids of a hub's records: its own, or the stream address of its pair (R437, R453). -/
def State.streamAddress (s : State) : Nat := if s.twin.paired then s.twin.streamAddr else s.fabric.address.toNat

/-- stream_id [31:0] (R303). -/
def State.streamId (s : State) (key : Nat) : Nat := 1048576 * s.streamAddress + key

/-- How many streams are open. -/
def State.openStreams (s : State) : Nat := (s.streams.table.filter (·.2.isOpen)).length

/-- The number of a stream's settings: all four slots of a channel share theirs (STREAM_SET_RECORD). -/
def settingKey (key : Nat) : Nat := if key / 65536 = 2 then 131072 + key % 65536 / 4 else key

/-- Units per record and max_latency (µs) after reset (R342, table "Record kinds"). -/
def sizeDefault (kind : Nat) : Nat × Nat :=
  match kind with
  | 0 | 1 => (1024, 10000)
  | 2 => (64, 10000)
  | 6 => (32, 100)
  | _ => (32, 10000)

/-- The channels of a CAPTURE_DEFINE mask. -/
def maskChannels (d : Bytes) : List Nat := (List.range 320).filter (fun ch => (u8 d (24 + ch / 8)).testBit (ch % 8))

/-- The channels of a group. -/
def Group.channels (x : Group) : List Nat := maskChannels x.define

/-- Units per record and max_latency in force. A CASK record holds up to 4,096 words, a MEASURE record one unit per channel of its group or 64 measurements of 100 µs, a STAMP record 256 stamps within the latency of EDGE_SET_STREAM. (log 51: DEDUCED) -/
def State.sizes (s : State) (key : Nat) : Nat × Nat :=
  let i := key % 65536
  match key / 65536 with
  | 3 => (4096, 10000)
  | 4 => (256, u16 (Tbl.get {} s.edges.inputs i).stream 3)
  | 5 => if i < 256 then ((Tbl.get {} s.capture.groups i).channels.length, 10000) else (64, 100)
  | _ => Tbl.get (sizeDefault (key / 65536)) s.streams.sizes (settingKey key)

/-- Whether the BRINE or FILTERED stream of a channel is switched on (R342). -/
def State.streamOn (s : State) (kind ch : Nat) : Bool := Tbl.get (kind == 1) s.streams.enabled (streamKey kind ch)

/-- The setting under which a stream's coding stands (R300): its own, or that of its CASK group. -/
def codingKey (key : Nat) : Nat := if key / 65536 = 3 then 196608 + key % 65536 / 512 * 512 else key

/-- Whether a stream's records are kiln coded: its coding is kiln and the format allows it (table "Record format 1 differences"); a gang partner codes nothing (R271). -/
def State.coded (s : State) (key : Nat) : Bool :=
  match key / 65536 with
  | 0 | 1 | 3 => s.twin.role != 4 && (Tbl.get {} s.kiln.coders (codingKey key)).coding == 1 && !(Tbl.get {} s.kiln.coders key).forced && s.streams.format == 2
  | _ => false

/-- Whether the samples of a stream are 24 bits wide: FILTERED ones are, BRINE ones are 18 (R268, R306). -/
def isWide (key : Nat) : Bool := key / 65536 == 1

/-! ## Record bytes (R303 to R306) -/

/-- Pads with zero bytes up to a multiple of 8. -/
def pad8 (b : Bytes) : Bytes := b ++ zeros ((8 - b.length % 8) % 8)

/-- Packs 18-bit samples into one bit stream, least significant bit first (R306). -/
def packBits (width : Nat) (xs : List Int) : Nat :=
  xs.foldr (fun x acc => (x % ((2 ^ width : Nat) : Int)).toNat + 2 ^ width * acc) 0

/-- The plain layout of samples: 18-bit samples as one bit stream, 24-bit samples in 3 bytes each (R306). -/
def plainSamples (wide : Bool) (xs : List Int) : Bytes :=
  let w := if wide then 24 else 18
  le ((xs.length * w + 7) / 8) (packBits w xs)

/-- The 32 bytes of the table "GAP payload", or the 16 of format 1. -/
def gapPayload (r : Record) (format : Nat) : Bytes :=
  if format = 1 then le 8 r.units ++ le 1 r.reason ++ zeros 7
  else le 8 r.units ++ le 8 r.index ++ le 8 (r.last / 65536) ++ le 2 (r.last % 65536) ++ le 1 r.reason ++ le 1 r.unit ++ le 4 r.replaced

/-- A record's payload as sent. A GAP record's is built of its fields. -/
def recordPayload (r : Record) : Bytes :=
  if r.kind = 7 then gapPayload r r.format else pad8 (r.payload ++ plainSamples r.wide r.samples)

/-- The size of a record: 32 header bytes and its payload. -/
def recordSize (r : Record) : Nat := 32 + (recordPayload r).length

/-- The bytes of a record (table "Record header"); a record in format 1 has no flag above bit 6. -/
def recordBytes (address : BitVec 12) (r : Record) : Bytes :=
  let p := recordPayload r
  [BitVec.ofNat 8 r.format, BitVec.ofNat 8 (r.kind + 16 * r.coding)] ++ le 2 (if r.format = 1 then r.flags &&& 0x7F else r.flags).toNat
    ++ le 4 (1048576 * r.address.getD address.toNat + r.key) ++ le 4 r.sequence.toNat ++ le 2 r.gen.toNat ++ le 2 (if 7 ≤ r.kind then 0 else r.units)
    ++ le 8 r.first ++ le 4 r.period ++ le 4 p.length ++ p

/-! ## Forming records -/

/-- Hands a closed record over, to be coded first where its stream is coded; a standby keeps its records plain (R445). -/
def State.hand (s : State) (r : Record) : State :=
  { s with streams := { s.streams with closed := s.streams.closed ++ [{ r with toCode := decide (r.kind ≤ 3) && s.coded r.key && s.twin.role != 2 }] } }

/-- Closes the open record of a stream (R308). -/
def State.closeRecord (s : State) (key : Nat) : State :=
  match (s.stream key).current with
  | none => s
  | some r => (s.setStream key (fun x => { x with current := none })).hand r

/-- HOLDOVER flag of what is produced now, in `HOLDOVER` or on a standby without time (R307 bit 3, R76). -/
def State.holdoverFlag (s : State) : BitVec 16 := if s.sys.hub = .holdover ∨ (s.sys.hub = .shadow ∧ (s.time.phase = 7 ∨ s.time.phase = 8)) then 8 else 0

/-- Adds one unit to a stream's open record, opening one where none is open; a unit under another config_gen, period or converter starts a record of its own, and a full record closes (R308). (log 62: DEDUCED) -/
def State.addUnit (s : State) (key index time period : Nat) (flags : BitVec 16) (sample : Option Int) (entry : Bytes) : State :=
  let st := s.stream key
  if !st.isOpen then s
  else
    let s := match st.current with
      | some r => if r.gen ≠ s.sys.configGen ∨ r.period ≠ period ∨ r.flags &&& 0x30 ≠ flags &&& 0x30 then s.closeRecord key else s
      | none => s
    let fl := flags ||| s.holdoverFlag
    let r0 : Record := match (s.stream key).current with
      | some r => r
      | none => { key, kind := key / 65536, gen := s.sys.configGen, index, first := time / 65536, period, wide := isWide key, format := s.streams.format }
    let r := { r0 with flags := r0.flags ||| fl, units := r0.units + 1, samples := r0.samples ++ sample.toList, payload := r0.payload ++ entry, last := time }
    let s := s.setStream key (fun x => { x with current := some r, arrived := if r0.units = 0 then s.now else x.arrived, period, nextIndex := index + 1, nextTime := time / 65536 + period })
    if (s.sizes key).1 ≤ r.units then s.closeRecord key else s

/-- Extends a gap by the units of another of the same reason. -/
def Gap.extend (a b : Gap) : Gap := { a with count := a.count + b.count, last := b.last }

/-- A gap as it travels among the closed records, in the stream's order. -/
def Gap.marker (key period : Nat) (g : Gap) : Record :=
  { key, kind := 7, units := g.count, index := g.index, first := g.first, last := g.last, reason := g.reason, unit := g.unit, period }

/-- The gap of a marker. -/
def Record.gap (r : Record) : Gap := { count := r.units, index := r.index, first := r.first, last := r.last, reason := r.reason, unit := r.unit }

/-- Units of an open stream go missing (R316): its open record closes, and the units join its pending gap in their place. -/
def State.miss (s : State) (key : Nat) (g : Gap) : State :=
  if !(s.stream key).isOpen ∨ g.count = 0 then s
  else
    let s := (s.closeRecord key).setStream key (fun x => { x with nextIndex := g.index + g.count, nextTime := g.last / 65536 + x.period })
    match (s.streams.closed.filter (·.key == key)).getLast? with
    | some r =>
      if r.kind = 7 ∧ r.reason = g.reason then
        let n := s.streams.closed.length
        let i := n - 1 - (s.streams.closed.reverse.findIdx (·.key == key))
        { s with streams := { s.streams with closed := s.streams.closed.set i ((r.gap.extend g).marker key r.period) } }
      else { s with streams := { s.streams with closed := s.streams.closed ++ [g.marker key (s.stream key).period] } }
    | none => { s with streams := { s.streams with closed := s.streams.closed ++ [g.marker key (s.stream key).period] } }

/-- What a stream's START says besides its id (table "START payload"). -/
structure Opening where
  width  : Nat := 0
  recipe : Nat := 0xFFFF
  index  : Nat := 0xFFFFFFFFFFFFFFFF
  first  : Nat
  period : Nat := 0
  epoch  : Nat

/-- Opens a stream with a START record (R310, R317). One that is open stays as it is. The first run after FAULT_HOLD shows reason 4 in a stream that it ended (R538). (log 29: DEDUCED) -/
def State.openStream (s : State) (key reason : Nat) (o : Opening) (units latency : Nat) : State :=
  let x := s.stream key
  if x.isOpen then s
  else if x.awaiting then s.setStream key (fun x => { x with resume := true })
  else
    let reason := if x.resume then 2 else if reason = 1 ∧ x.afterFault then 4 else reason
    let p := le 1 (key / 65536) ++ le 1 (if s.coded key then 1 else 0) ++ le 1 o.width ++ [0] ++ le 2 reason ++ le 2 o.recipe ++ le 8 o.index ++ le 4 units ++ le 4 latency ++ le 8 o.epoch
    let r : Record := { key, kind := 8, gen := s.sys.configGen, first := o.first, period := o.period, payload := p, format := s.streams.format }
    (s.setStream key (fun x => { x with isOpen := true, ending := false, period := o.period, current := none, resume := false, nextIndex := o.index, nextTime := o.first, afterFault := false })).hand r

/-- Ends a stream: its open record closes, and its END follows any pending gap (R311, R317). `gen` is the config_gen of the END. -/
def State.endStreamGen (s : State) (key reason time : Nat) (gen : BitVec 16) : State :=
  if !(s.stream key).isOpen then s
  else
    let s := s.closeRecord key
    let r : Record := { key, kind := 9, gen, first := time, period := (s.stream key).period, reason, format := s.streams.format }
    (s.setStream key (fun x => { x with isOpen := false, ending := true })).hand r

/-- Ends a stream under the config_gen in force. -/
def State.endStream (s : State) (key reason time : Nat) : State := s.endStreamGen key reason time s.sys.configGen

/-- The config_gen of what lies before a change: at a grid epoch that before its changes, otherwise the one before (R157). -/
def State.oldGen (s : State) : BitVec 16 := if s.front.epochAt = some s.now then s.sys.genBefore else s.sys.configGen - 1

/-- What is produced out of units that lie before a change carries the config_gen before it (R49, R157, R308). -/
def State.asBefore (s : State) (f : State → State) : State :=
  let g := s.sys.configGen
  let t := f { s with sys := { s.sys with configGen := s.oldGen } }
  { t with sys := { t.sys with configGen := g } }

/-- Ends a stream by a change whose completion notice follows the END records (R140, R217): they carry the config_gen before the change (R49). (log 29: DEDUCED) -/
def State.endStreamBefore (s : State) (key reason : Nat) : State := s.endStreamGen key reason s.now s.oldGen

/-- Ends every stream that satisfies a condition on its key. -/
def State.endStreams (s : State) (p : Nat → Bool) (reason time : Nat) : State :=
  (s.streams.table.filter (fun e => e.2.isOpen && p e.1)).foldl (fun (s : State) e => s.endStream e.1 reason time) s

/-- Closes the open records of every stream that satisfies a condition on its key. -/
def State.closeRecords (s : State) (p : Nat → Bool) : State :=
  (s.streams.table.filter (fun e => p e.1)).foldl (fun (s : State) e => s.closeRecord e.1) s

/-- Whether a stream carries the samples of a channel: BRINE, FILTERED or REDUCTION (R155). -/
def ofChannel (ch key : Nat) : Bool :=
  match key / 65536 with
  | 0 | 1 => key % 65536 == ch
  | 2 => key % 65536 / 4 == ch
  | _ => false

/-- Whether a stream is a data stream: every kind but EVENT. -/
def isData (key : Nat) : Bool := key / 65536 != 6

/-! ## Outbound path (R313 to R324) -/

/-- The size of a record of the outbound path. -/
def OutRecord.size (o : OutRecord) : Nat := if o.raw.isEmpty then recordSize o.body else o.raw.length

/-- Bytes held in a store. -/
def storeBytes (l : List OutRecord) : Nat := (l.map OutRecord.size).sum

/-- Words of cask memory that groups, reservations and workspaces hold (R204). (log 52: DEDUCED) -/
def State.heldWords (s : State) : Nat :=
  (s.capture.groups.map (fun e => e.2.words)).sum + 64 * s.kiln.workKiB + (match s.kiln.workWait with | some (k, _) => 64 * k | none => 0)

/-- Spill pages in use: the spilled records fill pages of 4,032 record bytes (R323). (log 59: DEDUCED) -/
def State.spillPages (s : State) : Nat := (storeBytes s.streams.spill + 4031) / 4032

/-- Words of cask memory that are free (R323). -/
def State.freeWords (s : State) : Nat := 2097152 - s.heldWords - 256 * s.spillPages

/-- Spill pages that may still be taken (STREAM_GET_OUTBOUND). -/
def State.spillRoom (s : State) : Nat := min (s.streams.spillLimit - s.spillPages) (s.freeWords / 256)

/-- Bytes of the outbound buffer that the DATA credit of DN0 and DN1 reserves while their links are up (R322, R377), and that of a gang lead's TWIN (R436). -/
def State.dnReserved (s : State) : Nat :=
  (if (Tbl.get {} s.fabric.links 1).state = 3 then 1024 * s.fabric.grants.1 else 0) + (if (Tbl.get {} s.fabric.links 2).state = 3 then 1024 * s.fabric.grants.2 else 0)
    + (if s.twin.role = 3 then 1048576 else 0)

/-- Free bytes of the outbound buffer, less the DATA credit reserved for the DN ports, within which forwarded records wait (R322). -/
def State.bufferRoom (s : State) : Nat :=
  let forwarded := storeBytes (s.streams.buffer.filter (fun o => !o.raw.isEmpty))
  8388608 - max s.dnReserved forwarded - (storeBytes s.streams.buffer - forwarded)

/-- Bytes of the control store outside what it reserves for the open streams: EVENT and START records, the rest of ended streams, and what the open EVENT records and the closed ones have reserved (R320). -/
def State.eventBytes (s : State) : Nat :=
  let reserved := fun (o : OutRecord) => o.body.kind == 7 && (s.stream o.body.key).isOpen
  storeBytes (s.streams.control.filter (fun o => !reserved o)) + (s.streams.closed.map (fun r => if r.key / 65536 = 6 ∧ r.kind = 6 then recordSize r else 0)).sum
    + (s.streams.table.map (fun e => match e.2.current with | some r => if e.1 / 65536 = 6 then 32 + r.payload.length else 0 | none => 0)).sum

/-- Bytes of the control store that EVENT entries may still take: two GAP records and one END are reserved for every open stream (R320). -/
def State.eventRoom (s : State) : Nat := 2097152 - 192 * s.openStreams - s.eventBytes

/-- How many GAP records of a stream are admitted and unsent (R320). -/
def State.gapsWaiting (s : State) (key : Nat) : Nat := (s.streams.control.filter (fun o => o.body.key == key && o.body.kind == 7)).length

/-- Whether a stream has ended and its END record has not yet left (STREAM_GET, R96). A standby's records do not leave. -/
def State.endPending (s : State) (key : Nat) : Bool :=
  s.twin.role != 2 && ((s.stream key).ending || s.streams.control.any (fun o => o.body.key == key && o.body.kind == 9 && o.raw.isEmpty))

/-- A record's entry in the twin's copy (table "State copy sections"). -/
def State.copyEntry (s : State) (r : Record) : Bytes :=
  le 4 (s.streamId r.key) ++ le 4 r.sequence.toNat ++ le 8 r.index ++ le 4 r.units ++ le 1 r.kind ++ zeros 3

/-- Gives a record its sequence and admission number, puts it in a store and lists it for the standby twin (R313, R321, R441). -/
def State.place (s : State) (r : Record) (store : Nat) : State :=
  let st := s.stream r.key
  let r := if r.fixed then r else { r with sequence := st.sequence }
  let o : OutRecord := { body := r, admission := s.streams.nextAdm }
  let q := s.streams
  let q := { q with nextAdm := q.nextAdm + 1, rateBits := q.rateBits + (if r.fixed && decide (32768 ≤ r.key % 65536) then 0 else 8 * recordSize r) }
  let q := match store with
    | 0 => { q with buffer := q.buffer ++ [o], peak := max q.peak (storeBytes q.buffer + recordSize r) }
    | 1 => { q with control := q.control ++ [o] }
    | _ => { q with spill := q.spill ++ [o] }
  let s := if s.twin.role = 1 ∧ s.twin.mode = 1 ∧ s.twin.paired then { s with twin := { s.twin with records := s.twin.records ++ [s.copyEntry r]} } else s
  ({ s with streams := q }).setStream r.key (fun x => { x with sequence := r.sequence + BitVec.ofNat 32 (if r.kind = 7 then max 1 r.replaced else 1) })

/-- Changes the coder of a stream. -/
def State.setCoder (s : State) (key : Nat) (f : Coder → Coder) : State := { s with kiln := { s.kiln with coders := Tbl.modify {} s.kiln.coders key f } }

/-- Whether a stream's samples may be coded (R267). -/
def isCodable (key : Nat) : Bool := match key / 65536 with | 0 | 1 | 3 => true | _ => false

/-- A new run of a stream counts its indices anew: what it held before is no reference (R278). -/
def State.forgetSamples (s : State) (key : Nat) : State := if isCodable key then s.setCoder key (fun c => { c with refs := [] }) else s

/-- The next record of a stream starts fresh (R282). -/
def State.freshen (s : State) (key : Nat) : State := if isCodable key then s.setCoder key (fun c => { c with fresh := true }) else s

/-- The three samples before the next one, newest first, after some samples; a fresh start has preloaded them with its first sample (R280, R281). -/
def historyAfter (fresh : Bool) (xs h : List Int) : List Int :=
  (xs.reverse ++ (match xs with | x :: _ => if fresh then [x, x, x] else h | [] => h)).take 3

/-- Whether a record at an index does not follow directly on what the coder has seen (R282). -/
def Coder.breaks (c : Coder) (index : Nat) : Bool := c.fresh || index == 0 || c.lastIndex != some (index - 1)

/-- The coder of a stream follows the samples of a record, coded or plain (R280); the newest 8,192 serve as reference samples (R278). -/
def Coder.follow (c : Coder) (index period : Nat) (xs : List Int) : Coder :=
  { c with hist := historyAfter (c.breaks index) xs c.hist, lastIndex := some (index + xs.length - 1), lastPeriod := period, refs := ((xs.zipIdx.map (fun e => (index + e.2, e.1))).reverse ++ c.refs).take 8192, fresh := false, refHist := none }

/-- A record on its way out is known to its stream's coder (R280); one that was coded is known already. -/
def State.noteRecord (s : State) (r : Record) : State :=
  if !isCodable r.key then s
  else s.setCoder r.key (fun c => let c := if r.coding = 0 then c.follow r.index r.period r.samples else c; { c with lastSeq := (s.stream r.key).sequence })

/-- CAL_INTERRUPTED, on the first record after a GAP record with reason CALIBRATION (R307, R472). -/
def State.calMark (s : State) (key : Nat) : BitVec 16 := if (s.stream key).calGap then 0x40 else 0

/-- Admits a stream's pending gap as a GAP record (R315, R316), with the config_gen of the record that it goes ahead of. -/
def State.admitGap (s : State) (key : Nat) (gen : BitVec 16) : State :=
  match (s.stream key).pending with
  | none => s
  | some g =>
    let r := { g.marker key (s.stream key).period with gen, format := s.streams.format, flags := s.calMark key }
    let s := s.place r 1
    let s := { s with streams := { s.streams with gapsAdm := sat 32 (s.streams.gapsAdm + 1), gapUnits := s.streams.gapUnits + g.count } }
    s.setStream key (fun x => { x with pending := none, afterGap := true, calGap := g.reason == 4, gapUnits := x.gapUnits + g.count, records := x.records + 1, lastFirst := g.first })

/-- Units that admission refuses, or that a marker carries, join the pending gap; a gap of another reason is admitted first (R316). -/
def State.joinGap (s : State) (key : Nat) (g : Gap) : State :=
  let s := s.freshen key
  match (s.stream key).pending with
  | none => s.setStream key (fun x => { x with pending := some g })
  | some p =>
    if p.reason = g.reason then s.setStream key (fun x => { x with pending := some (p.extend g) })
    else (s.admitGap key s.sys.configGen).setStream key (fun x => { x with pending := some g })

/-- The units of a data record as a gap (R324). -/
def Record.asGap (r : Record) (reason : Nat) : Gap :=
  { count := r.units, index := r.index, first := r.first, last := r.last, reason, unit := match r.kind with | 4 => 1 | 2 | 5 | 6 => 2 | _ => 0 }

/-- The 32 bytes of the table "END payload". -/
def endPayload (st : Stream) (reason : Nat) : Bytes :=
  le 2 reason ++ zeros 2 ++ le 4 st.startSeq.toNat ++ le 8 st.units ++ le 8 st.gapUnits ++ le 8 (st.lastUnit / 65536)

/-! ## Discarding records (R290, R314) -/

/-- Puts records back at their places in a store kept by admission number. -/
def insertRecord (o : OutRecord) : List OutRecord → List OutRecord
  | [] => [o]
  | a :: r => if a.admission = o.admission then a :: r else if o.admission < a.admission then o :: a :: r else a :: insertRecord o r

/-- A record as it was before it was coded (R445). -/
def Record.plainly (r : Record) : Record :=
  if r.coding = 1 then { r with coding := 0, payload := r.payload.take r.lead, samples := r.was, was := [], lead := 0, needs := none } else r

/-- GAP records that replace records discarded after their admission: one for each unbroken run of their sequences (R314), and one for each record in format 1. (log 61: DEDUCED) -/
def replaceRuns (gen : BitVec 16) (format reason : Nat) : List OutRecord → List OutRecord
  | [] => []
  | o :: r =>
    let b := o.body
    let g : OutRecord := { body := { b.asGap reason |>.marker b.key b.period with sequence := b.sequence, replaced := 1, gen, format, fixed := true }, admission := o.admission }
    match replaceRuns gen format reason r with
    | n :: rest =>
      if format = 2 ∧ n.body.sequence = b.sequence + 1 then
        { g with body := { g.body with units := b.units + n.body.units, last := n.body.last, replaced := n.body.replaced + 1 } } :: rest
      else g :: n :: rest
    | [] => [g]

/-- The first data record of a stream that follows a GAP record carries AFTER_GAP (R307): the next one admitted, where none waits. -/
def State.flagAfter (s : State) (key adm : Nat) : State :=
  let q := s.streams
  let is := fun (o : OutRecord) => o.raw.isEmpty && o.body.key == key && decide (o.body.kind ≤ 6) && decide (adm < o.admission)
  let next := ((q.buffer ++ q.control ++ q.spill).filter is).map (·.admission) |>.min?
  match next with
  | none => s.setStream key (fun x => { x with afterGap := true })
  | some a =>
    let f := fun (l : List OutRecord) => l.map (fun (o : OutRecord) => if o.admission = a ∧ o.raw.isEmpty then { o with body := ({ o.body with flags := o.body.flags ||| 0x100 } : Record) } else o)
    { s with streams := { q with buffer := f q.buffer, control := f q.control, spill := f q.spill } }

/-- Discards admitted records of one stream, in order, and puts their GAP records in the control store at the place of the first (R314, R328). -/
def State.dropAdmitted (s : State) (l : List OutRecord) (reason : Nat) : State :=
  match l with
  | [] => s
  | o :: _ =>
    let key := o.body.key
    let gone := fun (d : OutRecord) => d.raw.isEmpty && l.any (fun x => x.admission == d.admission)
    let gaps := replaceRuns s.sys.configGen s.streams.format reason l
    let units := (l.map (fun x => x.body.units)).sum
    let q := s.streams
    let q := { q with buffer := q.buffer.filter (fun d => !gone d), spill := q.spill.filter (fun d => !gone d), control := gaps.foldl (fun c g => insertRecord g c) (q.control.filter (fun d => !gone d)), gapsAdm := sat 32 (q.gapsAdm + gaps.length), gapUnits := q.gapUnits + units }
    let links := s.fabric.links.map (fun (e : Nat × Link) => (e.1, { e.2 with replay := e.2.replay.map (fun r => if r.record.any gone then { r with record := none } else r) }))
    let s := { s with streams := q, fabric := { s.fabric with links } }
    let s := s.setStream key (fun x => { x with units := x.units - units, gapUnits := x.gapUnits + units, records := x.records + gaps.length - l.length })
    (s.freshen key).flagAfter key o.admission

/-- The samples that a record holds: its stream, the first index and the one after the last. -/
def Record.span (r : Record) : Nat × Nat × Nat := (r.key, r.index, r.index + r.units)

/-- Whether a record's blocks use samples of some spans (R290). -/
def Record.uses (r : Record) (gone : List (Nat × Nat × Nat)) : Bool :=
  r.needs.any (fun n => gone.any (fun g => g.1 == n.1 && decide (g.2.1 ≤ n.2.2) && decide (n.2.1 < g.2.2)))

/-- Spans with those of every record whose blocks use them, over any number of references (R290). -/
def withUsers (all : List Record) : (fuel : Nat) → List (Nat × Nat × Nat) → List (Nat × Nat × Nat)
  | 0, gone => gone
  | fuel + 1, gone =>
    let more := (all.filter (fun r => r.uses gone && !gone.contains r.span)).map Record.span
    if more.isEmpty then gone else withUsers all fuel (gone ++ more)

/-- A closed record that is not delivered for want of its reference: its place in the stream as a gap, under the sequence that it may have already. -/
def State.unreferenced (s : State) (r : Record) : Record :=
  let m := (r.asGap 7).marker r.key r.period
  if r.fixed then { m with sequence := r.sequence, replaced := 1, gen := s.sys.configGen, format := s.streams.format, fixed := true } else m

/-- The samples of some spans will not be delivered: they serve as references no more (R278), and every unsent record whose blocks use them goes with them (R290). (log 61: DEDUCED) -/
def State.dropUsers (s : State) (gone : List (Nat × Nat × Nat)) : State :=
  let q := s.streams
  let out := (q.buffer ++ q.spill).filter (fun o => o.raw.isEmpty && o.sent.isNone)
  let all := withUsers (q.closed ++ out.map (·.body)) 320 gone
  let keep := fun (key : Nat) (e : Nat × Int) => !all.any (fun g => g.1 == key && decide (g.2.1 ≤ e.1) && decide (e.1 < g.2.2))
  let s : State := { s with
    kiln := { s.kiln with coders := s.kiln.coders.map (fun e => (e.1, { e.2 with refs := e.2.refs.filter (keep e.1) })) }
    streams := { q with closed := q.closed.map (fun d => if d.uses all then s.unreferenced d else d) } }
  let deps := out.filter (fun o => o.body.uses all)
  (deps.map (·.body.key)).eraseDups.foldl (fun (s : State) k => s.dropAdmitted (deps.filter (fun o => o.body.key == k)) 7) s

/-- Discards a data record before its admission: its units join the pending gap, and records whose blocks use its samples go with it (R290). -/
def State.discard (s : State) (r : Record) (reason : Nat) : State :=
  ((if isCodable r.key then s.dropUsers [r.span] else s)).joinGap r.key (r.asGap reason)

/-- Refuses a data record whole (R324). -/
def State.refuse (s : State) (r : Record) : State :=
  State.discard { s with streams := { s.streams with refused := sat 32 (s.streams.refused + 1) } } r 1

/-- Admits a data record, with the pending gap ahead of it, to a store (R313, R316); AFTER_GAP and CAL_INTERRUPTED go on the first after a gap (R307). (log 58: DEDUCED) -/
def State.admitData (s : State) (r : Record) (store : Nat) : State :=
  let s := (s.admitGap r.key r.gen).noteRecord r
  let st := s.stream r.key
  let fl : BitVec 16 := (if st.afterGap then 0x100 else 0) ||| s.calMark r.key
  let s := s.place { r with flags := r.flags ||| fl } store
  s.setStream r.key (fun x => { x with afterGap := false, calGap := false, records := x.records + 1, units := x.units + r.units, lastFirst := r.first, lastUnit := r.last })

/-- Where a data record finds room: the buffer (0), spill pages (2), or nowhere; once spilling has begun every further record spills until the spill is empty (R323). -/
def State.roomFor (s : State) (r : Record) : Option Nat :=
  let n := recordSize r
  if s.streams.spill.isEmpty && decide (n ≤ s.bufferRoom) then some 0
  else if (storeBytes s.streams.spill + n + 4031) / 4032 - s.spillPages ≤ s.spillRoom then some 2
  else none

/-- Admits a record whose sequence stands (R446, R453): its stream opens and ends with its START and END. -/
def State.admitFixed (s : State) (r : Record) : State :=
  let s := match r.kind with
    | 7 => s.freshen r.key
    | 8 => (s.freshen r.key).forgetSamples r.key
    | 9 => s
    | _ => s.noteRecord r
  let s := s.place r (if 6 ≤ r.kind then 1 else (s.roomFor r).getD 0)
  s.setStream r.key (fun x =>
    let x := { x with records := x.records + 1, lastFirst := r.first }
    match r.kind with
    | 7 => { x with gapUnits := x.gapUnits + r.units, lastUnit := r.last }
    | 8 => { x with isOpen := true, ending := false, startSeq := r.sequence, period := r.period, records := 0, units := 0, gapUnits := 0, lastUnit := 0 }
    | 9 => { x with isOpen := false, ending := false }
    | _ => { x with units := x.units + r.units, lastUnit := r.last })

/-- Admits one record of the closed ones (R313, R316, R320, R323, R324). A marker joins the pending gap; START, END, EVENT records go to the control store. (log 58: DEDUCED) -/
def State.admitRecord (s : State) (r : Record) : State :=
  if r.fixed then s.admitFixed r
  else match r.kind with
  | 7 => s.joinGap r.key r.gap
  | 8 =>
    let st := s.stream r.key
    (((s.place { r with flags := s.calMark r.key } 1).freshen r.key).forgetSamples r.key).setStream r.key (fun x => { x with startSeq := st.sequence, records := 0, units := 0, gapUnits := 0, lastFirst := r.first, lastUnit := 0, calGap := false })
  | 9 =>
    let s := s.admitGap r.key r.gen
    (s.place { r with payload := endPayload (s.stream r.key) r.reason, flags := s.calMark r.key } 1).setStream r.key (fun x => { x with ending := false, lastFirst := r.first, calGap := false })
  | 6 => if 2 ≤ s.gapsWaiting r.key then s.refuse r else s.admitData r 1
  | _ =>
    if 2 ≤ s.gapsWaiting r.key then s.refuse r
    else match s.roomFor r with
      | some store => s.admitData r store
      | none => s.refuse r

/-- Whether a closed record must wait: a third GAP record, which it or its refusal would bring, has no reserved room until one has been sent (R320). -/
def State.mustWait (s : State) (r : Record) : Bool :=
  decide (2 ≤ s.gapsWaiting r.key) && (match (s.stream r.key).pending with | some p => r.kind == 9 || (r.kind == 7 && r.reason != p.reason) || (decide (r.kind ≤ 6) && p.reason != 1) | none => false)

/-- Whether a record must wait for the reference record that holds the sample at its last source index (R290). -/
def State.waitsForRef (s : State) (r : Record) : Bool :=
  match r.needs with
  | none => false
  | some (key, _, last) =>
    let holds := fun (d : Record) => d.key == key && decide (d.kind ≤ 3) && decide (d.index ≤ last) && decide (last < d.index + d.units)
    s.streams.closed.any holds || (s.stream key).current.any holds

/-- The position of the first closed record that may be admitted: coded where it must be, and no earlier record of its stream before it. (log 58: DEDUCED) -/
def nextAdmissible (s : State) : List Record → (seen : List Nat) → Option Record
  | [], _ => none
  | r :: rest, seen =>
    if seen.contains r.key || r.toCode || s.mustWait r || s.waitsForRef r || (s.sys.hub == .faultHold && r.key / 65536 != 6) then nextAdmissible s rest (r.key :: seen)
    else some r

end Sys2Proof.Machine
end

