-- ==== Sys2Proof/Machine/Mash.lean ====
section
/-! DEFINITION. The filter chain, recipes and reductions (chapter 06): the arithmetic of the stages, their resets and settling, coefficient banks and fades, reduction blocks, the mash budget, and the meanings of group 0x04. -/
namespace Sys2Proof.Machine

open Sys2Proof

/-! ## Channels and their sources -/

/-- Whether the hub forms data records: in RUN, RECONFIGURE, HOLDOVER and SHADOW, and in CALIBRATE entered from RUN (R71). -/
def State.running (s : State) : Bool := s.base.streaming && (s.base != .shadow || s.twin.lockstep)

/-- The pan of an analogue channel. -/
def panOf (ch : Nat) : Nat := ch / 8

/-- The AFE die of a pan. -/
def dieOf (p : Nat) : Nat := p / 16

/-- The pan of a number. -/
def State.pan (s : State) (p : Nat) : Pan := Tbl.get {} s.front.pans p

/-- Changes a pan. -/
def State.setPan (s : State) (p : Nat) (f : Pan → Pan) : State := { s with front := { s.front with pans := Tbl.modify {} s.front.pans p f } }

/-- The mash channel of a number. -/
def State.mchan (s : State) (ch : Nat) : MashChan := Tbl.get {} s.mash.chans ch

/-- Changes a mash channel. -/
def State.setMchan (s : State) (ch : Nat) (f : MashChan → MashChan) : State := { s with mash := { s.mash with chans := Tbl.modify {} s.mash.chans ch f } }

/-- The recipe of a number. -/
def State.recipe (s : State) (r : Nat) : Recipe := Tbl.get {} s.mash.recipes r

/-- Changes a recipe. -/
def State.setRecipe (s : State) (r : Nat) (f : Recipe → Recipe) : State := { s with mash := { s.mash with recipes := Tbl.modify {} s.mash.recipes r f } }

/-- Whether an AFE die is lost (R530). -/
def State.dieLost (s : State) (d : Nat) : Bool := s.front.afeLost.any (·.1 == d)

/-- The tap that feeds a virtual channel. -/
def State.tapOf (s : State) (ch : Nat) : Option Tap := (s.kiln.taps.find? (fun t => t.2.on && t.2.chan == ch)).map (·.2)

/-- The channels of the CH entries of a sequence table, within the pan. -/
def seqChannels (seq : List Byte) : List Nat := (seq.filter (fun b => b.toNat < 64)).map (fun b => b.toNat % 8)

/-- Whether a channel has a source now: a CH entry on a powered pan of a die in service, a configured feed channel, or a tap (STREAM_SET_ENABLE). -/
def State.hasSource (s : State) (ch : Nat) : Bool :=
  if ch < 256 then
    (s.pan (panOf ch)).power == .on && (seqChannels (s.pan (panOf ch)).seq).contains (ch % 8) && !s.dieLost (dieOf (panOf ch))
  else (s.feed.enabled && (Tbl.get {} s.feed.chans (ch - 256)).on) || (s.tapOf ch).isSome

/-- The input period of a channel in ns, on a grid and with a log2 divisor for analogue channels (R173). -/
def State.inPeriodOn (s : State) (g : Grid) (log2D ch : Nat) : Nat :=
  if ch < 256 then g.period * 2 ^ log2D
  else match s.tapOf ch with
    | some t => t.period
    | none => (Tbl.get {} s.feed.chans (ch - 256)).period

/-- The input period of a channel now. -/
def State.inPeriod (s : State) (ch : Nat) : Nat := s.inPeriodOn s.grid (s.pan (panOf ch)).log2D ch

/-! ## Recipe structure (R166) -/

/-- Whether arithmetic stage i (0 to 2 FIR, 3 biquad) is present. -/
def Recipe.has (r : Recipe) (i : Nat) : Bool := r.stages.getLsbD i

/-- The decimation of FIR stage i (0 to 2), 1 when absent. -/
def Recipe.dec (r : Recipe) (i : Nat) : Nat :=
  if r.has i then (match i with | 0 => r.m1 | 1 => r.m2 | _ => r.m3) else 1

/-- The tap count of FIR stage i, 0 when absent. -/
def Recipe.taps (r : Recipe) (i : Nat) : Nat :=
  if r.has i then (match i with | 0 => r.t1 | 1 => r.t2 | _ => r.t3) else 0

/-- M1 · M2 · M3. -/
def Recipe.decAll (r : Recipe) : Nat := r.dec 0 * r.dec 1 * r.dec 2

/-- The bank A or B of a recipe. -/
def Recipe.bank (r : Recipe) (b : Bool) : Bank := if b then r.bankB else r.bankA

/-- Whether the input word of arithmetic stage i is an 18-bit word: no earlier arithmetic stage, and an 18-bit stage-1 input (R163, R172). -/
def Recipe.narrowAt (r : Recipe) (i : Nat) (wide : Bool) : Bool := !wide && !(List.range i).any r.has

/-- The numerator of C_ch over M1·M2·M3 (R164). -/
def Recipe.cost (r : Recipe) (wide : Bool) : Nat :=
  let w := fun i => if r.narrowAt i wide then 1 else 2
  r.taps 0 * w 0 * r.dec 1 * r.dec 2 + r.taps 1 * w 1 * r.dec 2 + r.taps 2 * w 2 + (if r.has 3 then 10 else 0)

/-- Adds two fractions. -/
def fracAdd (a b : Nat × Nat) : Nat × Nat :=
  let d := a.2 / Nat.gcd a.2 b.2 * b.2
  (a.1 * (d / a.2) + b.1 * (d / b.2), d)

/-- Whether the words of a virtual channel are 24 bits wide: a feed channel of that width, or a tap on a FILTERED stream (R163, R293). -/
def State.wideInput (s : State) (ch : Nat) : Bool :=
  decide (256 ≤ ch) && (match s.tapOf ch with | some tp => tp.wide | none => (Tbl.get {} s.feed.chans (ch - 256)).on && (Tbl.get {} s.feed.chans (ch - 256)).width == 24)

/-- The load of one channel in MAC/s as a fraction (R164), with the recipes doubled that `dbl` names. -/
def State.chanLoad (s : State) (ch : Nat) (dbl : Nat → Bool) : Nat × Nat :=
  match (s.mchan ch).recipe with
  | none => (0, 1)
  | some rn =>
    let r := s.recipe rn
    let k := if dbl rn then 2 else 1
    let c := k * r.cost (s.wideInput ch)
    if ch < 256 then (1000000000 * c, s.inPeriod ch * r.decAll)
    else match s.tapOf ch with
      | some tp => (tp.rate * c, r.decAll)
      | none =>
        let fc := Tbl.get {} s.feed.chans (ch - 256)
        if fc.on then (1000000000 * c, fc.period * r.decAll) else (0, 1)

/-- The mash load in MAC/s as a fraction, with the recipes doubled that `dbl` names. -/
def State.mashLoad (s : State) (dbl : Nat → Bool) : Nat × Nat :=
  s.mash.chans.foldl (fun acc e => if (e.2.recipe).isSome then fracAdd acc (s.chanLoad e.1 dbl) else acc) (0, 1)

/-- Whether a recipe counts double: it fades, a swap of it is queued, or one of `swaps` is its own (R164, R198). (log 20: DEDUCED) -/
def State.doubles (s : State) (swaps : List Nat) (rn : Nat) : Bool := (s.recipe rn).fading || (s.recipe rn).queued.isSome || swaps.contains rn

/-- Whether the mash budget of 64 GMAC/s holds, with the swaps of some recipes at that epoch (R164). -/
def State.mashFits (s : State) (swaps : List Nat) : Bool :=
  let l := s.mashLoad (s.doubles swaps)
  decide (l.1 ≤ 64000000000 * l.2)

/-- A fraction in units of `u`, rounded up. -/
def fracCeil (f : Nat × Nat) (u : Nat) : Nat := (f.1 + f.2 * u - 1) / (f.2 * u)

/-! ## Arithmetic (R168 to R171) -/

/-- Rounds a / 2^s half to even. -/
def roundShift (a : Int) (s : Nat) : Int :=
  if s = 0 then a
  else
    let d : Int := 2 ^ s
    let q := a.fdiv d
    let r := a - q * d
    if 2 * r > d ∨ (2 * r = d ∧ q % 2 = 1) then q + 1 else q

/-- The pseudocode "shift_round_sat" (R171): the output, and whether it saturated. (log 48: DEDUCED) -/
def shiftRoundSat (acc : Int) (s : Nat) : Int × Bool :=
  let q := roundShift acc s
  if q > 8388607 then (8388607, true) else if q < -8388608 then (-8388608, true) else (q, false)

/-- floor(√n), bit by bit from bit `b − 1` down. -/
def isqrtFrom (n : Nat) : (b r : Nat) → Nat
  | 0, r => r
  | b + 1, r => isqrtFrom n b (if (r + 2 ^ b) * (r + 2 ^ b) ≤ n then r + 2 ^ b else r)

/-- floor(√n) for n below 2^80. -/
def isqrt (n : Nat) : Nat := isqrtFrom n 40 0

/-- Inserts into an ascending list. -/
def insertSorted (x : Int) : List Int → List Int
  | [] => [x]
  | y :: r => if x ≤ y then x :: y :: r else y :: insertSorted x r

/-- A list in ascending order. -/
def sortInts (l : List Int) : List Int := l.foldl (fun acc x => insertSorted x acc) []

/-- A word inside the chain: its index, value and clip mark (R177). -/
structure ChainWord where
  idx  : Int
  val  : Int
  clip : Bool

/-- Puts a word into a history of n words; an empty history is preloaded with it (R175). -/
def pushWord (n : Nat) (hist : List (Int × Bool)) (w : ChainWord) : List (Int × Bool) :=
  if hist.isEmpty then (w.val, w.clip) :: List.replicate (n - 1) (w.val, false) else ((w.val, w.clip) :: hist).take n

/-- The rank stage (R168, R176): window W, rank k. -/
def rankStep (w k : Nat) (st : Stage) (x : ChainWord) (lin : Int) : Stage × ChainWord × Int :=
  if w = 0 then (st, x, lin)
  else
    let f := st.first.getD x.idx
    let hist := pushWord w st.hist x
    let l := max lin (f - 1) + w - 1
    ({ hist, first := some f, last := l }, { idx := x.idx, val := (sortInts (hist.map (·.1))).getD k 0, clip := hist.any (·.2) }, l)

/-- Σ h[t] · x[n − t]. -/
def dot (h : List Int) (hist : List (Int × Bool)) : Int := (List.zipWith (fun c x => c * x.1) h hist).foldl (· + ·) 0

/-- A FIR stage of T taps and decimation M (R169, R176): none when its output is not due. (log 48: DEDUCED) -/
def firStep (present : Bool) (t m shift : Nat) (coefs : List Int) (st : Stage) (x : Option ChainWord) (lin : Int) : Stage × Option ChainWord × Int × Bool :=
  if !present then (st, x, lin, false)
  else match x with
    | none => (st, none, st.last, false)
    | some x =>
      let f := st.first.getD x.idx
      let hist := pushWord t st.hist x
      let l := (max lin (f - 1) + t).fdiv m - 1
      let st : Stage := { hist, first := some f, last := l }
      if (x.idx + 1) % m = 0 then
        let (y, sat) := shiftRoundSat (dot coefs hist) shift
        (st, some { idx := x.idx.fdiv m, val := y, clip := hist.any (·.2) }, l, sat)
      else (st, none, l, false)

/-- The biquad (R170, R176): its x history of three words, its y history of two. (log 48: DEDUCED) -/
def biquadStep (present : Bool) (q shift : Nat) (c : List Int) (st : Stage) (ys : List Int) (x : Option ChainWord) (lin : Int) : Stage × List Int × Option ChainWord × Int × Bool :=
  if !present then (st, ys, x, lin, false)
  else match x with
    | none => (st, ys, none, st.last, false)
    | some x =>
      let f := st.first.getD x.idx
      let ys := if st.hist.isEmpty then [x.val, x.val] else ys
      let hist := pushWord 3 st.hist x
      let l := max lin (f - 1) + q
      let acc := dot (c.take 3) hist - c.getD 3 0 * ys.getD 0 0 - c.getD 4 0 * ys.getD 1 0
      let (y, sat) := shiftRoundSat acc shift
      ({ hist, first := some f, last := l }, [y, ys.getD 0 0], some { idx := x.idx, val := y, clip := hist.any (·.2) }, l, sat)

/-- One stage-1 input through one instance on one bank: the instance after it, the output where one is due with its settling flag, and the arithmetic stages that saturated. -/
def runInstance (r : Recipe) (b : Bank) (ins : Instance) (n x : Int) (clip settling : Bool) : Instance × Option (ChainWord × Bool) × List Nat :=
  let flagged := if settling then some n else ins.flagged
  let f0 := ins.rank.first.getD n
  let (rank, w, l) := rankStep r.w r.k ins.rank { idx := n, val := x, clip } (flagged.getD (f0 - 1))
  let rank := { rank with first := some f0 }
  let (s1, w1, l1, a1) := firStep (r.has 0) r.t1 r.m1 (b.shifts.getD 0 0) b.fir1 ins.fir1 (some w) l
  let (s2, w2, l2, a2) := firStep (r.has 1) r.t2 r.m2 (b.shifts.getD 1 0) b.fir2 ins.fir2 w1 l1
  let (s3, w3, l3, a3) := firStep (r.has 2) r.t3 r.m3 (b.shifts.getD 2 0) b.fir3 ins.fir3 w2 l2
  let (s4, ys, w4, l4, a4) := biquadStep (r.has 3) r.q (b.shifts.getD 3 0) b.biquad ins.bq ins.ys w3 l3
  let sats := (if a1 then [0] else []) ++ (if a2 then [1] else []) ++ (if a3 then [2] else []) ++ (if a4 then [3] else [])
  ({ rank, fir1 := s1, fir2 := s2, fir3 := s3, bq := s4, ys, flagged, sats := ins.sats || !sats.isEmpty },
    w4.map (fun y => (y, decide (y.idx ≤ l4))), sats)

/-- The i-th output of a fade of L (R180). -/
def fadeOutput (old new : Int) (i len : Nat) : Int :=
  let w := i * 65536 / len
  (shiftRoundSat (old * (65536 - (w : Int)) + new * (w : Int)) 16).1

/-! ## Reductions (R185 to R189) -/

/-- The value of a closed block (table "Reduction operations"). -/
def Slot.value (sl : Slot) : Int :=
  if sl.used = 0 then 0
  else match sl.op with
    | 1 => sl.lo
    | 2 => sl.hi
    | 3 => roundEven (sl.sum * 256) sl.used
    | 4 => isqrt (65536 * sl.sq / sl.used)
    | 5 => sl.hi - sl.lo
    | _ => sl.cross

/-- The entry of a block (table "Reduction entry"). -/
def Slot.entry (sl : Slot) : Bytes :=
  let fl := (if sl.used < sl.m then 1 else 0) + (if sl.used = 0 then 2 else 0) + sl.flags
  leInt 4 sl.value ++ le 2 sl.used ++ le 2 fl

/-- A block opens, or stays open: its index, and the time of index bM. -/
def Slot.open (sl : Slot) (b time : Nat) : Slot :=
  if sl.block = some b then sl
  else { sl with block := some b, keep := 0, used := 0, sum := 0, sq := 0, lo := 0, hi := 0, cross := 0, flags := 0, time }

/-- The crossing that a word makes, and the state after it (R188). -/
def Slot.crossing (sl : Slot) (x : Int) : Option Bool × Nat :=
  match sl.above with
  | none => (some (decide (sl.level ≤ x)), 0)
  | some true => if x < sl.level - sl.hyst then (some false, 1) else (some true, 0)
  | some false => if sl.level + sl.hyst ≤ x then (some true, 1) else (some false, 0)

/-- Takes one word into the open block (R186, R188); `keep` are the record flags of its converter. -/
def Slot.take (sl : Slot) (x : Int) (clip sat settling : Bool) (keep : BitVec 16) : Slot :=
  if settling && !sl.incl then sl
  else
    let (above, c) := if sl.op = 6 then sl.crossing x else (none, 0)
    { sl with keep := sl.keep ||| (keep &&& 0x30), used := sl.used + 1, sum := sl.sum + x, sq := sl.sq + (x * x).toNat, lo := if sl.used = 0 then x else min sl.lo x, hi := if sl.used = 0 then x else max sl.hi x, cross := sl.cross + c, above, flags := sl.flags ||| (if clip then 4 else 0) ||| (if sat then 8 else 0) ||| (if settling then 16 else 0) }

/-- The record flags of a block (R134, R307): CLIP, SETTLING and SATURATED of its words, and the converters that made them. -/
def Slot.recordFlags (sl : Slot) : BitVec 16 :=
  (if sl.flags.testBit 2 then 1 else 0) ||| (if sl.flags.testBit 4 then 2 else 0) ||| (if sl.flags.testBit 3 then 4 else 0) ||| sl.keep

/-- Emits the open block of a slot into its REDUCTION stream. -/
def State.emitBlock (s : State) (ch i : Nat) (sl : Slot) (period : Nat) : State :=
  match sl.block with
  | none => s
  | some b => s.addUnit (streamKey 2 (4 * ch + i)) b (sl.time * 65536) (sl.m * period) sl.recordFlags none sl.entry

/-- Sets a slot. -/
def State.setSlot (s : State) (ch i : Nat) (sl : Slot) : State := s.setMchan ch (fun c => { c with slots := Tbl.set c.slots i sl })

/-- A word of a source arrives at a slot (R185). -/
def State.slotWord (s : State) (ch i idx time period : Nat) (x : Int) (clip sat settling : Bool) (keep : BitVec 16) : State :=
  let sl := Tbl.get {} (s.mchan ch).slots i
  let b := idx / sl.m
  let s := if sl.block.any (· != b) then s.emitBlock ch i sl period else s
  let sl := (sl.open b (time - (idx - b * sl.m) * period)).take x clip sat settling keep
  if (idx + 1) % sl.m = 0 then (s.emitBlock ch i sl period).setSlot ch i { sl with block := none } else s.setSlot ch i sl

/-- A word crosses from MASH to MEM. -/
def State.toMem (s : State) (w : MemWord) : State :=
  if s.mash.outWait.isEmpty && !s.queueFull 97 256 s.mash.toMem.length then { (s.notePush 97) with mash := { s.mash with toMem := s.mash.toMem ++ [w] } }
  else { s with mash := { s.mash with outWait := s.mash.outWait ++ [w] } }

/-- The first word that found the crossing full enters it, once its full flag has cleared (R329). -/
def State.refillMem (s : State) : State :=
  match s.mash.outWait with
  | [] => s
  | w :: r => if s.queueFull 97 256 s.mash.toMem.length then s else { (s.notePush 97) with mash := { s.mash with toMem := s.mash.toMem ++ [w], outWait := r } }

/-- The blocks of a slot that end within the missing indices idx to idx + count − 1 (R186). -/
def State.slotHole (s : State) (ch i idx count time period : Nat) : State :=
  let sl := Tbl.get {} (s.mchan ch).slots i
  let b0 := idx / sl.m
  let b1 := (idx + count) / sl.m
  let s := (List.range (b1 - b0)).foldl (fun (s : State) j =>
    let sl := Tbl.get {} (s.mchan ch).slots i
    let b := b0 + j
    let sl := sl.open b (time + b * sl.m * period - idx * period)
    (s.emitBlock ch i sl period).setSlot ch i { sl with block := none }) s
  let sl := Tbl.get {} (s.mchan ch).slots i
  if (idx + count) % sl.m = 0 then s else s.setSlot ch i (sl.open b1 (time + b1 * sl.m * period - idx * period))

/-- The active slots of a channel on a source: brine 0, filtered 1. -/
def MashChan.active (c : MashChan) (source : Nat) : List Nat :=
  (c.slots.filter (fun e => e.2.op != 0 && e.2.source == source)).map (·.1)

/-! ## A stage-1 input arrives (R163, R173 to R184) -/

/-- Whether any channel of a recipe is still in a fade. -/
def State.fadeRuns (s : State) (rn : Nat) : Bool := s.mash.chans.any (fun e => e.2.recipe == some rn && e.2.oldInst.isSome)

/-- A recipe stops fading when its last channel has (R181). (log 47: DEDUCED) -/
def State.endFade (s : State) (rn : Nat) : State :=
  if (s.recipe rn).fading && !s.fadeRuns rn then s.setRecipe rn (fun r => { r with fading := false, fadeLen := 0 }) else s

/-- A fade is cut short: no further output of it is to come. -/
def State.cutFade (s : State) (rn : Nat) : State :=
  { s with mash := { s.mash with chans := s.mash.chans.map (fun (e : Nat × MashChan) => if e.2.recipe = some rn then (e.1, { e.2 with oldInst := none, fadeAt := 0 }) else e) } }.setRecipe rn (fun r => { r with fading := false, fadeLen := 0 })

/-- Counts saturations per stage (R171). -/
def countSats (sat l : List Nat) : List Nat := (List.range 4).map (fun i => min 4294967295 (sat.getD i 0 + l.count i))

/-- An output word of a channel's recipe goes to its FILTERED stream, its filtered slots and the capture engine (R173, R177). -/
def State.filteredOut (s : State) (ch idx time : Nat) (val : Int) (clip settling sat : Bool) (keep : BitVec 16) : State :=
  let rn := (s.mchan ch).recipe.getD 0
  let period := s.inPeriod ch * (s.recipe rn).decAll
  let key := streamKey 1 ch
  let fl : BitVec 16 := (if clip then 1 else 0) ||| (if settling then 2 else 0) ||| (if sat then 4 else 0) ||| (keep &&& 0x30)
  let s := match (s.stream key).current with
    | some r => if r.flags.getLsbD 1 ≠ settling then s.closeRecord key else s
    | none => s
  let s := s.addUnit key idx (time * 65536) period fl (some val) []
  let s := ((s.mchan ch).active 1).foldl (fun (s : State) i => s.slotWord ch i idx time period val clip sat settling keep) s
  let s := if settling then s.setRecipe rn (fun r => { r with settled := sat32 (r.settled + 1) }) else s
  (s.setMchan ch (fun c => { c with filtNew := false })).toMem { filtered := true, ch, index := idx, time, period, value := val, flags := fl ||| s.holdoverFlag, gen := s.sys.configGen, restart := (s.mchan ch).filtNew }
where
  /-- A saturating u32 counter. -/
  sat32 (v : Nat) : Nat := min v 4294967295

/-- One stage-1 input through a channel's recipe: a synchronising reset where one is due (R174, R183), both instances during a fade (R179, R180). (log 47: DEDUCED) -/
def State.recipeInput (s : State) (ch idx time : Nat) (x : Int) (flags : BitVec 16) : State :=
  match (s.mchan ch).recipe with
  | none => s
  | some rn =>
    let c := s.mchan ch
    let s := if c.resetDue then (s.setMchan ch (fun c => { c with resetDue := false, filtNew := true, inst := {}, oldInst := none, fadeAt := 0 })).setRecipe rn (fun r => { r with resets := min (r.resets + 1) 4294967295 }) else s
    let s := s.endFade rn
    let c := s.mchan ch
    let r := s.recipe rn
    let (ins, out, sats) := runInstance r (r.bank r.activeB) c.inst idx x (flags.getLsbD 0) (flags.getLsbD 1)
    let old := c.oldInst.map (fun o => runInstance r (r.bank (!r.activeB)) o idx x (flags.getLsbD 0) (flags.getLsbD 1))
    let sats := sats ++ (match old with | some (_, _, l) => l | none => [])
    let s := s.setRecipe rn (fun r => { r with sat := countSats r.sat sats })
    match out with
    | none => s.setMchan ch (fun c => { c with inst := ins, oldInst := old.map (·.1) })
    | some (y, settling) =>
      let i := c.fadeAt + 1
      let val := match old with
        | some (_, some (yo, _), _) => fadeOutput yo.val y.val i r.fadeLen
        | _ => y.val
      let settling := settling || (match old with | some (_, some (_, f), _) => f | _ => false)
      let sat := ins.sats || (match old with | some (o, _, _) => o.sats | none => false)
      let done := decide (r.fadeLen ≤ i)
      let s := s.setMchan ch (fun c => { c with inst := { ins with sats := false }, oldInst := if done then none else old.map (fun o => { o.1 with sats := false }), fadeAt := if old.isSome then i else 0 })
      let s := s.filteredOut ch y.idx.toNat time val y.clip settling sat flags
      s.endFade rn

/-- A synchronising reset of a channel reaches its reduction slots: their CROSS states start anew (R188). It ends there on a channel without a recipe. -/
def State.resetSlots (s : State) (ch : Nat) : State :=
  if !(s.mchan ch).resetDue then s
  else s.setMchan ch (fun c => { c with resetDue := c.recipe.isSome, slots := c.slots.map (fun e => (e.1, { e.2 with above := none })) })

/-- The 18 bits that a BRINE record holds of a stage-1 input (R268, R306). What they are of a 24-bit word that they cannot hold, the spec does not state. (log 46: DESIGN CHOICE) -/
def State.brineValue (s : State) (x : Int) : State × Int :=
  if -131072 ≤ x ∧ x ≤ 131071 then (s, x) else let (v, s) := s.free; (s, signed 18 (v.toNat % 2 ^ 18))

/-- A sample of a channel arrives in the MASH island: the brine tap, then the recipe. -/
def State.mashInput (s : State) (ch idx time : Nat) (x : Int) (flags : BitVec 16) : State :=
  let period := s.inPeriod ch
  let s := s.resetSlots ch
  let (s, v) := s.brineValue x
  let s := s.addUnit (streamKey 0 ch) idx (time * 65536) period flags (some v) []
  let s := ((s.mchan ch).active 0).foldl (fun (s : State) i => s.slotWord ch i idx time period x (flags.getLsbD 0) false (flags.getLsbD 1) flags) s
  let s := (s.setMchan ch (fun c => { c with brineNew := false })).toMem { filtered := false, ch, index := idx, time, period, value := x, flags := flags ||| s.holdoverFlag, gen := s.sys.configGen, restart := (s.mchan ch).brineNew }
  s.recipeInput ch idx time x flags

/-- `count` stage-1 inputs of a channel from index idx are missing: its streams account for the units they would have held (R315), the next input resets its recipe (R174), and its slots go on (R186). -/
def State.mashHole (s : State) (ch idx count time reason : Nat) : State :=
  let period := s.inPeriod ch
  let s := s.miss (streamKey 0 ch) { count, index := idx, first := time, last := (time + (count - 1) * period) * 65536, reason, unit := 0 }
  let s := ((s.mchan ch).active 0).foldl (fun (s : State) i => s.slotHole ch i idx count time period) s
  let s := s.toMem { filtered := false, ch, index := idx, time, period, value := 0, flags := 0, gen := s.sys.configGen, gap := reason, count }
  match (s.mchan ch).recipe with
  | none => s.setMchan ch (fun c => { c with resetDue := true, brineNew := true })
  | some rn =>
    let m := (s.recipe rn).decAll
    let j0 := idx / m
    let n := (idx + count) / m - j0
    let t0 := time + (j0 * m + m - 1) * period - idx * period
    let s := s.setMchan ch (fun c => { c with resetDue := true, brineNew := true })
    if n = 0 then s
    else
      let s := s.miss (streamKey 1 ch) { count := n, index := j0, first := t0, last := (t0 + (n - 1) * m * period) * 65536, reason, unit := 0 }
      let s := ((s.mchan ch).active 1).foldl (fun (s : State) i => s.slotHole ch i j0 n t0 (period * m)) s
      s.toMem { filtered := true, ch, index := j0, time := t0, period := period * m, value := 0, flags := 0, gen := s.sys.configGen, gap := reason, count := n }

/-! ## Streams of a channel -/

/-- The index and time of the next stage-1 input of a channel (R167, R293, R335). -/
def State.nextInput (s : State) (ch : Nat) : Nat × Nat :=
  let p := s.inPeriod ch
  if ch < 256 then
    let n := (s.now - s.grid.2 + p - 1) / p
    (n, s.grid.2 + n * p)
  else match s.tapOf ch with
    | some t => (t.next, s.now)
    | none =>
      let f := Tbl.get {} s.feed.chans (ch - 256)
      match s.feed.fifo.find? (fun i => i.ch == ch) with
      | some i => (i.index, i.time)
      | none => (f.next, f.first + f.next * p)

/-- The period of a channel's streams by its present source, recipe and slots, and their next units (R155, R308). (log 62: DEDUCED) -/
def State.setPeriods (s : State) (ch : Nat) : State :=
  let p := s.inPeriod ch
  let m := match (s.mchan ch).recipe with | some rn => (s.recipe rn).decAll | none => 1
  let (n, t0) := s.nextInput ch
  let set := fun (s : State) (key d j t : Nat) => s.setStream key (fun x => { x with period := d, nextIndex := j, nextTime := t })
  let s := set s (streamKey 0 ch) p n t0
  let s := set s (streamKey 1 ch) (p * m) (n / m) (t0 + (n / m * m + m - 1 - n) * p)
  (s.mchan ch).slots.foldl (fun (s : State) e =>
    let w := if e.2.source = 0 then 1 else m
    let d := e.2.m * w
    set s (streamKey 2 (4 * ch + e.1)) (d * p) (n / d) (t0 + (w - 1) * p - (n - n / d * d) * p)) s

/-- The open blocks of a channel leave as partial, of the slots that a condition names (R190). (log 48: DEDUCED) -/
def State.cutBlocks (s : State) (ch : Nat) (which : Slot → Bool) : State :=
  let p := s.inPeriod ch
  let m := match (s.mchan ch).recipe with | some rn => (s.recipe rn).decAll | none => 1
  (s.mchan ch).slots.foldl (fun (s : State) e =>
    if e.2.op = 0 ∨ e.2.block.isNone ∨ !which e.2 then s
    else (s.emitBlock ch e.1 e.2 (if e.2.source = 0 then p else p * m)).setSlot ch e.1 { e.2 with block := none }) s

/-- Opens the BRINE (0) or FILTERED (1) stream of a channel that is on and has a source, from the present epoch (R310, R317). -/
def State.openChannel (s : State) (kind ch reason : Nat) : State :=
  if !s.running ∨ !s.streamOn kind ch ∨ !s.hasSource ch then s
  else
    let key := streamKey kind ch
    let p := s.inPeriod ch
    let (n, t0) := s.nextInput ch
    let (u, l) := s.sizes key
    match kind, (s.mchan ch).recipe with
    | 0, _ => s.openStream key reason { width := if isWide key then 24 else 18, index := n, first := t0, period := p, epoch := s.now } u l
    | _, some rn =>
      let m := (s.recipe rn).decAll
      let j := n / m
      s.openStream key reason { width := 24, recipe := rn, index := j, first := t0 + (j * m + m - 1 - n) * p, period := m * p, epoch := s.now } u l
    | _, none => s

/-- Opens the REDUCTION stream of an active slot: its first unit has the time of the first word of its block in the source's index space (R173, R185, R317). -/
def State.openSlot (s : State) (ch i reason : Nat) : State :=
  let sl := Tbl.get {} (s.mchan ch).slots i
  if !s.running ∨ sl.op = 0 ∨ !s.hasSource ch then s
  else
    let key := streamKey 2 (4 * ch + i)
    let p := s.inPeriod ch
    let w := if sl.source = 0 then 1 else match (s.mchan ch).recipe with | some rn => (s.recipe rn).decAll | none => 1
    let d := w * sl.m
    let (n, t0) := s.nextInput ch
    let b := n / d
    let (u, l) := s.sizes key
    (if (s.stream key).isOpen then s else s.setSlot ch i { sl with block := none }).openStream key reason { index := b, first := t0 + (w - 1) * p - (n - b * d) * p, period := d * p, epoch := s.now } u l

/-- Opens every stream of a channel that is due. -/
def State.openChannelStreams (s : State) (ch reason : Nat) : State :=
  let s := (s.openChannel 0 ch reason).openChannel 1 ch reason
  ((s.mchan ch).slots.map (·.1)).foldl (fun (s : State) i => s.openSlot ch i reason) s

/-- A channel's source begins: its recipe resets and its streams open (R174, R310). -/
def State.beginChannel (s : State) (ch reason : Nat) : State :=
  (s.setMchan ch (fun c => { c with resetDue := true, brineNew := true })).openChannelStreams ch reason

/-- A channel's source ends: its streams end (R311). -/
def State.endChannel (s : State) (ch reason : Nat) : State := (s.asBefore (fun s => s.cutBlocks ch (fun _ => true))).endStreams (ofChannel ch) reason s.now

/-- The streams of a channel whose pan is powered down end (R140). (log 29: DEDUCED) -/
def State.endPowered (s : State) (ch : Nat) : State :=
  let s := s.asBefore (fun s => s.cutBlocks ch (fun _ => true))
  (s.streams.table.filter (fun e => e.2.isOpen && ofChannel ch e.1)).foldl (fun (s : State) e => s.endStreamBefore e.1 4) s

/-! ## Recipe rules -/

/-- Whether the bound of R172 holds for a bank, for an 18-bit or a 24-bit stage-1 input. (log 48: DEDUCED) -/
def Recipe.bankOk (r : Recipe) (b : Bank) (wide : Bool) : Bool :=
  let ok := fun i (cs : List Int) => !r.has i || decide ((if r.narrowAt i wide then 2 ^ 17 else 2 ^ 23) * (cs.map Int.natAbs).sum ≤ 2 ^ 47 - 1)
  ok 0 (b.fir1.take r.t1) && ok 1 (b.fir2.take r.t2) && ok 2 (b.fir3.take r.t3) && ok 3 (b.biquad.take 5)

/-- The channels assigned to a recipe. -/
def State.assigned (s : State) (rn : Nat) : List Nat := (s.mash.chans.filter (fun e => e.2.recipe == some rn)).map (·.1)

/-- The recipe byte that a RECIPE_ASSIGN gives a channel. -/
def assignOf (p : Bytes) (ch : Nat) : Option Nat :=
  if u16 p 0 ≤ ch ∧ ch < u16 p 0 + u16 p 2 then some (u8 p (12 + ch - u16 p 0)) else none

/-- The recipe a channel will have at time t, by the assignments accepted. -/
def State.recipeAt (s : State) (ch t : Nat) : Option Nat :=
  (s.foreseen.filter (fun c => c.opcode == 0x0413 && decide (c.epoch ≤ t))).foldl (fun r c => match assignOf c.params ch with | some v => if v = 0xFF then none else some v | none => r) (s.mchan ch).recipe

/-- Whether a bank of a recipe is in use (R178). -/
def State.bankInUse (s : State) (rn : Nat) (b : Bool) : Bool :=
  let r := s.recipe rn
  let some' := !(s.assigned rn).isEmpty || s.foreseen.any (fun c => c.opcode == 0x0413 && (c.params.drop 12).any (fun v => v.toNat == rn))
  (r.activeB == b && some') || r.fading || r.queued.any (fun q => q.target == b)
    || s.cmds.changes.any (fun c => c.opcode == 0x0414 && u8 c.params 0 == rn && (u8 c.params 1 == 1) == b)

/-- The settings of a feed channel that will be in force at time t. -/
def State.feedAt (s : State) (o t : Nat) : FeedChan :=
  (s.foreseen.filter (fun c => c.opcode == 0x0817 && decide (c.epoch ≤ t) && u8 c.params 0 == o)).foldl (fun f c => { f with on := u8 c.params 1 == 1, width := u8 c.params 2, period := u32 c.params 4 }) (Tbl.get {} s.feed.chans o)

/-- The taps that will be in force at time t. -/
def State.tapsAt (s : State) (t : Nat) : Tbl Tap :=
  (s.foreseen.filter (fun c => c.opcode == 0x0712 && decide (c.epoch ≤ t))).foldl (fun l c => Tbl.set l (u8 c.params 0) ({ on := u8 c.params 1 == 1, chan := u16 c.params 2, wide := u32 c.params 4 / 65536 % 16 == 1 } : Tap)) s.kiln.taps

/-- Whether the stage-1 inputs of a channel will be 24 bits wide at time t (R172). -/
def State.wideAt (s : State) (ch t : Nat) : Bool :=
  decide (256 ≤ ch) && (match (s.tapsAt t).find? (fun e => e.2.on && e.2.chan == ch) with | some e => e.2.wide | none => (s.feedAt (ch - 256) t).on && (s.feedAt (ch - 256) t).width == 24)

/-- The banks of a recipe that an assignment at time t puts into service: the one that is active then, and the targets of the swaps that are pending or queued after it (R172). -/
def State.banksFrom (s : State) (rn t : Nat) : List Bool :=
  let swaps := s.cmds.changes.filter (fun c => c.opcode == 0x0414 && u8 c.params 0 == rn)
  let target := fun (c : Change) => u8 c.params 1 == 1
  let queued := ((s.recipe rn).queued.map (·.target)).toList
  (((swaps.filter (fun c => decide (c.epoch ≤ t))).map target).getLast?.getD (s.recipe rn).activeB) :: queued ++ (swaps.filter (fun c => decide (t < c.epoch))).map target

/-- The channels that a swap of a recipe at time t concerns, each with the time from which it does: those that have the recipe then, and those that will by an assignment accepted (R172). -/
def State.channelsFrom (s : State) (rn t : Nat) : List (Nat × Nat) :=
  (List.range 320).flatMap (fun ch =>
    (if s.recipeAt ch t = some rn then [(ch, t)] else [])
      ++ (s.foreseen.filter (fun c => c.opcode == 0x0413 && decide (t < c.epoch) && assignOf c.params ch == some rn)).map (fun c => (ch, c.epoch)))

/-- The input period that an analogue or feed channel will have at time t; none for a tap channel, whose period is not known before (R173). -/
def State.inPeriodAt (s : State) (ch t : Nat) : Option Nat :=
  if ch < 256 then some ((s.gridAt t).period * 2 ^ s.divisorAt (panOf ch) t)
  else if (s.tapOf ch).isSome then none
  else some (s.feedAt (ch - 256) t).period

/-! ## Meanings of group 0x04 -/

/-- The states of the table "Group 0x04 commands" for the setting commands. -/
def settingStates : List HubState := [.timelock, .ready, .calibrate, .run, .reconfigure, .holdover]

/-- When a change with this time_ns is in force: at its epoch, or now. -/
def State.effectTime (s : State) (t : Nat) : Nat := (s.changeEpoch t).getD s.now

/-- Whether a command came as a broadcast (R55). -/
def Held.isBroadcast (h : Held) : Bool := h.owner == .broadcast

/-- `RECIPE_GET` result (table "RECIPE_GET result parameters"). -/
def recipeGet (s : State) (rn : Nat) : Bytes :=
  let r := s.recipe rn
  let pend := s.cmds.changes.any (fun c => c.opcode == 0x0414 && u8 c.params 0 == rn)
  le 1 rn ++ le 1 r.w ++ le 1 r.k ++ le 1 r.stages.toNat ++ le 2 r.t1 ++ le 1 r.m1 ++ [0] ++ le 2 r.t2 ++ le 1 r.m2 ++ [0] ++ le 2 r.t3 ++ le 1 r.m3 ++ [0] ++ le 2 r.q ++ zeros 2
    ++ le 1 (if r.isDefined then 1 else 0) ++ le 1 (if r.activeB then 1 else 0) ++ le 1 (if r.fading then (if r.queued.isSome then 2 else 1) else if pend then 3 else 0) ++ [0]
    ++ le 2 r.fadeLen ++ le 2 (s.assigned rn).length ++ le 4 (fracCeil (r.cost false * 65536, r.decAll) 1)

/-- `RECIPE_GET` (0x0401). -/
def opRecipeGet : Op :=
  { need := fun _ => 4, states := allStates
    params := fun h _ => [(0, u8 h.cmd.params 0 < 16), (1, zeroAt h.cmd.params 1 3)]
    run := fun h s => .done 0 (recipeGet s (u8 h.cmd.params 0)) s }

/-- The coefficients of a stage, 1 to 3 FIR and 4 biquad, of a bank. -/
def Bank.stage (b : Bank) (i : Nat) : List Int := match i with | 1 => b.fir1 | 2 => b.fir2 | 3 => b.fir3 | _ => b.biquad

/-- The number of coefficients of a stage. -/
def Recipe.coefs (r : Recipe) (i : Nat) : Nat := match i with | 1 => r.taps 0 | 2 => r.taps 1 | 3 => r.taps 2 | _ => 5

/-- `RECIPE_READ_BANK` (0x0402). -/
def opRecipeReadBank : Op :=
  { need := fun _ => 8, states := allStates
    params := fun h s =>
      let p := h.cmd.params
      let r := s.recipe (u8 p 0)
      [(0, u8 p 0 < 16 && r.isDefined), (1, u8 p 1 < 2), (2, 1 ≤ u8 p 2 && u8 p 2 ≤ 4 && r.has (u8 p 2 - 1)), (3, zeroAt p 3 1), (4, u16 p 4 < r.coefs (u8 p 2)), (5, 1 ≤ u16 p 6 && u16 p 6 ≤ 254 && u16 p 4 + u16 p 6 ≤ r.coefs (u8 p 2))]
    run := fun h s =>
      let p := h.cmd.params
      let b := (s.recipe (u8 p 0)).bank (u8 p 1 == 1)
      .done 0 ((List.range 4).flatMap (fun i => le 1 (b.shifts.getD i 0)) ++ (List.range (u16 p 6)).flatMap (fun i => leInt 4 ((b.stage (u8 p 2)).getD (u16 p 4 + i) 0))) s }

/-- `RECIPE_GET_ASSIGN` (0x0403). -/
def opRecipeGetAssign : Op :=
  { need := fun _ => 4, states := allStates
    params := fun h _ => let p := h.cmd.params; [(0, u16 p 0 < 320), (1, 1 ≤ u16 p 2 && u16 p 0 + u16 p 2 ≤ 320)]
    run := fun h s => let p := h.cmd.params; .done 0 ((List.range (u16 p 2)).flatMap (fun i => le 1 ((s.mchan (u16 p 0 + i)).recipe.getD 0xFF))) s }

/-- `RECIPE_GET_STATS` (0x0404). (log 108: DEDUCED) -/
def opRecipeGetStats : Op :=
  { need := fun _ => 4, states := allStates
    params := fun h _ => let p := h.cmd.params; [(0, u8 p 0 < 16), (2, zeroAt p 2 2)]
    run := fun h s =>
      let p := h.cmd.params
      let r := s.recipe (u8 p 0)
      let res := (List.range 4).flatMap (fun i => le 4 (r.sat.getD i 0)) ++ le 4 r.settled ++ le 4 r.resets ++ le 4 (fracCeil (s.mashLoad (fun _ => false)) 1000000) ++ le 4 (fracCeil (s.mashLoad (fun rn => (s.recipe rn).fading)) 1000000)
      .done 0 res (if u8 p 1 = 1 then s.setRecipe (u8 p 0) (fun r => { r with sat := [0, 0, 0, 0], settled := 0, resets := 0 }) else s) }

/-- The 16 bytes of a slot in `REDUCE_GET`. -/
def Slot.bytes (sl : Slot) : Bytes :=
  if sl.op = 0 then zeros 16
  else le 1 sl.op ++ le 1 sl.source ++ le 1 (if sl.incl then 1 else 0) ++ [0] ++ le 2 sl.m ++ zeros 2 ++ leInt 4 sl.level ++ le 4 sl.hyst

/-- `REDUCE_GET` (0x0405). -/
def opReduceGet : Op :=
  { need := fun _ => 4, states := allStates
    params := fun h _ => let p := h.cmd.params; [(0, u16 p 0 < 320), (1, zeroAt p 2 2)]
    run := fun h s => .done 0 ((List.range 4).flatMap (fun i => (Tbl.get {} (s.mchan (u16 h.cmd.params 0)).slots i).bytes)) s }

/-- Whether a stage's taps and decimation fit its presence (table "RECIPE_DEFINE parameters"). -/
def stageRange (present : Bool) (v lim : Nat) : Bool := if present then 1 ≤ v && v ≤ lim else v == 0

/-- The structure that `RECIPE_DEFINE` sets (R196). -/
def recipeDefine (p : Bytes) (r : Recipe) : Recipe :=
  { r with isDefined := true, w := u8 p 1, k := u8 p 2, stages := BitVec.ofNat 4 (u8 p 3), t1 := u16 p 4, m1 := u8 p 6, t2 := u16 p 8, m2 := u8 p 10, t3 := u16 p 12, m3 := u8 p 14, q := u16 p 16, bankA := {}, bankB := {}, activeB := false }

/-- `RECIPE_DEFINE` (0x0410). -/
def opRecipeDefine : Op :=
  { need := fun _ => 20, states := settingStates
    params := fun h s =>
      let p := h.cmd.params
      let has := fun i => (u8 p 3).testBit i
      [(0, u8 p 0 < 16 && !s.bankInUse (u8 p 0) false && !s.bankInUse (u8 p 0) true), (1, [0, 3, 5, 7, 9].contains (u8 p 1)), (2, if u8 p 1 = 0 then u8 p 2 == 0 else u8 p 2 < u8 p 1), (3, u8 p 3 < 16),
       (4, stageRange (has 0) (u16 p 4) 64), (5, stageRange (has 0) (u8 p 6) 16), (6, zeroAt p 7 1), (7, stageRange (has 1) (u16 p 8) 128), (8, stageRange (has 1) (u8 p 10) 16), (9, zeroAt p 11 1),
       (10, stageRange (has 2) (u16 p 12) 256), (11, stageRange (has 2) (u8 p 14) 16), (12, zeroAt p 15 1), (13, has 3 || u16 p 16 == 0), (14, zeroAt p 18 2)]
    run := fun h s => .done 0 [] (s.setRecipe (u8 h.cmd.params 0) (recipeDefine h.cmd.params)) }

/-- Replaces list entries from position i up; missing entries before them are 0. -/
def patchList (l : List Int) (i : Nat) (v : List Int) (len : Nat) : List Int :=
  (List.range len).map (fun j => if i ≤ j ∧ j < i + v.length then v.getD (j - i) 0 else l.getD j 0)

/-- Loads coefficients into one stage of a bank. -/
def Bank.load (b : Bank) (stage first : Nat) (v : List Int) (len : Nat) : Bank :=
  match stage with
  | 1 => { b with fir1 := patchList b.fir1 first v len }
  | 2 => { b with fir2 := patchList b.fir2 first v len }
  | 3 => { b with fir3 := patchList b.fir3 first v len }
  | _ => { b with biquad := patchList b.biquad first v len }

/-- Changes a bank of a recipe. -/
def Recipe.setBank (r : Recipe) (b : Bool) (f : Bank → Bank) : Recipe := if b then { r with bankB := f r.bankB } else { r with bankA := f r.bankA }

/-- `RECIPE_LOAD_COEFS` (0x0411). -/
def opRecipeLoadCoefs : Op :=
  { need := fun p => 8 + 4 * u16 p 6, states := settingStates
    params := fun h s =>
      let p := h.cmd.params
      let r := s.recipe (u8 p 0)
      [(0, u8 p 0 < 16 && r.isDefined), (1, u8 p 1 < 2 && !s.bankInUse (u8 p 0) (u8 p 1 == 1)), (2, 1 ≤ u8 p 2 && u8 p 2 ≤ 4 && r.has (u8 p 2 - 1)), (3, zeroAt p 3 1), (4, u16 p 4 < r.coefs (u8 p 2)),
       (5, 1 ≤ u16 p 6 && u16 p 6 ≤ 254 && u16 p 4 + u16 p 6 ≤ r.coefs (u8 p 2)), (6, (List.range (u16 p 6)).all (fun i => decide (-8388608 ≤ i32 p (8 + 4 * i)) && decide (i32 p (8 + 4 * i) ≤ 8388607)))]
    run := fun h s =>
      let p := h.cmd.params
      .done 0 [] (s.setRecipe (u8 p 0) (fun r => r.setBank (u8 p 1 == 1) (fun b => b.load (u8 p 2) (u16 p 4) ((List.range (u16 p 6)).map (fun i => i32 p (8 + 4 * i))) (r.coefs (u8 p 2))))) }

/-- `RECIPE_SET_SHIFTS` (0x0412): the shift of an absent stage is ignored. (log 47: DEDUCED) -/
def opRecipeSetShifts : Op :=
  { need := fun _ => 8, states := settingStates
    params := fun h s =>
      let p := h.cmd.params
      [(0, u8 p 0 < 16 && (s.recipe (u8 p 0)).isDefined), (1, u8 p 1 < 2 && !s.bankInUse (u8 p 0) (u8 p 1 == 1)), (2, zeroAt p 2 2), (3, u8 p 4 < 32), (4, u8 p 5 < 32), (5, u8 p 6 < 32), (6, u8 p 7 < 32)]
    run := fun h s =>
      let p := h.cmd.params
      .done 0 [] (s.setRecipe (u8 p 0) (fun r => r.setBank (u8 p 1 == 1) (fun b => { b with shifts := (List.range 4).map (fun i => if r.has i then u8 p (4 + i) else b.shifts.getD i 0) }))) }

/-- At its epoch an assignment gives one channel its recipe (R184, R197). -/
def State.assignChannel (s : State) (ch v : Nat) : State :=
  let new := if v = 0xFF then none else some v
  let old := (s.mchan ch).recipe
  if old = new then s
  else
    let key := streamKey 1 ch
    let dec : Option Nat → Nat := fun o => match o with | some rn => (s.recipe rn).decAll | none => 1
    let s := (if dec old = dec new then s else s.asBefore (fun s => s.cutBlocks ch (fun sl => sl.source == 1))).closeRecord key
    let s := s.setMchan ch (fun c => { c with recipe := new, resetDue := true, inst := {}, oldInst := none, fadeAt := 0 })
    let s := (match old with | some rn => s.endFade rn | none => s).setPeriods ch
    match old, new with
    | none, some _ => s.openChannel 1 ch 2
    | some _, none => s.endStream key 2 s.now
    | _, _ => s

/-- The effect of `RECIPE_ASSIGN`. -/
def effRecipeAssign (_ : Nat) (p : Bytes) (s : State) : State × Option (Nat × Nat × Bytes) :=
  ((List.range (u16 p 2)).foldl (fun (s : State) i => s.assignChannel (u16 p 0 + i) (u8 p (12 + i))) s, some (0, 0, []))

/-- The checks of R165, R172, R173 and R191 on one channel of an assignment. (log 20: DEDUCED) -/
def assignOk (s : State) (t ch v : Nat) : Bool :=
  if v = 0xFF then !((s.mchan ch).slots.any (fun e => e.2.op != 0 && e.2.source == 1))
  else
    let r := s.recipe v
    let period := s.inPeriodAt ch t
    v < 16 && r.isDefined && !(decide (256 ≤ ch) && r.w != 0) && (s.banksFrom v t).all (fun b => r.bankOk (r.bank b) (s.wideAt ch t))
      && (match period with | some p => decide (p * r.decAll ≤ 4294967295) | none => true)

/-- `RECIPE_ASSIGN` (0x0413). -/
def opRecipeAssign : Op :=
  { need := fun p => 12 + u16 p 2, states := settingStates
    params := fun h s =>
      let p := h.cmd.params
      [(0, u16 p 0 < 320), (1, 1 ≤ u16 p 2 && u16 p 0 + u16 p 2 ≤ 320), (2, timeRule h s (u64 p 4)), (3, (List.range (u16 p 2)).all (fun i => assignOk s (s.effectTime (u64 p 4)) (u16 p 0 + i) (u8 p (12 + i))))]
    abort := abortChange
    epoch := fun h s => some (s.effectTime (u64 h.cmd.params 4))
    effect := effRecipeAssign
    run := fun h s => configRun effRecipeAssign (s.changeEpoch (u64 h.cmd.params 4)) h s }

/-- The result parameters of a swap's completion (R198). -/
def swapResult (outcome start : Nat) : Bytes := le 1 outcome ++ zeros 3 ++ le 8 start

/-- A swap starts: the target bank becomes active and every channel of the recipe starts its fade, which a synchronising reset still due ends at the channel's next input (R179, R181, R183, R184). -/
def State.startSwap (s : State) (rn : Nat) (target : Bool) (len : Nat) : State :=
  let s := s.nextGen
  let chans := s.assigned rn
  let s := chans.foldl (fun (s : State) ch => (s.closeRecord (streamKey 1 ch)).setMchan ch (fun c => { c with oldInst := some c.inst, fadeAt := 0 })) s
  let lastAt := s.now + len * (chans.map (fun ch => s.inPeriod ch * (s.recipe rn).decAll)).foldl max 0
  (s.setRecipe rn (fun r => { r with activeB := target, fading := !chans.isEmpty, fadeLen := if chans.isEmpty then 0 else len, fadeTo := lastAt })).endFade rn

/-- A swap reaches its epoch (R181, R182, R198). -/
def effRecipeSwap (ref : Nat) (p : Bytes) (s : State) : State × Option (Nat × Nat × Bytes) :=
  let rn := u8 p 0
  let target := u8 p 1 == 1
  let r := s.recipe rn
  if r.fading then
    match r.queued with
    | none => (s.setRecipe rn (fun r => { r with queued := some { target, length := u16 p 2, ref, replaced := false } }), none)
    | some q => ((s.setRecipe rn (fun r => { r with queued := some { target, length := u16 p 2, ref, replaced := true } })).finish q.ref stOk 2 (swapResult 3 0), none)
  else if r.activeB = target then (s, some (0, 3, swapResult 4 s.now))
  else (s.startSwap rn target (u16 p 2), some (0, 0, swapResult 0 s.now))

/-- A queued swap starts at the first grid epoch at or after the end of the running fade (R181). -/
def State.startQueuedSwap (s : State) (rn : Nat) : State :=
  let r := s.recipe rn
  match r.queued with
  | none => s
  | some q =>
    if r.fading then s
    else
      let s := s.setRecipe rn (fun r => { r with queued := none })
      if r.activeB = q.target then s.finish q.ref stOk 3 (swapResult 4 s.now)
      else ((s.startSwap rn q.target q.length).noteNewGen q.ref s).finish q.ref stOk 0 (swapResult (if q.replaced then 2 else 1) s.now)

/-- `CMD_ABORT` of a swap until its fade starts: pending for its epoch, or queued. -/
def abortSwap (h : Held) (s : State) : Option State :=
  match abortChange h s with
  | some s' => some s'
  | none =>
    let rn := u8 h.cmd.params 0
    if (s.recipe rn).queued.any (fun q => q.ref == h.serial) then some (s.setRecipe rn (fun r => { r with queued := none })).leaveReconfigure else none

/-- The meaning of `RECIPE_SWAP`: always accepted; in TIMELOCK and READY the swap starts at once, as at an epoch (R198). -/
def runRecipeSwap (h : Held) (s : State) : Answer :=
  match s.changeEpoch (u64 h.cmd.params 8) with
  | some e => .accepted [] (s.addChange h e)
  | none => .accepted [] { s with cmds := { s.cmds with changes := insertChange { epoch := s.now, ref := h.serial, opcode := h.opcode, params := h.cmd.params } s.cmds.changes } }

/-- `RECIPE_SWAP` (0x0414). -/
def opRecipeSwap : Op :=
  { need := fun _ => 16, states := settingStates, ownGen := true
    params := fun h s =>
      let p := h.cmd.params
      let r := s.recipe (u8 p 0)
      let t := s.effectTime (u64 p 8)
      let wide := (s.channelsFrom (u8 p 0) t).any (fun e => s.wideAt e.1 e.2)
      [(0, u8 p 0 < 16 && r.isDefined), (1, u8 p 1 < 2 && r.bankOk (r.bank (u8 p 1 == 1)) wide), (2, 1 ≤ u16 p 2 && u16 p 2 ≤ 4096), (3, zeroAt p 4 4), (4, timeRule h s (u64 p 8) && !(h.isBroadcast && u64 p 8 == 0))]
    bcast := fun _ => true
    abort := abortSwap
    epoch := fun h s => some (s.effectTime (u64 h.cmd.params 8))
    effect := effRecipeSwap
    run := runRecipeSwap }

/-- The effect of `RECIPE_RESET`. -/
def effRecipeReset (_ : Nat) (p : Bytes) (s : State) : State × Option (Nat × Nat × Bytes) :=
  ((List.range (u16 p 2)).foldl (fun (s : State) i => if (s.mchan (u16 p 0 + i)).recipe.isSome then s.setMchan (u16 p 0 + i) (fun c => { c with resetDue := true }) else s) s, some (0, 0, []))

/-- `RECIPE_RESET` (0x0415). -/
def opRecipeReset : Op :=
  { need := fun _ => 16, states := settingStates
    params := fun h s => let p := h.cmd.params; [(0, u16 p 0 < 320), (1, 1 ≤ u16 p 2 && u16 p 0 + u16 p 2 ≤ 320), (2, zeroAt p 4 4), (3, timeRule h s (u64 p 8) && !(h.isBroadcast && u64 p 8 == 0))]
    bcast := fun _ => true
    abort := abortChange
    epoch := fun h s => some (s.effectTime (u64 h.cmd.params 8))
    effect := effRecipeReset
    run := fun h s => configRun effRecipeReset (s.changeEpoch (u64 h.cmd.params 8)) h s }

/-- The setting that `REDUCE_SET` gives a slot; the CROSS state goes on where the slot was on CROSS before (R188). -/
def slotOf (p : Bytes) (old : Slot) : Slot :=
  { op := u8 p 3, source := u8 p 4, incl := (u8 p 5).testBit 0, m := u16 p 6, level := i32 p 8, hyst := u32 p 12, above := if u8 p 3 = 6 then old.above else none }

/-- The effect of `REDUCE_SET` (R190): the open block leaves as partial in a record of its own config_gen (R308). -/
def effReduceSet (_ : Nat) (p : Bytes) (s : State) : State × Option (Nat × Nat × Bytes) :=
  let ch := u16 p 0
  let i := u8 p 2
  let old := Tbl.get {} (s.mchan ch).slots i
  let new := slotOf p old
  let p0 := s.inPeriod ch
  let per := if old.source = 0 then p0 else p0 * (match (s.mchan ch).recipe with | some rn => (s.recipe rn).decAll | none => 1)
  let differs := old.op != new.op || old.source != new.source || old.m != new.m || old.level != new.level || old.hyst != new.hyst
  let s := if old.op ≠ 0 ∧ differs then s.asBefore (fun s => (s.emitBlock ch i old per).closeRecord (streamKey 2 (4 * ch + i))) else s
  let s := s.setSlot ch i (if differs then new else { old with incl := new.incl })
  let s := if new.op = 0 then s else s.setPeriods ch
  let s := if old.op = 0 then s.openSlot ch i 2 else if new.op = 0 then s.endStream (streamKey 2 (4 * ch + i)) 2 s.now else s
  (s, some (0, 0, []))

/-- `REDUCE_SET` (0x0416). (log 20: DEDUCED) -/
def opReduceSet : Op :=
  { need := fun _ => 24, states := settingStates
    params := fun h s =>
      let p := h.cmd.params
      let ch := u16 p 0
      let t := s.effectTime (u64 p 16)
      let rc := s.recipeAt ch t
      let cross := u8 p 3 == 6
      let dec := if u8 p 4 = 1 then (match rc with | some rn => (s.recipe rn).decAll | none => 1) else 1
      [(0, ch < 320), (1, u8 p 2 < 4), (2, u8 p 3 ≤ 6), (3, u8 p 4 < 2 && (u8 p 3 == 0 || u8 p 4 == 0 || rc.isSome)), (4, u8 p 5 < 2),
       (5, 1 ≤ u16 p 6 && (match s.inPeriodAt ch t with | some pd => decide (u16 p 6 * pd * dec ≤ 4294967295) | none => decide (u16 p 6 * s.inPeriod ch * dec ≤ 4294967295))),
       (6, if cross then decide (-8388608 ≤ i32 p 8) && decide (i32 p 8 ≤ 8388607) else u32 p 8 == 0), (7, if cross then u32 p 12 ≤ 8388607 else u32 p 12 == 0), (8, timeRule h s (u64 p 16))]
    abort := abortChange
    epoch := fun h s => some (s.effectTime (u64 h.cmd.params 16))
    effect := effReduceSet
    run := fun h s => configRun effReduceSet (s.changeEpoch (u64 h.cmd.params 16)) h s }

/-- The operations of group 0x04. -/
def mashOps (n : Nat) : Option Op :=
  match n with
  | 0x01 => some opRecipeGet | 0x02 => some opRecipeReadBank | 0x03 => some opRecipeGetAssign | 0x04 => some opRecipeGetStats | 0x05 => some opReduceGet
  | 0x10 => some opRecipeDefine | 0x11 => some opRecipeLoadCoefs | 0x12 => some opRecipeSetShifts | 0x13 => some opRecipeAssign | 0x14 => some opRecipeSwap
  | 0x15 => some opRecipeReset | 0x16 => some opReduceSet
  | _ => none

end Sys2Proof.Machine
end

