-- ==== Sys2Proof/Machine/CalImage.lean ====
section
/-! DEFINITION. The calibration image (chapter 15, table "Calibration image map"): its nominal bytes, its fields, and the corrections they make (R146, R147, R461, R462). -/
namespace Sys2Proof.Machine

open Sys2Proof

/-- Byte i of `v` in little-endian order. -/
def byteOf (v i : Nat) : Byte := BitVec.ofNat 8 (v / 256 ^ i)

/-- The image offset of a channel's record. -/
def chanRec (ch : Nat) : Nat := 4096 * (1 + ch / 128) + 28 * (ch % 128)

/-- The image offset of a pan's test-path record. -/
def testRec (p : Nat) : Nat := 128 + 32 * p

/-- The image offset of a converter's record. -/
def convRec (c : Nat) : Nat := 1152 + 64 * c

/-- The image offset of the edge record of an EDGE input, 16 for `PPS_IN`. -/
def edgeRec (e : Nat) : Nat := 3264 + 16 * e

/-- The nominal bytes of an image but for its crc (R477, R568). -/
def nominalBody (a : Nat) : Byte :=
  if a < 8 then byteOf 0x4C41435A (a - 4)
  else if a < 10 then byteOf 1 (a - 8)
  else if a < 12 then byteOf 0x0A01 (a - 10)
  else if a < 16 then byteOf 12288 (a - 12)
  else if a < 24 then byteOf Config.hubId.toNat (a - 16)
  else if a < 66 then (if 64 ≤ a then byteOf 800 (a - 64) else 0)
  else if 3264 ≤ a ∧ a < 3536 then (if (a - 3264) % 16 < 4 then byteOf (Config.edgeOffset ((a - 3264) / 16)).toNat ((a - 3264) % 16) else 0)
  else if 4096 ≤ a ∧ a < 12288 ∧ a % 4096 < 3584 then
    match a % 4096 % 28 with
    | 20 => 96
    | 24 => byteOf 15625 0
    | 25 => byteOf 15625 1
    | 26 => byteOf 2000 0
    | 27 => byteOf 2000 1
    | _ => 0
  else 0

/-- The crc of the nominal image: CRC-32C of its bytes 4 to 12,287 (table "Image header"). -/
def nominalCrc : Nat := crc32c ((List.range 12284).map (fun i => nominalBody (4 + i)))

/-- The nominal bytes of an image, which the live and the staging image hold after reset (R477). -/
def nominalByte (a : Nat) : Byte := if a < 4 then byteOf nominalCrc a else nominalBody a

/-- Bytes 4 to 12,287 of an image. -/
def imageBody (m : List Host.Cell) : Bytes := Mem.readN nominalByte m 4 12284

/-- A byte of the live image; its crc is kept with every change (R478). -/
def State.liveByte (s : State) (a : Nat) : Byte :=
  if a < 4 then byteOf (crc32c (imageBody s.cal.live)) a else Mem.read nominalByte s.cal.live a

/-- A byte of the staging image. -/
def State.stagingByte (s : State) (a : Nat) : Byte := Mem.read nominalByte s.cal.staging a

/-- A u8 of the live image. -/
def State.calU8 (s : State) (a : Nat) : Nat := (Mem.read nominalByte s.cal.live a).toNat

/-- A u16 of the live image. -/
def State.calU16 (s : State) (a : Nat) : Nat := s.calU8 a + 256 * s.calU8 (a + 1)

/-- A u32 of the live image. -/
def State.calU32 (s : State) (a : Nat) : Nat := s.calU16 a + 65536 * s.calU16 (a + 2)

/-- An i16 of the live image. -/
def State.calI16 (s : State) (a : Nat) : Int := signed 16 (s.calU16 a)

/-- An i8 of the live image. -/
def State.calI8 (s : State) (a : Nat) : Int := signed 8 (s.calU8 a)

/-- Writes bytes of the live image and its time of change (R478). -/
def State.calWrite (s : State) (a : Nat) (b : Bytes) : State :=
  { s with cal := { s.cal with live := Mem.writeN nominalByte (Mem.writeN nominalByte s.cal.live a b) 24 (le 8 s.now) } }

/-- The lead L in τ (R146). -/
def State.lead (s : State) : Nat := s.calU16 64

/-- The calibration tap of a channel (R147). -/
def State.tCal (s : State) (ch : Nat) : Nat := s.calU8 (chanRec ch + 20)

/-- The comparator trim of a channel (R462). -/
def State.compTrim (s : State) (ch : Nat) : Int := s.calI8 (chanRec ch + 21)

/-- The sample code that a converter's code gives on the path whose record stands at `rec0`, at gain code g, and whether it clips (R461, R106). -/
def State.sampleCode (s : State) (rec0 g : Nat) (c : Int) : Int × Bool :=
  let o := s.calI16 rec0 + roundEven (s.calI16 (rec0 + 2) * 2 ^ g) 128
  let v := (16 * c - o) * (1048576 + s.calI16 (rec0 + 4 + 2 * g))
  let x := roundEven v 16777216
  let x := clampInt (-131072) 131071 x
  (x, x == 131071 || x == -131072)

/-- The expected code of a test DAC code d at gain code g (R122): round(d × 0.002 × 2^g × 131072 / 5), clipped. -/
def expectedTest (d : Int) (g : Nat) : Int := clampInt (-131072) 131071 (roundDiv (d * 2 ^ g * 262144) 5000)

/-- ΔT of R151 in 0.01 °C: the largest change of any sensor from the strike-path reference temperatures of the image header. (log 44: DEDUCED) -/
def State.deltaT (s : State) : Nat :=
  ((List.range 10).map (fun i => ((s.front.temps.getD i 0) - s.calI16 (32 + 2 * i)).natAbs)).foldl max 0

end Sys2Proof.Machine
end

