-- ==== Sys2Proof/Machine/Sluice.lean ====
section
/-! DEFINITION. The sluice (chapter 16, R491 to R498): costs, requests, grants and their tokens. -/
namespace Sys2Proof.Machine

open Sys2Proof

/-- Adds tokens. -/
def Tokens.add (a b : Tokens) : Tokens := { vdd := a.vdd + b.vdd, av := a.av + b.av, vdds := a.vdds + b.vdds }

/-- The first rail on which a cost exceeds what there is: 1 VDD, 2 AVP and AVN, 3 VDDS; 0 when it fits (R495). -/
def Tokens.lacks (cost have' : Tokens) : Nat :=
  if have'.vdd < cost.vdd then 1 else if have'.av < cost.av then 2 else if have'.vdds < cost.vdds then 3 else 0

/-- Subtracts tokens, never below 0. -/
def Tokens.minus (a b : Tokens) : Tokens := { vdd := a.vdd - b.vdd, av := a.av - b.av, vdds := a.vdds - b.vdds }

/-- The tokens in use. -/
def Sluice.inUse (x : Sluice) : Tokens := x.granted.foldl (fun t r => t.add r.cost) {}

/-- What a request may draw on: the budget, and for a recovery request the reserve as well (R492). -/
def Sluice.limit (x : Sluice) (recovery : Bool) : Tokens := if recovery then x.budget.add x.reserve else x.budget

/-- The rail on which a request's cost does not fit now; 0 when it fits. -/
def Sluice.short (x : Sluice) (r : Request) : Nat :=
  let l := x.limit r.recovery
  let u := x.inUse
  if l.vdd < u.vdd + r.cost.vdd ∧ r.cost.vdd ≠ 0 then 1
  else if l.av < u.av + r.cost.av ∧ r.cost.av ≠ 0 then 2
  else if l.vdds < u.vdds + r.cost.vdds ∧ r.cost.vdds ≠ 0 then 3
  else 0

/-- The queue of a kind of request. -/
def Sluice.queue (x : Sluice) (recovery : Bool) : List Request := if recovery then x.recovery else x.normal

/-- Replaces the queue of a kind of request. -/
def Sluice.setQueue (x : Sluice) (recovery : Bool) (q : List Request) : Sluice := if recovery then { x with recovery := q } else { x with normal := q }

/-- The request that the sluice would grant next in a queue (R492): its head, when it fits, and for the normal queue when no recovery request waits. -/
def Sluice.grantable (x : Sluice) (recovery : Bool) : Option Request :=
  match x.queue recovery with
  | [] => none
  | r :: _ => if x.short r = 0 ∧ (recovery ∨ x.recovery.isEmpty) then some r else none

/-- Enters a request (R491, R495): a recovery request waits ten times the timeout. -/
def State.ask (s : State) (op unit : Nat) (cost : Tokens) (recovery : Bool) (ref : Option Nat) (deadline : Option Nat) : State :=
  let x := s.sluice
  let d := deadline.getD (s.now + x.timeout * (if recovery then 10000000 else 1000000))
  let r : Request := { op, unit, cost, recovery, ref, entered := s.now, deadline := d }
  { s with sluice := { x.setQueue recovery (x.queue recovery ++ [r]) with headSince := if !recovery ∧ x.normal.isEmpty then s.now else x.headSince } }

/-- Withdraws the waiting requests of a command (R140). -/
def State.withdraw (s : State) (ref : Nat) : State :=
  { s with sluice := { s.sluice with normal := s.sluice.normal.filter (·.ref != some ref), recovery := s.sluice.recovery.filter (·.ref != some ref) } }

/-- Whether a command still has requests waiting. -/
def State.asks (s : State) (ref : Nat) : Bool := s.sluice.normal.any (·.ref == some ref) || s.sluice.recovery.any (·.ref == some ref)

/-- Returns the tokens of granted requests that satisfy a condition. -/
def State.returnTokens (s : State) (p : Request → Bool) : State :=
  { s with sluice := { s.sluice with granted := s.sluice.granted.filter (fun r => !p r) } }

end Sys2Proof.Machine
end

