-- ==== Sys2Proof/Machine/Pans.lean ====
section
/-! DEFINITION. Pans and front end (chapter 04): strobes and pan frames, conversions and their results, urgent requests, the roving converter, and the meanings of group 0x02 but for the comparators. -/
namespace Sys2Proof.Machine

open Sys2Proof

/-! ## Channels and pans -/

/-- An analogue channel. -/
def State.chan (s : State) (ch : Nat) : Chan := Tbl.get {} s.front.chans ch

/-- Changes an analogue channel. -/
def State.setChan (s : State) (ch : Nat) (f : Chan → Chan) : State := { s with front := { s.front with chans := Tbl.modify {} s.front.chans ch f } }

/-- The pan for which the roving converter substitutes. -/
def State.substituted (s : State) : Option Nat := match s.front.roving with | .substituting p => some p | _ => none

/-- The pan that holds the roving converter on loan. -/
def State.loanPan (s : State) : Option Nat := match s.front.roving with | .loan p => some p | _ => none

/-- Whether the roving converter serves a pan. -/
def State.rovingServes (s : State) (p : Nat) : Bool := s.substituted == some p || s.loanPan == some p

/-- Whether the roving converter is available: neither substituting nor unavailable (R132). -/
def State.rovingFree (s : State) : Bool :=
  !s.front.rovingFailed && (match s.front.roving with | .substituting _ | .unavailable => false | _ => true)

/-- Whether a pan is under foreground interruption (R471): until its values are in force, ahead of its first strike (R472). -/
def State.interrupted (s : State) (p : Nat) : Bool := (s.pan p).calUntil.isSome

/-- Whether the hub strikes: every state in which its grid runs (R71). -/
def State.strikes (s : State) : Bool :=
  match s.sys.hub with
  | .ready | .calibrate | .run | .reconfigure | .shadow | .holdover => true
  | _ => false

/-- The slots S of a pan frame. -/
def State.slots (s : State) (p : Nat) : Nat := s.front.gridN * 2 ^ (s.pan p).log2D

/-- A pan's strobe index of grid strobe k (R167). -/
def State.panIndex (s : State) (p k : Nat) : Nat := k / 2 ^ (s.pan p).log2D

/-- The kind of a sequence entry: 0 CH, 1 TEST, 2 ZERO (R109). -/
def entryKind (b : Byte) : Nat := b.toNat / 64

/-- The path that a sequence entry converts: channel 0 to 7, or 8 for the test path; none for ZERO. -/
def entryPath (b : Byte) : Option Nat := match entryKind b with | 0 => some (b.toNat % 8) | 1 => some 8 | _ => none

/-- The rules of R110 on slots: at most S entries, and no CH or TEST entry above index S − 2. -/
def seqFits (seq : List Byte) (slots : Nat) : Bool :=
  decide (seq.length ≤ slots) && (List.range seq.length).all (fun i => (entryPath (seq.getD i 0)).isNone || decide (i + 2 ≤ slots))

/-- Whether a table leaves a slot that could be eligible for a spot (R116). -/
def spotPossible (seq : List Byte) (slots : Nat) : Bool :=
  decide (seq.length < slots) && (List.range seq.length).all (fun i => (entryPath (seq.getD i 0)).isNone || decide (i + 2 < slots))

/-- The record of a path in the calibration image. -/
def pathRec (p path : Nat) : Nat := if path = 8 then testRec p else chanRec (8 * p + path)

/-! ## Strobes (R16, R142 to R147) -/

/-- Puts a sample or hole on the PAN → MASH crossing, when the hub forms records. -/
def State.pushSample (s : State) (p : Nat) (x : PanSample) : State :=
  let q := s.pan p
  if !s.running then s
  else if q.outWait.isEmpty && !s.queueFull p 32 q.samples.length then (s.notePush p).setPan p (fun q => { q with samples := q.samples ++ [x] })
  else s.setPan p (fun q => { q with outWait := q.outWait ++ [x] })

/-- The first sample of a pan that found the crossing full enters it, once its full flag has cleared (R329). -/
def State.refillPan (s : State) (p : Nat) : State :=
  match (s.pan p).outWait with
  | [] => s
  | x :: r => if s.queueFull p 32 (s.pan p).samples.length then s else (s.notePush p).setPan p (fun q => { q with samples := q.samples ++ [x], outWait := r })

/-- Whether the conversion of a pan's entries is over in this frame. -/
def PanFrame.over (f : PanFrame) (x : Pan) : Bool := decide (x.seq.length ≤ f.entry)

/-- The holes of a pan that no earlier sample precedes any more: its frame is over, and it holds no strobe before theirs. -/
def Pan.holesDue (x : Pan) : List PanSample :=
  if x.frame.any (fun f => !f.over x) then []
  else x.holes.takeWhile (fun h => !(x.armed ++ x.strobes).any (fun m => decide (m.time < h.time)))

/-- The holes of a pan join its samples in their place. -/
def State.releaseHoles (s : State) (p : Nat) : State :=
  let l := (s.pan p).holesDue
  l.foldl (fun (s : State) h => s.pushSample p h) (if l.isEmpty then s else s.setPan p (fun x => { x with holes := x.holes.drop l.length }))

/-- Samples of a pan's strobes that are not struck are missing from its streams, in their place after the samples of earlier strobes (R16, R149). -/
def State.pushHoles (s : State) (p : Nat) (l : List PanSample) : State :=
  if !s.running then s else (s.setPan p (fun x => { x with holes := x.holes ++ l })).releaseHoles p

/-- A missed strobe of a pan: its samples go to GAP records with reason STROBE_LATE, and the fault log says so (R16). -/
def State.strobeLate (s : State) (p k time : Nat) : State :=
  let s := { s with front := { s.front with missed := sat 32 (s.front.missed + 1) } }
  let s := s.logFault 0x0014 p (k % 2 ^ 32) 0
  let holes := (seqChannels (s.pan p).seq).map (fun c => ({ ch := 8 * p + c, index := s.panIndex p k, time, code := 0, gap := 5, count := 1, flags := 0 } : PanSample))
  s.pushHoles p holes

/-- The strobe message for an instant T: the last GRID cycle with time(c) ≤ T − L − 1 ns, by the counter's present rate, and the residual in τ, ties to even (R146). (log 43: DEDUCED) -/
def State.strobeFor (s : State) (k time : Nat) : Strobe :=
  let target := (time - 1) * 2 ^ 40 - s.lead * 2 ^ 33
  let j := (target - s.time.counter) / s.time.inc
  let c := s.time.counter + j * s.time.inc
  { k, time, cycle := c, resid := (roundEven ((target : Int) - c) (2 ^ 33)).toNat }

/-- Whether a power-up that brings a pan into service by time t is pending (R140). -/
def State.powersUp (s : State) (p t : Nat) : Bool := s.cmds.changes.any (fun c => c.opcode == 0x0210 && u8 c.params 4 == 1 && (u32 c.params 0).testBit p && decide (c.epoch ≤ t))

/-- Whether strobe k at instant T concerns a pan: it is powered, or will be from an epoch on, its divisor divides k, and T has not been sent. -/
def State.strobeDue (s : State) (p k time : Nat) : Bool :=
  let x := s.pan p
  s.strikes && k % 2 ^ s.divisorAt p time == 0 && decide (x.sentTo < time) && !(x.armed ++ x.strobes).any (fun m => m.time == time) && decide (s.front.strikeFrom ≤ time) && !s.queueFull (64 + p) 4 x.strobes.length
    && ((x.power == .on || s.powersUp p time))
    && !s.dieLost (dieOf p) && !(x.calUntil.any (fun u => decide (time < u)))

/-- The GRID island names a strobe to a pan at least one frame period ahead (R16, R146); one that it can no longer name in time is late. -/
def State.sendStrobe (s : State) (p k : Nat) : State :=
  let time := strobeTime s.grid k (max s.now (s.pan p).sentTo) s.gridChanges
  if !s.strobeDue p k time then s
  else
    let m := s.strobeFor k time
    let s := s.setPan p (fun x => { x with sentTo := time })
    if s.time.counter + (s.gridAt time).period * 2 ^ 40 ≤ m.cycle then (s.notePush (64 + p)).setPan p (fun x => { x with strobes := x.strobes ++ [m] })
    else s.strobeLate p k time

/-- The strobe messages that a pan holds, in the order of their instants, with one more. -/
def armStrobe (m : Strobe) : List Strobe → List Strobe
  | [] => [m]
  | a :: r => if m.time < a.time then m :: a :: r else a :: armStrobe m r

/-- A pan takes its next strobe message; one that names a cycle already past strikes nothing (R16). -/
def State.takeStrobe (s : State) (p : Nat) : State :=
  match (s.pan p).strobes with
  | [] => s
  | m :: r =>
    if s.queueEmpty (64 + p) (r.length + 1) then s else
    let s := (s.notePop (64 + p)).setPan p (fun x => { x with strobes := r })
    if m.cycle < s.time.counter then s.strobeLate p m.k m.time else s.setPan p (fun x => { x with armed := armStrobe m x.armed })

/-- The tap of a channel for a residual r (R147). -/
def State.tapFor (s : State) (ch r : Nat) (user : Int) : Nat := ((r : Int) + s.tCal ch + user + 128).toNat

/-- A pan strikes its holds and a pan frame begins (R105, R108, R147); settling changes take effect at this strike (R107). -/
def State.strike (s : State) (p : Nat) (m : Strobe) : State :=
  let x := s.pan p
  let chans := (List.range 8).map (8 * p + ·)
  let s := chans.foldl (fun (s : State) ch => s.setChan ch (fun c => { c with lastTap := s.tapFor ch m.resid c.userDelay, settleTo := if c.settleNext = 0 then c.settleTo else max c.settleTo (m.time + c.settleNext), settleNext := 0 })) s
  let gains := chans.map (fun ch => (s.chan ch).gain) ++ [x.testGain]
  let f : PanFrame := { k := m.k, time := m.time, entry := 0, slot := 0, inserted := 0, gains }
  let s := (s.setPan p (fun x => { x with frame := x.frame.map (fun f => { f with entry := x.seq.length }) })).releaseHoles p
  s.setPan p (fun x => { x with frame := some f, armed := x.armed.drop 1, lastTestTap := s.tapFor (8 * p) m.resid 0, urgent := x.urgent.map (fun u => match u with | .spot a b d => .spot a b (d + (if x.frame.isSome then 1 else 0)) | u => u) })

/-- Whether a strobe instant has been struck or skipped already (R149). -/
def State.passed (s : State) (t : Nat) : Bool := decide (t ≤ s.front.passedTo) || (s.front.struck && decide (t ≤ s.front.lastTime))

/-- The residual that a pan was sent for the strobe at instant t (R146). -/
def State.residAt (s : State) (t : Nat) : Option Nat := s.front.pans.findSome? (fun e => (e.2.armed.find? (fun m => m.time == t)).map (·.resid))

/-- The messages that a pan holds for instants before a strobe's are past. -/
def State.passStrobes (s : State) (p time : Nat) : State :=
  if (s.pan p).armed.any (fun m => decide (m.time < time)) then s.setPan p (fun x => { x with armed := x.armed.filter (fun m => !decide (m.time < time)) }) else s

/-- Grid strobe k arrives: each pan that holds its message strikes; no strobe is struck twice or out of order, and one at a change epoch is struck on the new configuration (R142, R149, R154). -/
def State.gridStrobe (s : State) (k : Nat) : State :=
  let time := s.grid.at k
  if !s.strikes ∨ time ≠ s.now ∨ time < s.front.strikeFrom ∨ s.passed time ∨ s.cmds.changes.any (fun c => c.epoch == time) then s
  else
    let s := { s with front := { s.front with lastK := k, lastTime := time, struck := true, lastResid := (s.residAt time).getD s.front.lastResid } }
    (List.range 32).foldl (fun (s : State) p =>
      let s := s.passStrobes p time
      match (s.pan p).armed with
      | m :: _ => if m.time = time then (if s.interrupted p then s.setPan p (fun x => { x with armed := x.armed.drop 1 }) else s.strike p m) else s
      | [] => s) s

/-- While the hub strikes no strobe, no strobe message stands: sampling that resumes is sent its strobes anew (R71, R150). -/
def State.dropStrobes (s : State) : State :=
  if s.strikes ∨ s.front.pans.all (fun e => e.2.armed.isEmpty && e.2.strobes.isEmpty && e.2.sentTo == 0) then s
  else { s with front := { s.front with pans := s.front.pans.map (fun (e : Nat × Pan) => (e.1, { e.2 with armed := [], strobes := [], sentTo := 0 })) } }

/-! ## The roving converter (R131 to R136) -/

/-- Closes the open records of a pan's channels, so that none mixes two converters (R134). -/
def State.closePan (s : State) (p : Nat) : State := s.closeRecords (fun key => (List.range 8).any (fun c => ofChannel (8 * p + c) key))

/-- A request that connects the roving converter for a loan. -/
def Urgent.isLoan : Urgent → Bool
  | .connect true _ => true
  | _ => false

/-- The roving converter takes over a pan for good; the background calibration of every pan is suspended, and a loan that waits is asked for again once it goes on (R135). -/
def State.substitute (s : State) (p : Nat) : State :=
  let s : State := { s with
    front := { s.front with roving := .substituting p, pans := s.front.pans.map (fun (e : Nat × Pan) => (e.1, { e.2 with urgent := e.2.urgent.filter (fun u => !u.isLoan) })) }
    cal := { s.cal with rotation := s.cal.rotation.map (fun r => { r with asked := none }) } }
  (s.closePan p).setPan p (fun x => { x with checkFails := 0, testMisses := 0, urgent := x.urgent.filter (· != .release) })

/-- The waiting requests that a pan holds: four at most (R116). A handover that found no place is the hub's until one is free. -/
def Pan.waiting (x : Pan) : List Urgent := x.urgent.take 4

/-- A handover is asked of a pan: the oldest four requests have a place there (R116). (log 45: DEDUCED) -/
def State.handover (s : State) (p : Nat) (u : Urgent) : State := s.setPan p (fun x => { x with urgent := x.urgent ++ [u] })

/-- The roving converter comes free, and the substitution that waited for it is asked for (R132). -/
def State.freeRoving (s : State) : State :=
  let s : State := { s with front := { s.front with roving := if s.front.rovingFailed then .unavailable else .idle } }
  match s.front.nextSub with
  | some (q, ref) => ({ s with front := { s.front with nextSub := none } }).handover q (.connect false ref)
  | none => s

/-- A pan is asked to give its loan of the roving converter back. -/
def State.askRelease (s : State) (p : Nat) : State := if (s.pan p).urgent.contains .release then s else s.handover p .release

/-- The roving converter is to stand in for a pan, for a command where one asked: it is first handed back where a loan holds it elsewhere (R132). -/
def State.askSubstitute (s : State) (p : Nat) (ref : Option Nat) : State :=
  match s.loanPan with
  | some q =>
    if q = p then s.handover p (.connect false ref)
    else ({ s with front := { s.front with nextSub := some (p, ref) } } : State).askRelease q
  | none => s.handover p (.connect false ref)

/-- Whether a handover that substitutes the roving converter waits at a pan. -/
def Pan.awaitsRoving (x : Pan) : Bool := x.urgent.any (fun u => match u with | .connect false _ => true | _ => false)

/-- Whether the roving converter is already asked for to stand in for a pan whose converter has failed. -/
def State.awaitsRoving (s : State) (p : Nat) : Bool :=
  (s.pan p).failed && ((s.pan p).awaitsRoving || s.front.nextSub.any (fun e => e.1 == p))

/-- A pan's converter has failed (R132); a pan that already waits for the roving converter has been marked. The roving converter is substituted where it is available, first handed back where a loan holds it; otherwise the pan goes unsampled (R135). -/
def State.converterFailed (s : State) (p cause : Nat) : State :=
  if s.awaitsRoving p then s else
  let s := s.logFault 0x0012 p cause 0
  if s.substituted = some p then
    ({ s with front := { s.front with rovingFailed := true } }).setPan p (fun x => { x with unsampled := true, failed := true })
  else
    let s := s.setPan p (fun x => { x with failed := true, checkFails := 0, testMisses := 0 })
    if !s.rovingFree ∨ s.front.nextSub.isSome then s.setPan p (fun x => { x with unsampled := true })
    else if s.loanPan = some p then s.substitute p
    else s.askSubstitute p none

/-- A conversion fails its check (R131, R132): three in a row fail the converter. (log 119: DESIGN CHOICE) -/
def State.checkFailed (s : State) (p : Nat) : State :=
  if s.rovingServes p then
    let n := s.front.rovingFails + 1
    let s := { s with front := { s.front with rovingFails := n } }
    if n = 3 then (if s.substituted = some p then s.converterFailed p 1 else { s with front := { s.front with rovingFailed := true } }) else s
  else
    let s := s.setPan p (fun x => { x with checkFails := x.checkFails + 1 })
    if (s.pan p).checkFails = 3 then s.converterFailed p 1 else s

/-- A conversion passes its check. -/
def State.checkPassed (s : State) (p : Nat) : State :=
  if s.rovingServes p then { s with front := { s.front with rovingFails := 0 } } else s.setPan p (fun x => { x with checkFails := 0 })

/-- Whether the overload detector fired ahead of a conversion's strike (R106): an input left the common-mode range, or the PGA output 102 % of full scale. -/
def detectorFired (c : Conversion) : Bool := c.overload || c.commonMode

/-- Whether a conversion fails its check (R131). -/
def conversionFails (c : Conversion) : Bool := decide (4 < c.disagree) || c.overran

/-! ## Conversions (R105 to R112, R123, R131) -/

/-- The word of `SEQ_RESULT` of a pan and entry (R112). (log 41: DEDUCED) -/
def State.seqResult (s : State) (p e : Nat) : BitVec 32 := Tbl.get 0x00300000 s.front.results (16 * p + e)

/-- Writes `SEQ_RESULT` (R112): a failed conversion leaves the code as it was. (log 41: DEDUCED) -/
def State.writeResult (s : State) (p k e kind : Nat) (code : Int) (clip fails : Bool) : State :=
  match s.sys.hub with
  | .ready | .run | .reconfigure | .holdover =>
    let old := (s.seqResult p e).toNat
    let w := (if fails then old % 262144 else (code % 262144).toNat) + 2 ^ 18 * (if clip then 1 else 0) + 2 ^ 19 + 2 ^ 20 * kind
      + 2 ^ 22 * (if s.rovingServes p then 1 else 0) + 2 ^ 23 * (if fails then 1 else 0) + 2 ^ 24 * (s.panIndex p k % 256)
    { s with front := { s.front with results := Tbl.set s.front.results (16 * p + e) (BitVec.ofNat 32 w) } }
  | _ => s

/-- The interval of R106 that holds a time in 2^−16 ns: its number in whole seconds. -/
def overloadSecond (t16 : Nat) : Nat := t16 / 65536 / 1000000000

/-- CM_OVERLOAD entries of the intervals before a second (R106), in the order of the channels' first overloads. -/
def State.reportOverloads (s : State) (second : Nat) : State :=
  let due := fun ch => decide (overloadSecond (s.chan ch).cmFirst < second)
  let l := s.front.cmOrder.filter due
  let s := l.foldl (fun (s : State) ch => (s.arise 4 1 ch (s.chan ch).cmCount 0 (s.chan ch).cmFirst).setChan ch (fun c => { c with cmCount := 0, cmFirst := 0 })) s
  { s with front := { s.front with cmOrder := s.front.cmOrder.filter (fun ch => !l.contains ch) } }

/-- Puts a channel among those that overloaded, in the order of the first overloads. -/
def State.orderOverload (s : State) (ch t16 : Nat) : List Nat → List Nat
  | [] => [ch]
  | c :: r => if t16 < (s.chan c).cmFirst then ch :: c :: r else c :: s.orderOverload ch t16 r

/-- A common-mode overload of a channel, as its detector shows it for the strike at a time in 2^−16 ns: it fired before the strike (R106). (log 41: DEDUCED) -/
def State.cmOverload (s : State) (ch strike16 : Nat) : State :=
  let t16 := strike16 - 1
  let s := s.reportOverloads (overloadSecond t16)
  let s := { s with front := { s.front with cmTotal := sat 32 (s.front.cmTotal + 1), cmOrder := if s.front.cmOrder.contains ch then s.front.cmOrder else s.orderOverload ch t16 s.front.cmOrder } }
  s.setChan ch (fun c => { c with cmCount := c.cmCount + 1, cmFirst := if c.cmCount = 0 then t16 else c.cmFirst })

/-- The record flags of a channel's sample (R307): CLIP, SETTLING, SUBSTITUTED, CAL_LOAN. -/
def State.sampleFlags (s : State) (p ch time : Nat) (clip : Bool) : BitVec 16 :=
  (if clip then 1 else 0) ||| (if decide (time < (s.chan ch).settleTo) || decide (time < (s.pan p).settleTo) then 2 else 0)
    ||| (if s.substituted = some p then 16 else 0) ||| (if s.loanPan = some p then 32 else 0)

/-- A TEST result of a pan frame against the expected code (R123): three misses in consecutive pan frames fail the converter. -/
def State.testResult (s : State) (p frame : Nat) (code : Int) : State :=
  let x := s.pan p
  let e := expectedTest x.testDac x.testGain
  if !x.testCheck then s
  else if (x.testTol : Int) < (code - e).natAbs then
    let s := s.logFault 0x0013 p (code % 4294967296).toNat (e % 4294967296).toNat
    let s := s.setPan p (fun x => { x with testMisses := if x.missAt + 1 = frame then x.testMisses + 1 else 1, missAt := frame })
    if (s.pan p).testMisses = 3 then s.converterFailed p 2 else s
  else s.setPan p (fun x => { x with testMisses := 0 })

/-- Returns a pan to its own converter (R133, R136); one that is unsampled stays so until its power-down (R135). -/
def State.returnPan (s : State) (p : Nat) : State :=
  (s.freeRoving.closePan p).setPan p (fun x => { x with failed := false, checkFails := 0, testMisses := 0 })

/-- One of the six check conversions of a release, made on the pan's own converter in a spare slot: three ZERO, then three TEST (R136). Once they pass, the pan is handed back in a slot before entry 0 (R133). (log 40: DEDUCED) -/
def State.releaseCheck (s : State) (p : Nat) (c : Conversion) (ref z t : Nat) : State :=
  let x := s.pan p
  let code := (s.sampleCode (testRec p) x.testGain c.code).1
  let miss := z = 3 ∧ (x.testTol : Int) < (code - expectedTest x.testDac x.testGain).natAbs
  if conversionFails c ∨ miss then
    let cause := if conversionFails c then 1 else 2
    let slot := freeSlot s.faults.log s.faults.nextSerial 256
    ((s.logFault 0x0012 p cause 0).setPan p (fun x => { x with release := none })).finish ref stInternal slot []
  else if z < 3 then s.setPan p (fun x => { x with release := some (ref, z + 1, t) })
  else if t < 2 then s.setPan p (fun x => { x with release := some (ref, z, t + 1) })
  else ((s.setPan p (fun x => { x with release := none })).handover p .restore).finish ref stOk 0 []

/-- The conversion of the next sequence entry ends (R108). -/
def State.convertEntry (s : State) (p : Nat) (f : PanFrame) (c : Conversion) : State :=
  let x := s.pan p
  let b := x.seq.getD f.entry 0
  let kind := entryKind b
  let fails := conversionFails c
  let s := s.setPan p (fun x => { x with frame := some { f with entry := f.entry + 1, slot := f.slot + 1 } })
  let idx := s.panIndex p f.k
  match kind with
  | 0 =>
    let ch := 8 * p + b.toNat % 8
    let (code, sat) := s.sampleCode (chanRec ch) (f.gains.getD (b.toNat % 8) 0) c.code
    let clip := sat || detectorFired c
    let s := if c.commonMode then s.cmOverload ch (65536 * f.time) else s
    let s := s.writeResult p f.k f.entry 0 code clip fails
    if fails ∨ x.unsampled then
      let s := s.pushSample p { ch, index := idx, time := f.time, code := 0, gap := 2, count := 1, flags := 0 }
      if fails then s.checkFailed p else s
    else (s.pushSample p { ch, index := idx, time := f.time, code, gap := 0, count := 1, flags := s.sampleFlags p ch f.time clip }).checkPassed p
  | 1 =>
    let (code, clip) := s.sampleCode (testRec p) (f.gains.getD 8 0) c.code
    let s := s.writeResult p f.k f.entry 1 code clip fails
    if fails then s.checkFailed p else (s.checkPassed p).testResult p idx code
  | _ =>
    let code := clampInt (-131072) 131071 c.code
    let s := s.writeResult p f.k f.entry 2 code (code == 131071 || code == -131072) fails
    if fails then s.checkFailed p else s.checkPassed p

/-- A conversion ends on a pan: the next entry of its frame, or in a spare slot a check of a pending release (R136). -/
def State.conversionEnd (s : State) (p : Nat) (c : Conversion) : State :=
  let x := s.pan p
  match x.frame with
  | none => s
  | some f =>
    if x.power ≠ .on ∨ s.dieLost (dieOf p) then s
    else if !f.over x then (s.convertEntry p f c).releaseHoles p
    else match x.release with
      | some (ref, z, t) => if s.substituted = some p then s.releaseCheck p c ref z t else s
      | none => s

/-! ## Urgent requests (R113 to R121) -/

/-- Whether a slot of the frame is eligible for a handover (R114 items 2 and 4), or for a spot of a path (all four items). -/
def slotEligible (x : Pan) (f : PanFrame) (slots : Nat) (path : Option Nat) : Bool :=
  let left := (x.seq.drop f.entry)
  let fits := decide (f.slot + 1 + left.length ≤ slots) && decide (f.inserted < 4)
  match path with
  | none => fits
  | some q =>
    fits && !(left.any (fun b => entryPath b == some q)) && decide (f.slot + 2 ≤ slots)
      && (List.range left.length).all (fun j => (entryPath (left.getD j 0)).isNone || decide (f.slot + 1 + j + 1 + 1 ≤ slots))

/-- The result of a spot conversion (table "PAN_SPOT result parameters"). (log 42: DEDUCED) -/
def spotResult (code : Int) (clip sub fails : Bool) (deferred strike16 : Nat) : Bytes :=
  leInt 4 (if fails then 0 else code) ++ le 1 ((if clip && !fails then 1 else 0) + (if sub then 2 else 0) + (if fails then 4 else 0)) ++ le 1 (min 255 deferred) ++ zeros 2 ++ stampBytes strike16 ++ zeros 2

/-- Whether an urgent request can be served in the present slot. A commanded substitution and the return from one take the slot before entry 0 (R133). -/
def urgentServable (x : Pan) (f : PanFrame) (slots : Nat) (u : Urgent) : Bool :=
  match u with
  | .spot path _ _ => slotEligible x f slots (some path)
  | .connect false (some _) | .restore => slotEligible x f slots none && f.entry == 0
  | _ => slotEligible x f slots none

/-- A request that is a handover. -/
def Urgent.isHandover : Urgent → Bool
  | .spot _ _ _ => false
  | _ => true

/-- The request served at a slot boundary, of the four that have a place (R116): handovers first, then spots in order of arrival (R117). (log 45: DEDUCED) -/
def nextUrgent (x : Pan) (f : PanFrame) (slots : Nat) : Option Urgent :=
  let l := x.waiting
  match l.find? (fun u => u.isHandover && urgentServable x f slots u) with
  | some u => some u
  | none => l.find? (fun u => !u.isHandover && urgentServable x f slots u)

/-- Serves an urgent request in the slot that begins (R113, R115): the spot is struck and its conversion begins, or the roving converter is connected, where it is still available, or given back. (log 40: DEDUCED; 42: DEDUCED) -/
def State.serveUrgent (s : State) (p : Nat) (f : PanFrame) (u : Urgent) (c : Conversion) : State :=
  let strikeAt := (f.time + 40 * f.slot) * 65536
  let s := s.setPan p (fun x => { x with urgent := x.urgent.erase u, frame := some { f with slot := f.slot + 1, inserted := f.inserted + 1 } })
  match u with
  | .spot path ref d =>
    let g := if path = 8 then (s.pan p).testGain else (s.chan (8 * p + path)).gain
    let user := if path = 8 then 0 else (s.chan (8 * p + path)).userDelay
    let (code, sat) := s.sampleCode (pathRec p path) g c.code
    s.setPan p (fun x => { x with spot := some { path, ref, deferred := d, strike16 := ((strikeAt : Int) + 512 * user).toNat, ends := f.time + 40 * (f.slot + 1), code, clip := sat || detectorFired c, fails := conversionFails c, common := c.commonMode && path != 8 } })
  | .connect true _ => if s.front.roving = .idle then ({ s with front := { s.front with roving := .loan p } }).closePan p else s
  | .connect false ref =>
    if s.rovingFree ∧ s.loanPan.any (· ≠ p) ∧ s.front.nextSub.isNone then s.askSubstitute p ref
    else
      match s.rovingFree && (s.loanPan.isNone || s.loanPan == some p), ref with
      | true, some r => (s.substitute p).finish r stOk 0 []
      | true, none => s.substitute p
      | false, some r => s.finish r stNoResource 1 []
      | false, none => if s.substituted = some p then s else s.setPan p (fun x => { x with unsampled := true })
  | .release => if s.loanPan = some p then s.freeRoving.closePan p else s
  | .restore => if s.substituted = some p then s.returnPan p else s

/-- A slot boundary of a pan (R113, R116): the slot that begins follows the conversions made, or is the later one that the time names once the entries are over. A slot that is yet to come is not due. -/
def State.urgentSlot (s : State) (p : Nat) (c : Conversion) : State :=
  let x := s.pan p
  match x.frame with
  | none => s
  | some f =>
    if x.power ≠ .on ∨ s.interrupted p then s
    else
      let slot := if f.over x then max f.slot ((s.now - f.time + 39) / 40) else f.slot
      let f := { f with slot }
      if s.now < f.time + 40 * slot then s else
      match nextUrgent x f (s.slots p) with
      | some u => s.serveUrgent p f u c
      | none => s

/-- Whether a pan can no longer serve its waiting requests (R121). -/
def State.cannotServe (s : State) (p : Nat) : Bool :=
  let x := s.pan p
  x.power == .off || s.dieLost (dieOf p) || x.unsampled || !spotPossible x.seq (s.slots p) || s.sys.hub == .timelock || s.sys.hub == .dormant || s.sys.hub == .faultHold

/-- Ends requests of a pan unserved (R121): spots with ABORTED; a handover is dropped, and a command that waits for it ends so too. (log 45: DEDUCED) -/
def State.dropUrgent (s : State) (p detail : Nat) (which : Urgent → Bool) : State :=
  let l := (s.pan p).urgent.filter which
  let s := if l.isEmpty then s else s.setPan p (fun x => { x with urgent := x.urgent.filter (fun u => !which u) })
  l.foldl (fun (s : State) u => match u with | .spot _ ref _ | .connect _ (some ref) => s.finish ref stAborted detail [] | _ => s) s

/-- Whether a pan still takes handovers though it can serve no spot (R116, R121): only its table leaves no slot for one. -/
def State.takesHandovers (s : State) (p : Nat) : Bool :=
  !spotPossible (s.pan p).seq (s.slots p) && (s.pan p).power == .on && !s.dieLost (dieOf p) && !(s.pan p).unsampled && s.strikes

/-- Ends the waiting requests of a pan that can serve them no longer (R121), with ABORTED, detail 7. (log 45: DEDUCED) -/
def State.endUrgent (s : State) (p : Nat) : State :=
  if !s.cannotServe p then s else s.dropUrgent p 7 (fun u => !(s.takesHandovers p && u.isHandover))

/-- The reason byte of a PAN_SPOT answered ACCEPTED (R141). -/
def State.spotReason (s : State) (p : Nat) : Nat := if 20000 < s.grid.period * 2 ^ (s.pan p).log2D then 2 else 1

/-- The spot conversion of a pan has ended with its slot (R141): `OK` with the result within 20 µs of the command's start, and after that in the completion notice. (log 42: DEDUCED) -/
def State.endSpot (s : State) (p : Nat) (r : SpotRun) : State :=
  let s := s.setPan p (fun x => { x with spot := none })
  let late := (s.heldOf r.ref).any (fun h => decide (h.phase = .executing) && decide (h.started + 20000 < r.ends))
  let s := if late then s.accept r.ref [BitVec.ofNat 8 (s.spotReason p), 0, 0, 0] else s
  let s := s.finish r.ref stOk 0 (spotResult r.code r.clip (s.substituted == some p) r.fails r.deferred r.strike16)
  let s := if r.common then s.cmOverload (8 * p + r.path) r.strike16 else s
  if r.fails then s.checkFailed p else s.checkPassed p

/-- The spot conversions whose slots are over, with their pans. (log 1: DESIGN CHOICE) -/
def State.spotsOver (s : State) : List (Nat × SpotRun) := s.front.pans.filterMap (fun e => e.2.spot.bind (fun r => if r.ends ≤ s.now then some (e.1, r) else none))

/-- The spot conversions whose slots are over end. -/
def State.endSpots (s : State) : State := s.spotsOver.foldl (fun (s : State) e => s.endSpot e.1 e.2) s

/-- OVERLOAD_INTERVAL_END (R106): what overloaded before the present whole second is reported. -/
def State.overloadInterval (s : State) : State := s.reportOverloads (s.now / 1000000000)

/-! ## Meanings of group 0x02 -/

/-- The first pan, in ascending order, that is lost (detail 5) or powered off (detail 1) (R139). (log 117: DEDUCED) -/
def State.panDown (s : State) (pans : List Nat) (offOk : Bool) : Option (Nat × Nat) :=
  match pans.find? (fun p => s.dieLost (dieOf p) || (!offOk && (s.pan p).power != .on)) with
  | some p => some (stNoResource, if s.dieLost (dieOf p) then 5 else 1)
  | none => none

/-- The pans of a range of channels. -/
def pansOf (first count : Nat) : List Nat := (List.range 32).filter (fun p => decide (first < 8 * p + 8) && decide (8 * p < first + count))

/-- The states of the setting commands of group 0x02 (table "Group 0x02 commands"). -/
def panStates : List HubState := [.timelock, .ready, .run, .reconfigure, .holdover]

/-- `PAN_GET_CONFIG` (0x0201). -/
def opPanGetConfig : Op :=
  { need := fun _ => 4, states := allStates
    params := fun h _ => [(0, u8 h.cmd.params 0 < 32), (1, zeroAt h.cmd.params 1 3)]
    budget := fun h s => s.panDown [u8 h.cmd.params 0] true
    run := fun h s =>
      let p := u8 h.cmd.params 0
      let x := s.pan p
      let cs := (List.range 8).map (fun c => s.chan (8 * p + c))
      let pw := match x.power with | .off => 0 | .on => 1 | .poweringUp => 2
      .done 0 (le 1 p ++ le 1 (if s.rovingServes p then 32 else p) ++ le 1 pw ++ le 1 x.seq.length ++ cs.flatMap (fun c => le 1 c.gain) ++ le 1 (maskOf ((List.range 8).filter (fun c => (s.chan (8 * p + c)).filter))) ++ le 1 x.testGain ++ leInt 2 x.testDac ++ (x.seq ++ zeros 16).take 16) s }

/-- `PAN_READ_RESULTS` (0x0202). -/
def opPanReadResults : Op :=
  { need := fun _ => 4, states := allStates
    params := fun h _ => let p := h.cmd.params; [(0, u8 p 0 < 32), (1, u8 p 1 < 16), (2, 1 ≤ u8 p 2 && u8 p 1 + u8 p 2 ≤ 16), (3, zeroAt p 3 1)]
    budget := fun h s => s.panDown [u8 h.cmd.params 0] true
    run := fun h s => let p := h.cmd.params; .done 0 ((List.range (u8 p 2)).flatMap (fun i => le 4 (s.seqResult (u8 p 0) (u8 p 1 + i)).toNat)) s }

/-- `PAN_GET_STATUS` (0x0204). -/
def opPanGetStatus : Op :=
  { need := fun _ => 0, states := allStates
    run := fun _ s =>
      let on := maskOf ((List.range 32).filter (fun p => (s.pan p).power == .on))
      let bad := maskOf ((List.range 32).filter (fun p => (s.pan p).failed))
      let rv := match s.front.roving with | .idle => 0 | .loan _ => 1 | .substituting _ => 2 | .unavailable => 3
      .done 0 (le 4 on ++ le 4 bad ++ le 1 (s.substituted.getD 255) ++ le 1 rv ++ le 1 (((List.range 32).map (fun p => (s.pan p).waiting.length)).sum) ++ [0] ++ le 4 s.front.cmTotal) s }

/-- The pans of a pan_mask. -/
def maskPans (mask : Nat) : List Nat := bitsOf 32 mask

/-- A pan is in service: it samples from the present epoch on, and the streams of its channels open (R140, R310). -/
def State.panOn (s : State) (p : Nat) : State :=
  let s := (s.dropUrgent p 7 (fun _ => true)).setPan p (fun x => { x with power := .on, wasOn := true, powerRef := none, frame := none, unsampled := false })
  ((seqChannels (s.pan p).seq).map (8 * p + ·)).foldl (fun (s : State) ch => s.beginChannel ch 3) s

/-- A pan is powered down: its streams end, and a substitution for it ends with it (R135, R140). (log 120: DESIGN CHOICE) -/
def State.panOff (s : State) (p : Nat) : State :=
  let s := (List.range 8).foldl (fun (s : State) c => s.endPowered (8 * p + c)) s
  let s := if s.rovingServes p then s.freeRoving else s
  s.setPan p (fun x => { x with power := .off, powerRef := none, frame := none, strobes := [], armed := [], holes := [], unsampled := false, failed := x.failed && !x.unsampled, checkFails := 0, testMisses := 0, release := none })

/-- A command completes once the END records of the streams listed have left; none: at once (R96, R140, R217). -/
def State.awaitEnds (s : State) (ref : Nat) (keys : List Nat) : State × Option (Nat × Nat × Bytes) :=
  let keys := keys.filter s.endPending
  if keys.isEmpty ∧ !s.standsBehind ref then (s, some (0, 0, []))
  else ({ s with streams := { s.streams with awaited := s.streams.awaited ++ [(ref, keys)] } }, none)

/-- The pans of a mask that are not in service, and could be. (log 28: DEDUCED) -/
def State.pansOff (s : State) (mask : Nat) : List Nat := (maskPans mask).filter (fun q => (s.pan q).power != .on && !s.dieLost (dieOf q))

/-- The effect of a power-up: the pans that are not in service enter it. That of a power-down: it completes after the END records of the pans' streams (R140). (log 28: DEDUCED) -/
def effPanPower (ref : Nat) (p : Bytes) (s : State) : State × Option (Nat × Nat × Bytes) :=
  if u8 p 4 = 1 then ((s.pansOff (u32 p 0)).foldl (fun (s : State) q => s.panOn q) s, some (0, 0, []))
  else
  let pans := maskPans (u32 p 0)
  let keys := (s.streams.table.filter (fun e => e.2.isOpen && pans.any (fun q => (List.range 8).any (fun c => ofChannel (8 * q + c) e.1)))).map (·.1)
  (pans.foldl (fun (s : State) q => s.panOff q) s).awaitEnds ref keys

/-- A time no clock reaches. -/
def never : Nat := 2 ^ 64

/-- When the pans of a power-up enter service (R140): 2 ms after the last grant, and while the hub samples at the first grid epoch at or after that and at or after time_ns. (log 39: DEDUCED) -/
def State.serviceTime (s : State) (t : Nat) : Nat :=
  if s.live then (s.gridAt (max t (s.now + 2000000))).nextFrom (max t (s.now + 2000000)) else s.now + 2000000

/-- Once no unit of a power-up waits for a grant (R494), its change is pending for its epoch (R140), and leave to open its streams is held until 1 ms after that. (log 39: DEDUCED) -/
def State.powerReady (s : State) (ref : Nat) : State :=
  if s.asks ref then s
  else match s.heldOf ref with
    | none => s
    | some h =>
      let e := s.serviceTime (u64 h.cmd.params 8)
      let s := s.addChange h e
      { s with sluice := { s.sluice with granted := s.sluice.granted.map (fun (x : Request) => if x.op = 7 ∧ x.ref = some ref then { x with deadline := e + 1000000 } else x) } }

/-- Undoes a power-up: its requests are withdrawn, pans that it has begun to power go back to P4, and its tokens return (R140, R494). -/
def State.panUndo (s : State) (ref : Nat) : State :=
  let s := (List.range 32).foldl (fun (s : State) p =>
    if (s.pan p).powerRef = some ref then s.setPan p (fun x => { x with power := if x.power = .poweringUp then .off else x.power, powerRef := none, strobes := [], armed := [] }) else s) s
  (s.withdraw ref).returnTokens (fun r => r.ref == some ref)

/-- The requests of a power-up (R494, R496): leave to open its streams, where the hub samples and they are 256 or more, and one request for each pan that is not in service. (log 19: DEDUCED; 28: DEDUCED) -/
def State.askPower (s : State) (ref mask t : Nat) : State :=
  let pans := s.pansOff mask
  let n := if s.live then ((pans.foldl (fun (s : State) q => s.panOn q) s).streams.table.filter (fun x => x.2.isOpen && !(s.stream x.1).isOpen)).length else 0
  let s := if n < 256 then s else s.ask 7 t { vdd := (n + 255) / 256 } false (some ref) (if t = 0 then none else some (t - 1000000))
  pans.foldl (fun (s : State) q => s.ask 1 q { vdd := 1, av := 4 } false (some ref) none) s

/-- The meaning of `PAN_POWER` (R140): a power-up enters its requests and is accepted; a power-down takes effect at its epoch. -/
def runPanPower (h : Held) (s : State) : Answer :=
  let p := h.cmd.params
  let t := u64 p 8
  if u8 p 4 = 0 then configRun effPanPower (s.changeEpoch t) h s
  else .accepted [] ((s.askPower h.serial (u32 p 0) t).powerReady h.serial)

/-- `CMD_ABORT` of `PAN_POWER`: a power-up until the sluice grants, a power-down until its epoch. -/
def abortPanPower (h : Held) (s : State) : Option State :=
  if u8 h.cmd.params 4 = 0 then abortChange h s
  else if s.asks h.serial then some (s.panUndo h.serial)
  else none

/-- `PAN_POWER` (0x0210). -/
def opPanPower : Op :=
  { need := fun _ => 16, states := panStates
    params := fun h s => let p := h.cmd.params; [(0, u32 p 0 != 0), (1, u8 p 4 < 2), (2, zeroAt p 5 3), (3, timeRule h s (u64 p 8))]
    budget := fun h s =>
      let p := h.cmd.params
      match s.panDown (maskPans (u32 p 0)) true with
      | some e => some e
      | none =>
        let t := s.serviceTime (u64 p 8)
        if u8 p 4 = 1 ∧ (maskPans (u32 p 0)).any (fun q => !seqFits (s.pan q).seq ((s.gridAt t).1 * 2 ^ s.divisorAt q t)) then some (stNoResource, 1) else none
    abort := abortPanPower
    epoch := fun h s => some (if u8 h.cmd.params 4 = 0 then s.effectTime (u64 h.cmd.params 8) else s.serviceTime (u64 h.cmd.params 8))
    effect := effPanPower
    run := runPanPower }

/-- The settling time after a gain or filter change, in ns (table "Front-end characteristics"). -/
def settleTime (filter : Bool) : Nat := if filter then 2000 else 500

/-- A channel's settling interval starts at the first strike at or after now (R107). -/
def Chan.unsettle (c : Chan) (ns : Nat) : Chan := { c with settleNext := max c.settleNext ns }

/-- The effect of `PAN_SET_GAIN`. -/
def effPanSetGain (_ : Nat) (p : Bytes) (s : State) : State × Option (Nat × Nat × Bytes) :=
  ((List.range (u16 p 2)).foldl (fun (s : State) i => s.setChan (u16 p 0 + i) (fun c => if c.gain = u8 p (12 + i) then c else ({ c with gain := u8 p (12 + i) }).unsettle (settleTime c.filter))) s, some (0, 0, []))

/-- The effect of `PAN_SET_FILTER`. -/
def effPanSetFilter (_ : Nat) (p : Bytes) (s : State) : State × Option (Nat × Nat × Bytes) :=
  ((List.range (u16 p 2)).foldl (fun (s : State) i => s.setChan (u16 p 0 + i) (fun c => if c.filter = (u8 p (12 + i) == 1) then c else ({ c with filter := u8 p (12 + i) == 1 }).unsettle (settleTime (u8 p (12 + i) == 1)))) s, some (0, 0, []))

/-- The checks that `PAN_SET_GAIN` and `PAN_SET_FILTER` share; `lim` bounds the value bytes. -/
def rangeParams (lim : Nat) (h : Held) (s : State) : List (Nat × Bool) :=
  let p := h.cmd.params
  [(0, u16 p 0 < 256), (1, 1 ≤ u16 p 2 && u16 p 0 + u16 p 2 ≤ 256), (2, timeRule h s (u64 p 4)), (3, (p.drop 12).all (fun v => decide (v.toNat < lim)))]

/-- `PAN_SET_GAIN` (0x0211). -/
def opPanSetGain : Op :=
  { need := fun p => 12 + u16 p 2, states := panStates, params := rangeParams 8
    budget := fun h s => s.panDown (pansOf (u16 h.cmd.params 0) (u16 h.cmd.params 2)) false
    abort := abortChange, epoch := fun h s => some (s.effectTime (u64 h.cmd.params 4)), effect := effPanSetGain
    run := fun h s => configRun effPanSetGain (s.changeEpoch (u64 h.cmd.params 4)) h s }

/-- `PAN_SET_FILTER` (0x0212). -/
def opPanSetFilter : Op :=
  { need := fun p => 12 + u16 p 2, states := panStates, params := rangeParams 2
    budget := fun h s => s.panDown (pansOf (u16 h.cmd.params 0) (u16 h.cmd.params 2)) false
    abort := abortChange, epoch := fun h s => some (s.effectTime (u64 h.cmd.params 4)), effect := effPanSetFilter
    run := fun h s => configRun effPanSetFilter (s.changeEpoch (u64 h.cmd.params 4)) h s }

/-- The sequence entries of `PAN_SET_SEQUENCE`. -/
def seqOf (p : Bytes) : List Byte := (p.drop 12).take (u8 p 1)

/-- The rules of R109 and R110 on entries that are answered BAD_PARAM: encodings, no channel twice, TEST and ZERO at most once, the unused bytes 0. -/
def seqWellFormed (p : Bytes) : Bool :=
  let q := seqOf p
  q.all (fun b => decide (b.toNat / 64 < 3) && b.toNat / 8 % 8 == 0 && (decide (b.toNat < 64) || b.toNat % 8 == 0)) && q.all (fun b => q.count b == 1) && (p.drop (12 + u8 p 1)).all (· == 0)

/-- The effect of `PAN_SET_SEQUENCE`: channels that leave or join the table end or start their streams (R111); results of entries out of the table read kind 0b11 (R112); a table that leaves no slot for a spot ends what waits (R121). -/
def effPanSetSequence (_ : Nat) (p : Bytes) (s : State) : State × Option (Nat × Nat × Bytes) :=
  let pn := u8 p 0
  let old := seqChannels (s.pan pn).seq
  let new := seqChannels (seqOf p)
  let s := (old.filter (fun c => !new.contains c)).foldl (fun (s : State) c => s.endChannel (8 * pn + c) 2) s
  let s := s.setPan pn (fun x => { x with seq := seqOf p })
  let s := { s with front := { s.front with results := (List.range 16).foldl (fun t e => if e < (seqOf p).length then t else Tbl.modify 0x00300000 t (16 * pn + e) (fun w => w ||| 0x00300000)) s.front.results } }
  let s := if spotPossible (seqOf p) (s.slots pn) then s else s.dropUrgent pn 7 (fun _ => true)
  ((new.filter (fun c => !old.contains c)).foldl (fun (s : State) c => s.beginChannel (8 * pn + c) 2) s, some (0, 0, []))

/-- `PAN_SET_SEQUENCE` (0x0213). -/
def opPanSetSequence : Op :=
  { need := fun _ => 28, states := panStates
    params := fun h s => let p := h.cmd.params; [(0, u8 p 0 < 32), (1, 1 ≤ u8 p 1 && u8 p 1 ≤ 16), (2, zeroAt p 2 2), (3, timeRule h s (u64 p 4)), (4, seqWellFormed p)]
    budget := fun h s =>
      let p := h.cmd.params
      match s.panDown [u8 p 0] false with
      | some e => some e
      | none =>
        let t := s.effectTime (u64 p 4)
        if seqFits (seqOf p) ((s.gridAt t).1 * 2 ^ s.divisorAt (u8 p 0) t) then none else some (stNoResource, 1)
    abort := abortChange, epoch := fun h s => some (s.effectTime (u64 h.cmd.params 4)), effect := effPanSetSequence
    run := fun h s => configRun effPanSetSequence (s.changeEpoch (u64 h.cmd.params 4)) h s }

/-- The pan and path that a spot's target names (R115). -/
def spotTarget (t : Nat) : Option (Nat × Nat) :=
  if t < 256 then some (t / 8, t % 8) else if 0x8000 ≤ t ∧ t < 0x8020 then some (t - 0x8000, 8) else none

/-- The meaning of `PAN_SPOT`: the request waits at its pan and the reply is held (R116, R141). -/
def runPanSpot (h : Held) (s : State) : Answer :=
  match spotTarget (u16 h.cmd.params 0) with
  | some (p, path) => .holds (s.setPan p (fun x => { x with urgent := x.urgent ++ [.spot path h.serial 0] }))
  | none => .fail stBadParam 0

/-- `CMD_ABORT` of a spot while it waits (R141). -/
def abortPanSpot (h : Held) (s : State) : Option State :=
  match spotTarget (u16 h.cmd.params 0) with
  | none => none
  | some (p, _) =>
    let isIt := fun u => match u with | Urgent.spot _ ref _ => ref == h.serial | _ => false
    if (s.pan p).urgent.any isIt then some (s.setPan p (fun x => { x with urgent := x.urgent.filter (fun u => !isIt u) })) else none

/-- SPOT_REPLY_TIMEOUT: a `PAN_SPOT` whose conversion has not ended within 20 µs of its start is answered `ACCEPTED` with its reason (R141). (log 26: DESIGN CHOICE) -/
def State.spotTimeout (s : State) : State :=
  let due := s.cmds.held.filter (fun h => h.opcode == 0x0214 && decide (h.phase = .executing) && decide (h.started + 20000 ≤ s.now))
  due.foldl (fun (s : State) h =>
    match spotTarget (u16 h.cmd.params 0) with
    | some (p, _) => s.accept h.serial [BitVec.ofNat 8 (s.spotReason p), 0, 0, 0]
    | none => s) s

/-- `PAN_SPOT` (0x0214). -/
def opPanSpot : Op :=
  { need := fun _ => 4, states := [.ready, .run, .reconfigure, .holdover]
    params := fun h _ => [(0, (spotTarget (u16 h.cmd.params 0)).isSome), (1, zeroAt h.cmd.params 2 2)]
    budget := fun h s =>
      match spotTarget (u16 h.cmd.params 0) with
      | none => none
      | some (p, _) =>
        match s.panDown [p] false with
        | some e => some e
        | none => if 4 ≤ (s.pan p).urgent.length ∨ !spotPossible (s.pan p).seq (s.slots p) then some (stNoResource, 1) else none
    abort := abortPanSpot
    run := runPanSpot }

/-- The pans that `PAN_SET_TEST_DAC` names: one, or every powered pan. -/
def State.testPans (s : State) (v : Nat) : List Nat := if v = 0xFF then (List.range 32).filter (fun p => (s.pan p).power == .on) else [v]

/-- The effect of `PAN_SET_TEST_DAC`. -/
def effPanSetTestDac (_ : Nat) (p : Bytes) (s : State) : State × Option (Nat × Nat × Bytes) :=
  ((s.testPans (u8 p 0)).foldl (fun (s : State) q => s.setPan q (fun x => { x with testGain := u8 p 1, testDac := i16 p 2, testCheck := u8 p 4 == 1, testTol := u16 p 6, testMisses := 0 })) s, some (0, 0, []))

/-- `PAN_SET_TEST_DAC` (0x0215). -/
def opPanSetTestDac : Op :=
  { need := fun _ => 16, states := panStates
    params := fun h s =>
      let p := h.cmd.params
      [(0, u8 p 0 < 32 || u8 p 0 == 0xFF), (1, u8 p 1 < 8), (2, decide (-2048 ≤ i16 p 2) && decide (i16 p 2 ≤ 2047)), (3, u8 p 4 < 2), (4, zeroAt p 5 1), (5, 1 ≤ u16 p 6 && u16 p 6 ≤ 4095), (6, timeRule h s (u64 p 8))]
    budget := fun h s => s.panDown (s.testPans (u8 h.cmd.params 0)) false
    abort := abortChange, epoch := fun h s => some (s.effectTime (u64 h.cmd.params 8)), effect := effPanSetTestDac
    run := fun h s => configRun effPanSetTestDac (s.changeEpoch (u64 h.cmd.params 8)) h s }

/-- A commanded substitution, or its release, reaches its epoch: the handover goes ahead of the frame's entries (R133), or the checks of the release begin (R136). A roving converter that has become unavailable is answered as at the start, and a pan that has been given back meanwhile is released. (log 40: DEDUCED) -/
def effPanSubstitute (ref : Nat) (p : Bytes) (s : State) : State × Option (Nat × Nat × Bytes) :=
  let q := u8 p 0
  if u8 p 2 ≠ 0 then (s, some (0, 0, []))
  else if u8 p 1 = 1 then
    if !s.rovingFree ∨ s.front.nextSub.isSome then (s, some (stNoResource, 1, [])) else (s.askSubstitute q (some ref), none)
  else if s.substituted ≠ some q then (s, some (0, 0, []))
  else (s.setPan q (fun x => { x with release := some (ref, 0, 0) }), none)

/-- `PAN_SUBSTITUTE` (0x0218): always accepted. -/
def opPanSubstitute : Op :=
  { need := fun _ => 12, states := [.ready, .run, .reconfigure, .holdover]
    params := fun h s => let p := h.cmd.params; [(0, u8 p 0 < 32 && (u8 p 1 != 0 || s.substituted == some (u8 p 0))), (1, u8 p 1 < 2), (2, zeroAt p 2 2), (3, timeRule h s (u64 p 4))]
    budget := fun h s =>
      match s.panDown [u8 h.cmd.params 0] false with
      | some e => some e
      | none => if u8 h.cmd.params 1 = 1 ∧ !s.rovingFree then some (stNoResource, 1) else none
    abort := abortChange, epoch := fun h s => some (s.effectTime (u64 h.cmd.params 4)), effect := effPanSubstitute
    run := fun h s => configRun effPanSubstitute (s.changeEpoch (u64 h.cmd.params 4)) h s }

end Sys2Proof.Machine
end

