-- ==== Sys2Proof/Machine/Capture.lean ====
section
/-! DEFINITION. Triggers and segmented capture (chapter 07): groups, the ring, trigger terms and placement, commit and close of a cask, timed and fabric triggers, cask records and measurements, and the meanings of group 0x05. -/
namespace Sys2Proof.Machine

open Sys2Proof

/-! ## Groups and their definition (R200 to R206) -/

/-- A capture group. -/
def State.group (s : State) (g : Nat) : Group := Tbl.get {} s.capture.groups g

/-- Changes a capture group. -/
def State.setGroup (s : State) (g : Nat) (f : Group → Group) : State := { s with capture := { s.capture with groups := Tbl.modify {} s.capture.groups g f } }

/-- Changes the waiting triggers. -/
def State.setTimed (s : State) (f : List TimedTrigger → List TimedTrigger) : State := { s with capture := { s.capture with timed := f s.capture.timed } }

/-- Whether the group takes filtered words (R200). -/
def Group.isFiltered (x : Group) : Bool := u8 x.define 1 == 1
/-- REQUIRE_FULL_PRE (R211). -/
def Group.fullPre (x : Group) : Bool := (u8 x.define 2).testBit 0
/-- STREAM_TAIL (R212). -/
def Group.tails (x : Group) : Bool := (u8 x.define 2).testBit 1
/-- HOLD (R213). -/
def Group.holds (x : Group) : Bool := (u8 x.define 2).testBit 2
/-- EMIT_FABRIC (R224). -/
def Group.emits (x : Group) : Bool := (u8 x.define 2).testBit 3
/-- K. -/
def Group.casksMax (x : Group) : Nat := u32 x.define 4
/-- P_pre. -/
def Group.pre (x : Group) : Nat := u32 x.define 8
/-- P_post. -/
def Group.post (x : Group) : Nat := u32 x.define 12
/-- S. -/
def Group.store (x : Group) : Nat := u32 x.define 16

/-- Whether a group is defined. -/
def Group.isDefined (x : Group) : Bool := x.state != .undefined

/-- Whether a group is enabled and not stopped. -/
def Group.active (x : Group) : Bool := match x.state with | .armed | .post | .tail | .starved => true | _ => false

/-- The words of a definition (R203). -/
def defineWords (d : Bytes) : Nat := u32 d 4 * (maskChannels d).length * ((u32 d 16 + (if u8 d 1 = 0 then 7 else 5) - 1) / (if u8 d 1 = 0 then 7 else 5))

/-- Samples that one word of cask memory holds (R202). -/
def spw (filtered : Bool) : Nat := if filtered then 5 else 7

/-- A word of cask memory with samples (R202): 18-bit brine or 24-bit filtered ones from bit 0 up, and the tag in bits [127:126]. -/
def caskWord (filtered : Bool) (xs : List Int) : BitVec 128 :=
  BitVec.ofNat 128 (packBits (if filtered then 24 else 18) (xs.take (spw filtered)) + (if filtered then 2 ^ 126 else 0))

/-- Word j of a channel's segment in cask memory; none where the segment has no such word (R202). -/
def segmentWord (filtered : Bool) (xs : List Int) (j : Nat) : Option (BitVec 128) :=
  let l := xs.drop (spw filtered * j)
  if l.isEmpty then none else some (caskWord filtered l)

/-- The samples of a channel's segment of a cask, in order. -/
def Cask.segment (c : Cask) (ch : Nat) : List Int := (c.words.filter (fun w => w.ch == ch && w.gap == 0)).map (·.value)

/-- The valid samples of the last word of a segment, as the cask descriptor records them (R202). -/
def Cask.lastCount (c : Cask) (filtered : Bool) (ch : Nat) : Nat :=
  let n := (c.segment ch).length
  if n = 0 then 0 else (n - 1) % spw filtered + 1

/-- The words that one channel's segment of a cask takes (R203). -/
def Group.segmentWords (x : Group) : Nat := (x.store + spw x.isFiltered - 1) / spw x.isFiltered

/-- Casks of a group that are free (R208): neither held, armed nor committed. A cask whose head has closed counts among the held ones until the head is handed over (R212). -/
def Group.free (x : Group) : Nat := x.casksMax - x.casks.length - (match x.state with | .armed | .post => 1 | _ => 0)

/-- The stream keys of a group (R226): a CASK stream for each channel and the MEASURE stream. -/
def Group.keys (x : Group) (g : Nat) : List Nat := x.channels.map (fun ch => streamKey 3 (512 * g + ch)) ++ [streamKey 5 g]

/-- The sample period of a channel for a group's source: none where it has no source or no recipe. -/
def State.capturePeriod (s : State) (filtered : Bool) (ch : Nat) : Option Nat :=
  if !filtered then some (s.inPeriod ch)
  else (s.mchan ch).recipe.map (fun rn => s.inPeriod ch * (s.recipe rn).decAll)

/-- Whether a channel can deliver words to a group. -/
def State.captureAlive (s : State) (filtered : Bool) (ch : Nat) : Bool := s.hasSource ch && (!filtered || (s.mchan ch).recipe.isSome)

/-- R200: brine groups hold channels 0 to 255, filtered ones need recipes, and all channels share one period. -/
def State.channelsOk (s : State) (d : Bytes) : Bool :=
  let l := maskChannels d
  let f := u8 d 1 == 1
  !l.isEmpty && l.all (fun ch => (f || decide (ch < 256)) && (s.capturePeriod f ch).isSome) && l.all (fun ch => s.capturePeriod f ch == s.capturePeriod f (l.headD 0))

/-- The trigger index of a time in 2^−16 ns, from the newest word that reached the group (R206). -/
def trigIndex (newest : Nat × Nat × Nat) (t : Nat) : Nat :=
  let d : Int := (t : Int) - (newest.2.1 * 65536 : Nat)
  ((newest.1 : Int) - (-d).fdiv (newest.2.2 * 65536 : Nat)).toNat

/-- The oldest index that the armed cask holds (R205). -/
def Group.oldest (x : Group) : Nat := match x.newest with | some n => max x.armedAt (n.1 + 1 - x.store) | none => x.armedAt

/-- The reach of the armed cask (R205). -/
def Group.reach (x : Group) : Nat := match x.state, x.newest with | .armed, some n => n.1 + 1 - x.oldest | _, _ => 0

/-! ## Arming, commit and close (R206 to R217) -/

/-- Arms the next cask at an index, or starves where the pool is empty (R208). (log 50: DEDUCED) -/
def State.armGroup (s : State) (g idx : Nat) : State :=
  s.setGroup g (fun x =>
    let x := { x with state := .disabled, current := none, tailTo := [] }
    if x.free = 0 then { x with state := .starved, starved := sat 32 (x.starved + 1), ring := [] }
    else { x with state := .armed, armedAt := idx, ring := x.ring.filter (fun w => decide (idx < w.index + w.count)) })

/-- Where a committed cask's kept range ends, one past its last index. -/
def Group.endOf (x : Group) (c : Cask) : Nat := c.nt + x.post

/-- Where the part held in cask memory ends, one past its last index (R212). -/
def Group.headEnd (x : Group) (c : Cask) : Nat := if x.tails then min (c.nt - c.pAct + x.store) (x.endOf c) else x.endOf c

/-- Whether a committed cask has a tail: a short-pre one may keep no more samples than its head holds (R211, R212). -/
def Group.hasTail (x : Group) (c : Cask) : Bool := decide (x.headEnd c < x.endOf c)

/-- The words of a channel in an index range, holes cut to it, in order. -/
def rangeWords (l : List MemWord) (ch lo hi : Nat) : List MemWord :=
  (l.filter (fun w => w.ch == ch && decide (lo < w.index + w.count) && decide (w.index < hi))).map (fun w =>
    if w.gap = 0 then w
    else
      let a := max lo w.index
      let b := min hi (w.index + w.count)
      { w with index := a, count := b - a, time := w.time + (a - w.index) * w.period })

/-- The words of a committed cask's kept range up to an index, channel by channel. -/
def Group.keptWords (x : Group) (c : Cask) (stop : Nat) : List MemWord := x.channels.flatMap (fun ch => rangeWords x.ring ch (c.nt - c.pAct) stop)

/-- Whether every channel that can deliver has reached an index. -/
def State.allReached (s : State) (x : Group) (idx : Nat) : Bool :=
  x.channels.all (fun ch => decide (idx ≤ Tbl.get 0 x.reached ch) || !s.captureAlive x.isFiltered ch)

/-! ## Cask records (R215, R226, R227) -/

/-- The 32 bytes of the table "Cask prefix". -/
def caskPrefix (c : Cask) (g ch rec : Nat) (flags : BitVec 16) : Bytes :=
  le 4 c.serial ++ le 2 g ++ le 2 ch ++ stampBytes c.trig ++ le 1 c.source ++ le 1 c.place ++ le 4 c.pAct ++ le 4 c.post ++ le 1 (min 255 rec) ++ [0] ++ le 2 flags.toNat

/-- One word joins the records of a segment, newest first: a new record begins after a gap, at each 4,096 samples of the segment, under another config_gen and with another converter (R215, R227, R308). (log 51: DEDUCED) -/
def caskStep (key lo : Nat) (wide : Bool) (format : Nat) (acc : List Record) (w : MemWord) : List Record :=
  if w.gap ≠ 0 then
    Gap.marker key w.period { count := w.count, index := w.index, first := w.time, last := (w.time + (w.count - 1) * w.period) * 65536, reason := w.gap, unit := 0 } :: acc
  else
    let new : Record := { key, kind := 3, flags := w.flags, gen := w.gen, units := 1, index := w.index, first := w.time, period := w.period, samples := [w.value], wide, last := w.time * 65536, format }
    match acc with
    | [] => [new]
    | r :: rest =>
      if r.kind = 3 ∧ r.index + r.units = w.index ∧ r.gen = w.gen ∧ (w.index - lo) / 4096 = (r.index - lo) / 4096 ∧ (r.flags ^^^ w.flags) &&& 0x30 = 0 then
        { r with flags := r.flags ||| w.flags, units := r.units + 1, samples := r.samples ++ [w.value], last := w.time * 65536 } :: rest
      else new :: acc

/-- Hands the records of a stretch of a segment over: `tail` marks continuation records, `last` that the segment ends here. -/
def State.handSegment (s : State) (g ch : Nat) (c : Cask) (words : List MemWord) (tail last : Bool) : State :=
  let key := streamKey 3 (512 * g + ch)
  let lo := c.nt - c.pAct
  let f := (s.group g).isFiltered
  let recs := (words.foldl (caskStep key lo f s.streams.format) []).reverse
  let n := (recs.filter (·.kind == 3)).getLast?.map (·.index)
  if !(s.stream key).isOpen then s
  else recs.foldl (fun (s : State) r =>
    if r.kind = 7 then s.miss key r.gap
    else
      let fl : BitVec 16 := c.flags ||| (if f then 0x10 else 0) ||| (if tail then 2 else 0) ||| (if last && n == some r.index then 4 else 0)
      let short : BitVec 16 := if c.flags.getLsbD 0 then 0x80 else 0
      s.hand { r with flags := r.flags ||| short, payload := caskPrefix c g ch ((r.index - lo) / 4096) fl }) s

/-! ## Measurements (R228, R229) -/

/-- What the crossing tests of a window keep: the word before, whether the rising and falling tests are armed, and the firing times (2^−16 ns) found so far. -/
structure Crossings where
  prev  : Option (Nat × Int) := none
  below : Bool := false
  above : Bool := false
  rises : List Nat := []
  falls : List Nat := []

/-- The time at which a line through two words meets a level given twice over (R220), in 2^−16 ns, ties to even. -/
def interpolate (t0 : Nat) (x0 : Int) (t1 : Nat) (x1 lvl2 : Int) : Nat :=
  let d := x1 - x0
  let n := (lvl2 - 2 * x0) * ((t1 - t0) * 65536 : Nat)
  ((t0 * 65536 : Nat) + roundEven (if d < 0 then -n else n) (2 * d.natAbs)).toNat

/-- One word of the crossing tests at level λ (given twice over) with a hysteresis (R219). -/
def Crossings.step (lvl2 hyst2 : Int) (k : Crossings) (w : MemWord) : Crossings :=
  let x2 := 2 * w.value
  let rise := k.below && decide (lvl2 ≤ x2)
  let fall := k.above && decide (x2 < lvl2)
  let (t0, x0) := k.prev.getD (w.time, w.value)
  { prev := some (w.time, w.value)
    below := !rise && (k.below || decide (x2 < lvl2 - hyst2))
    above := !fall && (k.above || decide (lvl2 + hyst2 < x2))
    rises := if rise then k.rises ++ [interpolate t0 x0 w.time w.value lvl2] else k.rises
    falls := if fall then k.falls ++ [interpolate t0 x0 w.time w.value lvl2] else k.falls }

/-- The 56 bytes of the table "Measurement entry" for one channel; `m` is the setting, bytes 1 to 15 of CAPTURE_SET_MEASURE. -/
def measureEntry (c : Cask) (ch : Nat) : Bytes :=
  let m := c.measure
  let ws := c.words.filter (fun w => w.ch == ch && w.gap == 0 && (match u8 m 1 with | 1 => decide (w.index < c.nt) | 2 => decide (c.nt ≤ w.index) | _ => true))
  let n := ws.length
  if n = 0 then le 2 ch ++ le 2 0x13 ++ zeros 52
  else
    let xs := ws.map (·.value)
    let lo := xs.foldl min (xs.headD 0)
    let hi := xs.foldl max (xs.headD 0)
    let sum := xs.foldl (· + ·) 0
    let sq := (xs.map (fun x => x.natAbs * x.natAbs)).sum
    let up := xs.filter (fun x => decide (lo + hi ≤ 2 * x))
    let dn := xs.filter (fun x => decide (2 * x < lo + hi))
    let amp := if dn.isEmpty then 0 else roundEven (256 * (up.foldl (· + ·) 0 * dn.length - dn.foldl (· + ·) 0 * up.length)) (up.length * dn.length)
    let lvl2 := if u8 m 2 = 1 then 2 * i32 m 3 else lo + hi
    let k := ws.foldl (Crossings.step lvl2 (2 * u32 m 7)) {}
    let r := k.rises.length
    let per := if 2 ≤ r then (roundEven ((k.rises.getLast?.getD 0 : Int) - k.rises.headD 0) (r - 1)).toNat else 0
    let rise : Int := match k.rises with | t :: _ => (t : Int) - c.trig | [] => 0
    let fall : Int := match k.falls with | t :: _ => (t : Int) - c.trig | [] => 0
    let fl := (if k.rises.isEmpty then 1 else 0) + (if k.falls.isEmpty then 2 else 0) + (if ws.any (·.flags.getLsbD 0) then 4 else 0) + (if ws.any (·.flags.getLsbD 1) then 8 else 0)
    le 2 ch ++ le 2 fl ++ leInt 4 lo ++ leInt 4 hi ++ leInt 4 (roundEven (256 * sum) n) ++ le 4 (isqrt (65536 * sq / n)) ++ leInt 4 (hi - lo) ++ leInt 4 amp
      ++ le 4 r ++ le 4 (per / 65536) ++ le 2 (per % 65536) ++ zeros 2 ++ leInt 4 (rise.fdiv 65536) ++ leInt 4 (fall.fdiv 65536) ++ leInt 2 rise ++ leInt 2 fall ++ zeros 4

/-- Hands the MEASURE record of a cask over when measurement was on as it closed (R229). (log 51: DEDUCED) -/
def State.handMeasure (s : State) (g : Nat) (c : Cask) : State :=
  let key := streamKey 5 g
  if u8 c.measure 0 = 0 ∨ !(s.stream key).isOpen then s
  else
    let chs := (s.group g).channels
    let fl : BitVec 16 := c.flags ||| (if (s.group g).isFiltered then 0x10 else 0)
    s.hand { key, kind := 5, flags := (if c.flags.getLsbD 0 then 0x80 else 0) ||| s.holdoverFlag, gen := s.sys.configGen, units := chs.length, first := c.trig / 65536, period := c.period, payload := caskPrefix c g 0xFFFF 0 fl ++ chs.flatMap (measureEntry c), last := c.trig, format := s.streams.format }

/-! ## Tail records (R212) -/

/-- Whether the head of the current cask has been handed over. -/
def Group.headGone (x : Group) (c : Cask) : Bool := !(x.casks.any (fun d => d.head && d.serial == c.serial))

/-- Sends the continuation records of one channel that are complete: to the end of a 4,096-sample part, or of the segment. -/
def State.tailChannel (s : State) (g ch : Nat) (c : Cask) (stop : Nat) : State :=
  let x := s.group g
  let lo := c.nt - c.pAct
  let frm := Tbl.get (x.headEnd c) x.tailTo ch
  let have' := min stop (Tbl.get 0 x.reached ch)
  let upto := if have' = stop then stop else lo + (have' - lo) / 4096 * 4096
  if upto ≤ frm then s
  else
    let s := s.handSegment g ch c (rangeWords x.ring ch frm upto) true (upto == stop)
    s.setGroup g (fun x => { x with tailTo := Tbl.set x.tailTo ch upto })

/-- Serves the tail of a group's current cask; at its end the MEASURE record goes out and the next cask is armed (R212). (log 51: DEDUCED) -/
def State.serveTail (s : State) (g : Nat) : State :=
  let x := s.group g
  match x.state, x.current with
  | .tail, some c =>
    if !x.headGone c then s
    else
      let s := x.channels.foldl (fun (s : State) ch => s.tailChannel g ch c (x.endOf c)) s
      if s.allReached x (x.endOf c) then
        let s := s.handMeasure g { c with measure := x.measure, words := x.keptWords c (x.endOf c) }
        s.armGroup g (x.endOf c)
      else s
  | _, _ => s

/-- Closes the current cask, or its head, once its last word is written (R208, R212). -/
def State.tryClose (s : State) (g : Nat) : State :=
  let x := s.group g
  match x.state, x.current with
  | .post, some c =>
    let stop := x.headEnd c
    if !s.allReached x stop then s
    else
      let c := { c with post := x.post }
      let kept := { c with words := x.keptWords c stop, measure := x.measure, head := x.hasTail c }
      let s := s.setGroup g (fun x => { x with casks := x.casks ++ [kept] })
      if x.hasTail c then (s.setGroup g (fun x => { x with state := .tail, current := some c, tailTo := [] })).serveTail g
      else s.armGroup g stop
  | _, _ => s

/-! ## Deciding a trigger (R206 to R211, R223) -/

/-- What becomes of a trigger for one group. -/
inductive Verdict where
  | commit | ignored | waits
  deriving DecidableEq, Repr

/-- Counts a missed trigger, and keeps the time of the first (R209). -/
def Group.miss (x : Group) (t : Nat) : Group := { x with missed := sat 32 (x.missed + 1), firstMissed := some (x.firstMissed.getD t), missedSince := true }

/-- Whether the hub sends fabric triggers: it holds duty or is not twinned (R224). -/
def State.mayIssue (s : State) : Bool := s.twin.mode == 0 || s.twin.role == 1 || s.twin.role == 3 || (s.twin.role == 4 && s.twin.dutyOut && s.twin.windowAt.isNone)

/-- Commits the armed cask of a group around a trigger index (R206, R214, R224); a COARSE time stays noted in the cask (R261). -/
def State.commitCask (s : State) (g nt pAct t source place : Nat) (m : TrigMarks) (period : Nat) : State :=
  let x := s.group g
  let fl : BitVec 16 := (if pAct < x.pre then 1 else 0) ||| (if x.missedSince then 0x20 else 0) ||| (if m.lost then 0x40 else 0)
  let c : Cask := { serial := x.serial, trig := t, source, place, nt, pAct, post := 0, flags := fl, period, coarse := m.coarse }
  let s := s.setGroup g (fun x => { x with state := .post, current := some c, serial := (x.serial + 1) % 2 ^ 32, committed := sat 32 (x.committed + 1), shortPre := if pAct < x.pre then sat 32 (x.shortPre + 1) else x.shortPre, missedSince := false, ranges := x.ranges ++ [(nt - pAct, nt + x.post)] })
  let s := { s with capture := { s.capture with linked := if s.twin.mode = 2 then s.capture.linked ++ [(g, t)] else [] } }
  let s := if s.twin.mode = 1 ∧ s.twin.role = 1 then { s with twin := { s.twin with casks := s.twin.casks ++ [le 1 g ++ zeros 3 ++ le 4 x.serial ++ le 8 (t / 65536) ++ le 2 (t % 65536) ++ zeros 2 ++ le 4 pAct] } } else s
  let f := (u8 x.define 3, t)
  let s := if x.emits && s.mayIssue then { s with capture := { s.capture with own := s.capture.own ++ [f], issued := s.capture.issued ++ [f] } } else s
  s.tryClose g

/-- Decides a trigger for one group. -/
def State.decideTrigger (s : State) (g source place t : Nat) (m : TrigMarks) : State × Verdict :=
  let x := s.group g
  if !x.active then (s, .ignored)
  else if x.state = .starved then (s.setGroup g (·.miss t), .ignored)
  else match x.newest with
    | none => (s, .waits)
    | some n =>
      let nt := trigIndex n t
      if n.1 < nt then (s, .waits)
      else if x.state ≠ .armed ∨ x.ranges.any (fun r => decide (r.1 ≤ nt) && decide (nt < r.2)) then (s.setGroup g (·.miss t), .ignored)
      else if nt < x.oldest then (s.setGroup g (fun x => { x with late := sat 32 (x.late + 1) }), .ignored)
      else
        let pAct := min x.pre (nt - x.oldest)
        if pAct < x.pre ∧ x.fullPre then (s.setGroup g (fun x => { x with shortIgnored := sat 32 (x.shortIgnored + 1) }), .ignored)
        else (s.commitCask g nt pAct t source place m n.2.2, .commit)

/-- How many fabric and command triggers wait (R223). (log 50: DEDUCED) -/
def State.timedCount (s : State) : Nat := (s.capture.timed.filter (fun w => decide (4 ≤ w.source))).length

/-- Whether a trigger's time is within 10 s of the newest sample of a group. -/
def Group.near (x : Group) (t now : Nat) : Bool := decide (t ≤ ((match x.newest with | some n => n.2.1 | none => now) + 10000000000) * 65536)

/-- A term fires for its group (R210): decided at once, or held until the group reaches its index (R206). -/
def State.fireTerm (s : State) (g term place t : Nat) (m : TrigMarks) : State :=
  match s.decideTrigger g term place t m with
  | (s, .waits) => s.setTimed (· ++ [{ time := t, source := term, place, groups := [g], marks := m }])
  | (s, _) => s

/-- Offers a timed trigger to several groups: those committed, those not, and those for which it waits. -/
def offerTrigger (source place t : Nat) (m : TrigMarks) : List Nat → State → State × List Nat × List Nat × List Nat
  | [], s => (s, [], [], [])
  | g :: r, s =>
    let (s, v) := s.decideTrigger g source place t m
    let (s, a, b, c) := offerTrigger source place t m r s
    match v with
    | .commit => (s, g :: a, b, c)
    | .ignored => (s, a, g :: b, c)
    | .waits => (s, a, b, g :: c)

/-- The groups with a FABRIC term of a number. -/
def State.fabricGroups (s : State) (num : Nat) : List Nat :=
  (s.capture.groups.filter (fun e => e.2.active && e.2.terms.any (fun t => u8 t.2.bytes 1 == 6 && u16 t.2.bytes 3 == num))).map (·.1)

/-- A fabric trigger of a number reaches the FABRIC terms (R223, R224). -/
def State.fabricTrigger (s : State) (num t : Nat) : State :=
  let (s, _, _, wait) := offerTrigger 4 4 t {} (s.fabricGroups num) s
  let near := wait.filter (fun g => (s.group g).near t s.now)
  let ok := if s.timedCount < 16 then near else []
  let s := (wait.filter (fun g => !ok.contains g)).foldl (fun (s : State) g => s.setGroup g (·.miss t)) s
  if ok.isEmpty then s else s.setTimed (· ++ [{ time := t, source := 4, place := 4, groups := ok }])

/-- Delivers the hub's own fabric triggers to its own terms (R224); every commit of a group issues at most one. -/
def State.runOwn (s : State) : (fuel : Nat) → State
  | 0 => s
  | fuel + 1 =>
    match s.capture.own with
    | [] => s
    | (num, t) :: r => (({ s with capture := { s.capture with own := r } }).fabricTrigger num t).runOwn fuel

/-- Ends a waiting command trigger once every named group has decided (R234). -/
def forceResult (done failed : List Nat) : Bytes := le 2 (maskOf done) ++ le 2 (maskOf failed) ++ zeros 4

/-- Drops a group from the waiting triggers (R216, R217): its share of a forced one counts as not committed. -/
def State.dropWaits (s : State) (g : Nat) : State :=
  let l := s.capture.timed.map (fun w => if w.groups.contains g then { w with groups := w.groups.erase g, failed := w.failed ++ [g] } else w)
  let s := s.setTimed (fun _ => l.filter (fun w => !w.groups.isEmpty))
  (l.filter (fun w => w.groups.isEmpty)).foldl (fun (s : State) w => match w.ref with | some r => s.finish r stOk 0 (forceResult w.done w.failed) | none => s) s

/-- A waiting trigger comes up again: the groups that have recorded its index decide (R223). (log 50: DEDUCED) -/
def State.applyTimed (s : State) (i : Nat) : State :=
  match s.capture.timed[i]? with
  | none => s
  | some w =>
    let s := s.setTimed (·.eraseIdx i)
    let (s, a, b, c) := offerTrigger w.source w.place w.time w.marks w.groups s
    let w' := { w with groups := c, done := w.done ++ a, failed := w.failed ++ b }
    if c.isEmpty then (match w.ref with | some r => s.finish r stOk 0 (forceResult w'.done w'.failed) | none => s)
    else s.setTimed (fun l => l.take i ++ [w'] ++ l.drop i)

/-! ## Trigger terms (R218 to R222) -/

/-- Kind, mode, source, data, placement, a, b of a term. -/
def Term.kind (t : Term) : Nat := u8 t.bytes 1
/-- The mode. -/
def Term.mode (t : Term) : Nat := u8 t.bytes 2
/-- The source. -/
def Term.source (t : Term) : Nat := u16 t.bytes 3

/-- One word of a digital term's source (R218 to R220): the term after it, and the time in 2^−16 ns and placement at which it fires. -/
def Term.word (t : Term) (w : MemWord) : Term × Option (Nat × Nat) :=
  let t := if w.restart || w.gap != 0 then { t with started := false, lo := false, hi := false, hist := [] } else t
  if w.gap ≠ 0 then (t, none)
  else
    let a := i32 t.bytes 7
    let b := i32 t.bytes 11
    let x := w.value
    let wants := fun m => t.mode == 2 || t.mode == m
    let hist := ((w.time, x) :: t.hist).take 17
    let at' := fun (lvl : Int) => match t.hist with
      | (t0, x0) :: _ => if u8 t.bytes 6 = 1 then some (interpolate t0 x0 w.time x (2 * lvl), 1) else some (w.time * 65536, 0)
      | [] => some (w.time * 65536, 0)
    match t.kind with
    | 1 =>
      let rise := t.started && t.lo && decide (a ≤ x)
      let fall := t.started && t.hi && decide (x < a)
      let t' := { t with started := true, lo := !rise && (t.lo || decide (x < a - b)), hi := !fall && (t.hi || decide (a + b < x)), hist }
      (t', if (rise && wants 0) || (fall && wants 1) then at' a else none)
    | 2 =>
      let inside := decide (a ≤ x) && decide (x ≤ b)
      let enter := t.started && !t.lo && inside
      let leave := t.started && t.lo && !inside
      let x0 := (t.hist.headD (0, x)).2
      let lvl := if enter then (if b < x0 then b else a) else (if b < x then b else a)
      ({ t with started := true, lo := inside, hist }, if (enter && wants 0) || (leave && wants 1) then at' lvl else none)
    | 3 =>
      match t.hist[b.toNat - 1]? with
      | none => ({ t with started := true, hist }, none)
      | some (_, x0) =>
        let up := decide (a ≤ x - x0)
        let dn := decide (x - x0 ≤ -a)
        ({ t with started := true, lo := up, hi := dn, hist }, if (up && !t.lo && wants 0) || (dn && !t.hi && wants 1) then some (w.time * 65536, 0) else none)
    | _ => (t, none)

/-- Orders the firings of one word by time, then term (R210). -/
def insertFiring (f : Nat × Nat × Nat) : List (Nat × Nat × Nat) → List (Nat × Nat × Nat)
  | [] => [f]
  | e :: r => if f.1 < e.1 then f :: e :: r else e :: insertFiring f r

/-- The digital terms of one group take a word; those that fire are decided in order. -/
def State.termsWord (s : State) (g : Nat) (w : MemWord) : State :=
  let src := if w.filtered then 1 else 0
  let mine := fun (t : Term) => 1 ≤ t.kind && t.kind ≤ 3 && t.source == w.ch && u8 t.bytes 5 == src
  let fired := (s.group g).terms.foldl (fun l e => if mine e.2 then (match (e.2.word w).2 with | some (t, pl) => insertFiring (t, e.1, pl) l | none => l) else l) []
  let s := s.setGroup g (fun x => { x with terms := x.terms.map (fun e => if mine e.2 then (e.1, (e.2.word w).1) else e) })
  fired.foldl (fun (s : State) f => s.fireTerm g f.2.1 f.2.2 f.1 {}) s

/-- Whether a COMPARATOR term takes a crossing event (R218). -/
def Term.takes (t : Term) (e : Crossing) : Bool := t.kind == 4 && t.source == e.ch && (t.mode == 2 || (t.mode == 0) == e.entry)

/-- A crossing event reaches the COMPARATOR terms (R221): one that was lost triggers nothing, and each group that would have taken it counts it once. -/
def State.compTerms (s : State) (e : Crossing) (gone : Bool) : State :=
  s.capture.groups.foldl (fun (s : State) gx =>
    let l := gx.2.terms.filter (fun t => t.2.takes e)
    if !gx.2.active ∨ l.isEmpty then s
    else if gone then s.setGroup gx.1 (fun x => { x with compLost := sat 32 (x.compLost + 1) })
    else l.foldl (fun (s : State) t => s.fireTerm gx.1 t.1 2 e.time { lost := e.lost, coarse := e.coarse }) s) s

/-- A stamp reaches the EDGE terms of its input (R222). -/
def State.edgeTerms (s : State) (input time : Nat) (rising : Bool) : State :=
  s.capture.groups.foldl (fun (s : State) gx =>
    gx.2.terms.foldl (fun (s : State) t =>
      if t.2.kind = 5 ∧ t.2.source = input ∧ (t.2.mode = 2 ∨ (t.2.mode = 0 ↔ rising = true)) then s.fireTerm gx.1 t.1 3 time {} else s) s) s

/-- A SCHEDULE term after one of its times. -/
def Term.advance (t : Term) : Term :=
  let per := u32 t.bytes 23
  match t.next with
  | none => t
  | some n => if per = 0 ∨ t.left = 1 then { t with next := none } else { t with next := some (n + per), left := t.left - 1 }

/-- A SCHEDULE term reaches its next time and issues a trigger (R218, R223): it waits for its index without using an entry. (log 50: DEDUCED) -/
def State.scheduleTime (s : State) (g i : Nat) : State :=
  let t := Tbl.get {} (s.group g).terms i
  match t.next with
  | none => s
  | some n =>
    if t.kind ≠ 7 ∨ s.now < n then s
    else
      match s.decideTrigger g i 4 (n * 65536) {} with
      | (_, .waits) => s
      | (s', _) => s'.setGroup g (fun x => { x with terms := Tbl.modify {} x.terms i Term.advance })

/-! ## Samples (R205, CAPTURE_SAMPLE) -/

/-- The part of a word, or of a hole, from an instant on; none where nothing is left. -/
def MemWord.from' (w : MemWord) (t : Nat) : Option MemWord :=
  let n := if w.time < t ∧ w.gap ≠ 0 ∧ w.period ≠ 0 then (t - w.time + w.period - 1) / w.period else if w.time < t then w.count else 0
  if w.count ≤ n then none else some { w with index := w.index + n, count := w.count - n, time := w.time + n * w.period }

/-- A word joins a group's ring, and a committed cask closes when it is full (R205, R208). The first word after a group is armed afresh is the first index that its cask holds, and a hole that began before counts from there (R215). -/
def State.groupWord (s : State) (g : Nat) (w : MemWord) : State :=
  let x := s.group g
  if !x.active ∨ w.filtered ≠ x.isFiltered ∨ !x.channels.contains w.ch then s
  else match w.from' x.armTime with
  | none => s
  | some w =>
    let top := w.index + w.count
    let newer := match x.newest with | some n => decide (n.1 < top - 1) | none => true
    let x := { x with armedAt := if x.newest.isNone then w.index else x.armedAt, reached := Tbl.set x.reached w.ch top, newest := if newer then some (top - 1, w.time + (w.count - 1) * w.period, w.period) else x.newest }
    let x := if x.state = .starved ∨ top ≤ x.armedAt then x else { x with ring := x.ring ++ [w] }
    let x := match x.state with
      | .armed => { x with ring := x.ring.filter (fun v => decide (x.oldest < v.index + v.count)) }
      | _ => x
    ((s.setGroup g (fun _ => x)).tryClose g).serveTail g

/-- A word of the MASH → MEM crossing reaches the capture engine (R201, R205, R210). -/
def State.captureWord (s : State) (w : MemWord) : State :=
  let gs := s.capture.groups.map (·.1)
  let s := gs.foldl (fun (s : State) g => s.groupWord g w) s
  (gs.foldl (fun (s : State) g => s.termsWord g w) s).runOwn 20

/-! ## Delivery and release (R213, R217) -/

/-- Hands one cask's records over and frees it; a starved group arms at the next index (R208, R213). -/
def State.deliverCask (s : State) (g : Nat) (c : Cask) : State :=
  let x := s.group g
  let s := x.channels.foldl (fun (s : State) ch => s.handSegment g ch c (c.words.filter (·.ch == ch)) false (!c.head)) s
  if c.head then s else s.handMeasure g c

/-- After a cask was freed: a starved group arms at the next index after the release (R208). -/
def State.afterFree (s : State) (g : Nat) : State :=
  let x := s.group g
  if x.state = .starved ∧ x.casks.length < x.casksMax then
    s.setGroup g (fun x => { x with state := .armed, armedAt := (match x.newest with | some n => n.1 + 1 | none => 0), ring := [] })
  else s.serveTail g

/-- Hands over the oldest held cask of a group. -/
def State.deliverOldest (s : State) (g : Nat) : State :=
  match (s.group g).casks with
  | [] => s
  | c :: r => ((s.deliverCask g c).setGroup g (fun x => { x with casks := r })).afterFree g

/-- Hands over every held cask of a group. -/
def State.deliverAll (s : State) (g : Nat) : State := (List.range (s.group g).casks.length).foldl (fun (s : State) _ => s.deliverOldest g) s

/-- The result of CAPTURE_READOUT and CAPTURE_RELEASE. -/
def takenResult (n first : Nat) : Bytes := le 2 n ++ zeros 2 ++ le 4 first

/-- Ends the readouts of a group that have nothing left to hand over. -/
def State.endReadouts (s : State) (g : Nat) (all : Bool) : State :=
  let l := (s.group g).readouts
  let done := l.filter (fun r => all || r.left == 0)
  let s := s.setGroup g (fun x => { x with readouts := l.filter (fun r => !(all || r.left == 0)) })
  done.foldl (fun (s : State) r => s.finish r.ref stOk 0 (takenResult r.taken r.first)) s

/-- A readout that took no cask, or whose last one has gone otherwise, completes (R230). -/
def State.settleReadouts (s : State) : State :=
  (s.capture.groups.filter (fun e => e.2.readouts.any (fun r => r.left == 0))).foldl (fun (s : State) e => s.endReadouts e.1 false) s

/-- The hand-over of a group's next closed cask (R213): in AUTO mode the oldest, in HOLD mode those that a readout takes. -/
def State.caskHandover (s : State) (g : Nat) : State :=
  let x := s.group g
  if !x.holds then s.deliverOldest g
  else match x.readouts with
    | [] => s
    | r :: rest =>
      if r.left = 0 then s.endReadouts g false
      else ((s.deliverOldest g).setGroup g (fun x => { x with readouts := { r with left := r.left - 1 } :: rest })).endReadouts g false

/-- The committed cask of a group closes with the words written so far (R216). -/
def State.truncateCask (s : State) (g : Nat) : State :=
  let x := s.group g
  match x.current, x.newest with
  | some c, some n =>
    let stop := min (n.1 + 1) (x.endOf c)
    let c := { c with flags := c.flags ||| 8, post := stop - c.nt }
    let lo := c.nt - c.pAct
    let s :=
      if x.state = .post then
        s.setGroup g (fun x => { x with casks := x.casks ++ [{ c with words := x.keptWords c (min stop (x.headEnd c)), measure := x.measure }], current := none })
      else
        let s := (List.range x.casks.length).foldl (fun (s : State) _ => if (s.group g).headGone c then s else s.deliverOldest g) s
        let s := x.channels.foldl (fun (s : State) ch => s.tailChannel g ch c stop) s
        s.handMeasure g { c with measure := x.measure, words := x.keptWords c stop }
    s.setGroup g (fun x => { x with current := none, ranges := x.ranges.dropLast ++ [(lo, stop)] })
  | _, _ => s.setGroup g (fun x => { x with current := none })

/-- Opens the streams of a group that are not open (R226). (log 49: DEDUCED) -/
def State.openGroup (s : State) (g reason : Nat) : State :=
  let x := s.group g
  let p := (s.capturePeriod x.isFiltered (x.channels.headD 0)).getD 0
  let s := x.channels.foldl (fun (s : State) ch => s.openStream (streamKey 3 (512 * g + ch)) reason { width := if x.isFiltered then 24 else 18, first := s.now, period := p, epoch := s.now } 4096 10000) s
  s.openStream (streamKey 5 g) reason { first := s.now, period := p, epoch := s.now } x.channels.length 10000

/-- An enabled group arms afresh at the present epoch; `reindexed` says that its source counts its indices anew. -/
def State.rearmGroup (s : State) (g : Nat) (reindexed : Bool) : State :=
  let s := s.setGroup g (fun x => { x with ring := [], reached := [], newest := none, armTime := s.now, ranges := if reindexed then [] else x.ranges })
  s.armGroup g 0

/-- A group is enabled (R226, R230): its streams open and its first cask arms, at once where the hub samples and otherwise at the start epoch. (log 49: DEDUCED) -/
def State.enableGroup (s : State) (g reason : Nat) : State :=
  let s := if s.running then s.openGroup g reason else s
  s.rearmGroup g false

/-- A group halts (R217): its committed cask closes truncated, its held casks are delivered, and its streams end. -/
def State.haltGroup (s : State) (g reason : Nat) (next : GroupState) : State :=
  let close := fun (s : State) => ((s.truncateCask g).deliverAll g).endReadouts g true
  let s := if next = .disabled then s.asBefore close else close s
  let s := ((s.group g).keys g).foldl (fun (s : State) k => if next = .disabled then s.endStreamBefore k reason else s.endStream k reason s.now) s
  (s.setGroup g (fun x => { x with state := next, ring := [], current := none, tailTo := [] })).dropWaits g

/-- A change ended the conditions of some groups (R216): each closes its committed cask truncated and re-arms, or stops where its channels no longer share one period. -/
def State.captureChange (s : State) (hit : Nat → Group → Bool) (reindexed : Bool) : State :=
  (s.capture.groups.filter (fun e => e.2.active && hit e.1 e.2)).foldl (fun (s : State) e =>
    let s := s.truncateCask e.1
    if s.channelsOk e.2.define then s.rearmGroup e.1 reindexed
    else (s.haltGroup e.1 6 .stopped).logFault 0x0016 e.1 0 0) s

/-- The enabled groups begin with the hub's run (R230). (log 49: DEDUCED) -/
def State.captureStart (s : State) (reason : Nat) : State :=
  (s.capture.groups.filter (·.2.active)).foldl (fun (s : State) e => (s.openGroup e.1 reason).rearmGroup e.1 true) s

/-- The groups at STATE_STOP's stop epoch (R216, R217): held casks are delivered and the streams end; the groups stay enabled. -/
def State.captureStop (s : State) (reason : Nat) : State :=
  (s.capture.groups.filter (·.2.active)).foldl (fun (s : State) e => (s.haltGroup e.1 reason .starved).rearmGroup e.1 true) s

/-- A definition waits no more for spilled words once they have left (R204). -/
def State.settleDefine (s : State) : State :=
  if 2097152 < s.heldWords + 256 * s.spillPages then s
  else s.capture.groups.foldl (fun (s : State) e =>
    match e.2.waiting with
    | some (ref, d) => (s.setGroup e.1 (fun _ => ({ state := .disabled, define := d, words := defineWords d } : Group))).finish ref stOk 0 []
    | none => s) s

/-! ## Meanings of group 0x05 -/

/-- A group number that names a defined group (R232). -/
def State.groupOk (s : State) (g : Nat) : Bool := g < 16 && (s.group g).isDefined

/-- `CAPTURE_GET` (0x0501). -/
def opCaptureGet : Op :=
  { need := fun _ => 4, states := allStates
    params := fun h _ => [(0, u8 h.cmd.params 0 < 16), (1, zeroAt h.cmd.params 1 3)]
    run := fun h s =>
      let x := s.group (u8 h.cmd.params 0)
      .done 0 ((x.define ++ zeros 64).take 64 ++ (List.range 4).flatMap (fun i => [0] ++ ((Tbl.get {} x.terms i).bytes ++ zeros 31).take 31) ++ [0] ++ (x.measure ++ zeros 15).take 15) s }

/-- The state byte of `CAPTURE_GET_STATUS`. -/
def Group.code (x : Group) : Nat :=
  match x.state with
  | .undefined => 0 | .disabled => 1 | .armed => if x.reach < x.store then 2 else 3 | .post => 4 | .tail => 5 | .starved => 6 | .stopped => 7

/-- `CAPTURE_GET_STATUS` (0x0502). (log 108: DEDUCED) -/
def opCaptureGetStatus : Op :=
  { need := fun _ => 4, states := allStates
    params := fun h _ => [(0, u8 h.cmd.params 0 < 16), (2, zeroAt h.cmd.params 2 2)]
    run := fun h s =>
      let g := u8 h.cmd.params 0
      let x := s.group g
      let r := le 1 x.code ++ zeros 3 ++ le 4 x.casks.length ++ le 4 x.free ++ le 4 x.serial ++ le 4 x.committed ++ le 4 x.missed ++ le 4 x.late ++ le 4 x.shortPre ++ le 4 x.shortIgnored ++ le 4 x.starved ++ le 4 x.compLost ++ le 4 x.reach ++ stampBytes (x.firstMissed.getD 0) ++ zeros 2
      .done 0 r (if u8 h.cmd.params 1 = 1 then s.setGroup g (fun x => { x with committed := 0, missed := 0, late := 0, shortPre := 0, shortIgnored := 0, starved := 0, compLost := 0, firstMissed := none }) else s) }

/-- `CAPTURE_GET_MEMORY` (0x0503). -/
def opCaptureGetMemory : Op :=
  { need := fun _ => 0, states := allStates
    run := fun _ s =>
      let groups := (s.capture.groups.map (fun e => e.2.words)).sum
      let work := s.heldWords - groups
      let spill := min (256 * s.spillPages) (2097152 - s.heldWords)
      .done 0 (le 4 groups ++ le 4 spill ++ le 4 (2097152 - s.heldWords - spill) ++ le 4 (s.capture.groups.map (fun e => if e.2.isDefined then e.2.casksMax else 0)).sum ++ le 2 (maskOf ((s.capture.groups.filter (·.2.isDefined)).map (·.1))) ++ le 1 s.timedCount ++ [0] ++ le 4 work) s }

/-- `CAPTURE_LIST_HELD` (0x0504). -/
def opCaptureListHeld : Op :=
  { need := fun _ => 4, states := allStates
    params := fun h _ => let p := h.cmd.params; [(0, u8 p 0 < 16), (1, zeroAt p 1 1), (2, 1 ≤ u16 p 2 && u16 p 2 ≤ 40)]
    run := fun h s =>
      let x := s.group (u8 h.cmd.params 0)
      .done 0 ((x.casks.take (u16 h.cmd.params 2)).flatMap (fun c => le 4 c.serial ++ stampBytes c.trig ++ le 2 (c.flags ||| (if x.isFiltered then 0x10 else 0)).toNat ++ le 4 c.pAct ++ zeros 4)) s }

/-- The casks that a group has, or will by a definition that waits (R203, R204). -/
def Group.casksClaimed (x : Group) : Nat := max (if x.isDefined then x.casksMax else 0) (match x.waiting with | some (_, d) => u32 d 4 | none => 0)

/-- Whether a group may be defined anew or freed (R232): disabled, without casks, and with no definition waiting. -/
def Group.idle (x : Group) : Bool := (match x.state with | .undefined | .disabled => true | _ => false) && x.casks.isEmpty && x.waiting.isNone

/-- The meaning of `CAPTURE_DEFINE` (R203, R204, R233). -/
def runCaptureDefine (h : Held) (s : State) : Answer :=
  let d := h.cmd.params.take 64
  let g := u8 d 0
  let old := s.group g
  let fresh := s.setGroup g (fun _ => ({ state := .disabled, define := d, words := defineWords d } : Group))
  if fresh.heldWords + 256 * fresh.spillPages ≤ 2097152 then .done 0 [] fresh
  else .accepted [] (s.setGroup g (fun _ => { old with words := max old.words (defineWords d), waiting := some (h.serial, d) }))

/-- `CAPTURE_DEFINE` (0x0510). -/
def opCaptureDefine : Op :=
  { need := fun _ => 64, states := settingStates
    params := fun h s =>
      let p := h.cmd.params
      let o := u8 p 2
      let pre := u32 p 8
      let st := u32 p 16
      [(0, u8 p 0 < 16 && (s.group (u8 p 0)).idle), (1, u8 p 1 < 2), (2, o < 16), (3, u8 p 3 < 64 && (o.testBit 3 || u8 p 3 == 0)), (4, 1 ≤ u32 p 4 && u32 p 4 ≤ 65536),
       (5, pre < st), (6, 1 ≤ u32 p 12), (7, 1 ≤ st && st ≤ 14680064), (8, zeroAt p 20 4), (9, s.channelsOk p), (6, if o.testBit 1 then decide (st < pre + u32 p 12) else decide (pre + u32 p 12 ≤ st))]
    budget := fun h s =>
      let d := h.cmd.params
      let g := u8 d 0
      let others := s.heldWords - (s.group g).words
      let ks := ((s.capture.groups.filter (fun e => e.1 != g)).map (fun e => e.2.casksClaimed)).sum
      if 2097152 < others + defineWords d ∨ 65536 < ks + u32 d 4 then some (stNoResource, 4) else none
    abort := fun h s =>
      let g := u8 h.cmd.params 0
      if (s.group g).waiting.any (·.1 == h.serial) then some (s.setGroup g (fun x => { x with waiting := none, words := if x.isDefined then defineWords x.define else 0 })) else none
    run := runCaptureDefine }

/-- The rules of the table "CAPTURE_SET_TRIGGER parameters" by kind, in the order of the parameters. -/
def triggerParams (p : Bytes) : List (Nat × Bool) :=
  let k := u8 p 2
  let src := u16 p 4
  [(1, u8 p 1 < 4), (2, k < 8), (3, if k = 0 ∨ k = 6 ∨ k = 7 then u8 p 3 == 0 else u8 p 3 < 3),
   (4, match k with | 0 => src == 0 | 4 => src < 256 | 5 => src < 16 | 6 => src < 64 | 7 => src == 0 | _ => src < 320),
   (5, if 1 ≤ k ∧ k ≤ 3 then u8 p 6 < 2 else u8 p 6 == 0), (6, if k = 1 ∨ k = 2 then u8 p 7 < 2 else u8 p 7 == 0),
   (7, match k with | 1 => true | 2 => true | 3 => decide (1 ≤ i32 p 8) | _ => i32 p 8 == 0),
   (8, match k with | 1 => decide (0 ≤ i32 p 12) | 2 => decide (i32 p 8 ≤ i32 p 12) | 3 => decide (1 ≤ i32 p 12) && decide (i32 p 12 ≤ 16) | _ => i32 p 12 == 0),
   (9, k == 7 || u64 p 16 == 0), (10, k == 7 || u32 p 24 == 0), (11, k == 7 || u32 p 28 == 0)]

/-- The effect of `CAPTURE_SET_TRIGGER`: the term is replaced and takes its initial state anew. -/
def effCaptureSetTrigger (_ : Nat) (p : Bytes) (s : State) : State × Option (Nat × Nat × Bytes) :=
  (s.setGroup (u8 p 0) (fun x => { x with terms := Tbl.set x.terms (u8 p 1) { bytes := slice p 1 31, next := if u8 p 2 = 7 then some (u64 p 16) else none, left := u32 p 28 } }), some (0, 0, []))

/-- `CAPTURE_SET_TRIGGER` (0x0511). -/
def opCaptureSetTrigger : Op :=
  { need := fun _ => 40, states := settingStates
    params := fun h s => let p := h.cmd.params; [(0, s.groupOk (u8 p 0))] ++ triggerParams p ++ [(12, timeRule h s (u64 p 32))]
    abort := abortChange, epoch := fun h s => some (s.effectTime (u64 h.cmd.params 32)), effect := effCaptureSetTrigger
    run := fun h s => configRun effCaptureSetTrigger (s.changeEpoch (u64 h.cmd.params 32)) h s }

/-- The effect of `CAPTURE_ENABLE` (R217, R226): a disable completes after the END records. A group whose definition waits for spilled words is not enabled (R204). (log 49: DEDUCED) -/
def effCaptureEnable (ref : Nat) (p : Bytes) (s : State) : State × Option (Nat × Nat × Bytes) :=
  let gs := (bitsOf 16 (u16 p 0)).filter (fun g => (s.group g).isDefined)
  if u8 p 2 = 1 then (gs.foldl (fun (s : State) g => if (s.group g).state = .disabled ∧ (s.group g).waiting.isNone then s.enableGroup g 2 else s) s, some (0, 0, []))
  else
    let on := gs.filter (fun g => (s.group g).state != .disabled)
    let keys := (on.flatMap (fun g => (s.group g).keys g)).filter (fun k => (s.stream k).isOpen)
    (on.foldl (fun (s : State) g => s.haltGroup g 2 .disabled) s).awaitEnds ref keys

/-- `CAPTURE_ENABLE` (0x0512). -/
def opCaptureEnable : Op :=
  { need := fun _ => 16, states := settingStates
    params := fun h s =>
      let p := h.cmd.params
      [(0, (bitsOf 16 (u16 p 0)).all (fun g => (s.group g).isDefined && (u8 p 2 == 0 || (s.group g).waiting.isNone))), (1, u8 p 2 < 2), (2, zeroAt p 3 1), (3, zeroAt p 4 4), (4, timeRule h s (u64 p 8) && !(h.isBroadcast && u64 p 8 == 0))]
    bcast := fun _ => true
    abort := abortChange, epoch := fun h s => some (s.effectTime (u64 h.cmd.params 8)), effect := effCaptureEnable
    run := fun h s => configRun effCaptureEnable (s.changeEpoch (u64 h.cmd.params 8)) h s }

/-- The instant of a forced trigger for a group: the one given, or that of its newest sample (CAPTURE_FORCE). -/
def forceTime (p : Bytes) (x : Group) (now : Nat) : Nat :=
  if u64 p 8 = 0 then 65536 * (match x.newest with | some n => n.2.1 | none => now) else u64 p 8 * 65536 + u16 p 2

/-- Offers a forced trigger to its groups, each at its own instant. -/
def forceGroups (p : Bytes) : List Nat → State → State × List Nat × List Nat × List (Nat × Nat)
  | [], s => (s, [], [], [])
  | g :: r, s =>
    let t := forceTime p (s.group g) s.now
    let (s, v) := s.decideTrigger g 5 4 t {}
    let (s, a, b, c) := forceGroups p r s
    match v with
    | .commit => (s, g :: a, b, c)
    | .ignored => (s, a, g :: b, c)
    | .waits => (s, a, b, (g, t) :: c)

/-- The meaning of `CAPTURE_FORCE` (R234). -/
def runCaptureForce (h : Held) (s : State) : Answer :=
  let p := h.cmd.params
  let (s, a, b, c) := forceGroups p (bitsOf 16 (u16 p 0)) s
  let s := s.runOwn 20
  let b := if s.timedCount < 16 then b else b ++ c.map (·.1)
  let c := if s.timedCount < 16 then c else []
  match c with
  | [] => .done 0 (forceResult a b) s
  | (_, t) :: _ => .accepted [] (s.setTimed (· ++ [{ time := t, source := 5, place := 4, groups := c.map (·.1), done := a, failed := b, ref := some h.serial }]))

/-- `CAPTURE_FORCE` (0x0513). -/
def opCaptureForce : Op :=
  { need := fun _ => 16, states := [.calibrate, .run, .reconfigure, .holdover]
    params := fun h s => let p := h.cmd.params; [(0, (bitsOf 16 (u16 p 0)).all (fun g => (s.group g).isDefined)), (2, zeroAt p 4 4), (3, decide (u64 p 8 ≤ s.now + 10000000000))]
    bcast := fun _ => true
    abort := fun h s => if s.capture.timed.any (·.ref == some h.serial) then some (s.setTimed (·.filter (·.ref != some h.serial))) else none
    run := runCaptureForce }

/-- Held casks of a group that no readout has claimed. -/
def Group.unclaimed (x : Group) : List Cask := x.casks.drop ((x.readouts.map (·.left)).sum)

/-- The checks that the readout and the release share. -/
def readoutParams (h : Held) (s : State) : List (Nat × Bool) :=
  let p := h.cmd.params
  [(0, s.groupOk (u8 p 0) && (s.group (u8 p 0)).holds), (1, zeroAt p 1 1), (2, 1 ≤ u16 p 2)]

/-- `CAPTURE_READOUT` (0x0514): the casks leave by hand-over, and the notice follows the last. -/
def opCaptureReadout : Op :=
  { need := fun _ => 4, states := [.calibrate, .run, .reconfigure, .holdover], params := readoutParams
    run := fun h s =>
      let g := u8 h.cmd.params 0
      let l := (s.group g).unclaimed.take (u16 h.cmd.params 2)
      .accepted [] (s.setGroup g (fun x => { x with readouts := x.readouts ++ [{ ref := h.serial, left := l.length, taken := l.length, first := (l.head?.map (·.serial)).getD 0 }] })) }

/-- `CAPTURE_RELEASE` (0x0515). -/
def opCaptureRelease : Op :=
  { need := fun _ => 4, states := [.calibrate, .run, .reconfigure, .holdover], params := readoutParams
    run := fun h s =>
      let g := u8 h.cmd.params 0
      let x := s.group g
      let n := (x.readouts.map (·.left)).sum
      let l := x.unclaimed.take (u16 h.cmd.params 2)
      .done 0 (takenResult l.length ((l.head?.map (·.serial)).getD 0)) ((s.setGroup g (fun x => { x with casks := x.casks.take n ++ x.casks.drop (n + l.length) })).afterFree g) }

/-- The effect of `CAPTURE_SET_MEASURE`. -/
def effCaptureSetMeasure (_ : Nat) (p : Bytes) (s : State) : State × Option (Nat × Nat × Bytes) :=
  (s.setGroup (u8 p 0) (fun x => { x with measure := slice p 1 15 }), some (0, 0, []))

/-- `CAPTURE_SET_MEASURE` (0x0516). -/
def opCaptureSetMeasure : Op :=
  { need := fun _ => 24, states := settingStates
    params := fun h s =>
      let p := h.cmd.params
      [(0, s.groupOk (u8 p 0)), (1, u8 p 1 < 2), (2, u8 p 2 < 3), (3, u8 p 3 < 2), (4, u8 p 3 == 1 || i32 p 4 == 0), (5, u32 p 8 ≤ 8388607), (6, zeroAt p 12 4), (7, timeRule h s (u64 p 16))]
    abort := abortChange, epoch := fun h s => some (s.effectTime (u64 h.cmd.params 16)), effect := effCaptureSetMeasure
    run := fun h s => configRun effCaptureSetMeasure (s.changeEpoch (u64 h.cmd.params 16)) h s }

/-- `CAPTURE_FREE` (0x0517). -/
def opCaptureFree : Op :=
  { need := fun _ => 4, states := settingStates
    params := fun h s => let p := h.cmd.params; [(0, s.groupOk (u8 p 0) && (s.group (u8 p 0)).idle), (1, zeroAt p 1 3)]
    run := fun h s => .done 0 [] ({ s with capture := { s.capture with groups := Tbl.erase s.capture.groups (u8 h.cmd.params 0) } }) }

/-- The entries of group 0x05 by operation. -/
def captureOps (n : Nat) : Option Op :=
  match n with
  | 0x01 => some opCaptureGet | 0x02 => some opCaptureGetStatus | 0x03 => some opCaptureGetMemory | 0x04 => some opCaptureListHeld
  | 0x10 => some opCaptureDefine | 0x11 => some opCaptureSetTrigger | 0x12 => some opCaptureEnable | 0x13 => some opCaptureForce
  | 0x14 => some opCaptureReadout | 0x15 => some opCaptureRelease | 0x16 => some opCaptureSetMeasure | 0x17 => some opCaptureFree
  | _ => none

end Sys2Proof.Machine
end

