-- ==== Sys2Proof/Machine/Edges.lean ====
section
/-! DEFINITION. Comparators, trip outputs and vernier TDCs (R124 to R130, R260, R261), edge stamps, intervals and frequency (chapter 08), and the meanings of group 0x06 with the comparator commands of group 0x02. -/
namespace Sys2Proof.Machine

open Sys2Proof

/-! ## Comparators and trip outputs -/

/-- The hysteresis H of a code, in threshold steps (R125). -/
def hystSteps (h : Nat) : Int := match h with | 0 => 0 | 1 => 1 | 2 => 2 | _ => 4

/-- The alarm that a comparator enters under R124 at its present input, in sixteenths of a threshold step; a trim shifts both thresholds (R462). -/
def Chan.fresh (c : Chan) (trim : Int) : Alarm :=
  let u := 16 * c.upper + trim
  let l := 16 * c.lower + trim
  match c.mode with
  | 1 => if u < c.input then .above else .none
  | 2 => if c.input < l then .below else .none
  | 3 => if u < c.input then .above else if c.input < l then .below else .none
  | 4 => if l ≤ c.input ∧ c.input ≤ u then .inside else .none
  | _ => .none

/-- The alarm state after the present input is judged, with hysteresis on the way out (R125). -/
def Chan.judge (c : Chan) (trim : Int) : Alarm :=
  let u := 16 * c.upper + trim
  let l := 16 * c.lower + trim
  let h := 16 * hystSteps c.hyst
  match c.alarm with
  | .none => c.fresh trim
  | .above => if c.mode = 3 ∧ c.input < l then .below else if c.input ≤ u - h then .none else .above
  | .below => if c.mode = 3 ∧ u < c.input then .above else if l + h ≤ c.input then .none else .below
  | .inside => if u + h < c.input ∨ c.input < l - h then .none else .inside

/-- The levels of `TRIP[3:0]` (R126, R128): low in RESET and BOOT; a pin disabled, or gated by the duty interlock, by the hub's state (R71) or by the loss of its die, is inactive. -/
def State.tripLevels (s : State) : BitVec 4 :=
  if s.sys.hub = .reset ∨ s.sys.hub = .boot then 0
  else
    let hot := if s.mayIssue ∧ [HubState.ready, .run, .reconfigure, .holdover].contains s.base then s.front.chans.foldl (fun (m : BitVec 4) e => if e.2.alarm ≠ .none ∧ !s.dieLost (dieOf (panOf e.1)) then m ||| e.2.route else m) 0 else 0
    (hot &&& s.front.tripEnable) ^^^ s.front.tripPolarity

/-- Drives the TRIP outputs; the path has no clock (R15). -/
def State.driveTrip (s : State) : State := { s with front := { s.front with tripPins := s.tripLevels } }

/-- A crossing event enters its pan's queue of 16, or is dropped, counted, and leaves the lost flag for the next one (R130). -/
def State.queueCrossing (s : State) (e : Crossing) : State :=
  let p := panOf e.ch
  if !s.queueFull (32 + p) 16 (s.pan p).events.length then (s.notePush (32 + p)).setPan p (fun x => { x with events := x.events ++ [e] })
  else ((s.setPan p (fun x => { x with eventLost := true })).setChan e.ch (fun c => { c with dropped := sat 32 (c.dropped + 1) })).compTerms e true

/-- A time in 2^−40 ns less a number of femtoseconds, rounded to 2^−16 ns with ties to even. -/
def lessFs (c fs : Int) : Nat := (roundEven (c * 1000000 - fs * 1099511627776) 16777216000000).toNat

/-- A crossing starts its TDC, or finds it busy and takes the next GRID clock edge with COARSE (R260, R261). -/
def State.timeCrossing (s : State) (ch : Nat) (entry : Bool) : State :=
  let c := s.chan ch
  let ref := s.time.counter + s.time.inc
  let timed : Crossing := { ch, entry, time := ref, coarse := false, lost := false, came := s.now, era := s.edges.era }
  let coarse := { timed with time := lessFs ref (1000 * s.calI16 (chanRec ch + 26)), coarse := true }
  if c.tdcBusy ≤ s.now then s.setChan ch (fun c => { c with tdcBusy := s.now + 80, tdcPending := [timed] })
  else if c.tdcPending.isEmpty then s.queueCrossing coarse
  else s.setChan ch (fun c => { c with tdcPending := c.tdcPending ++ [coarse] })

/-- A comparator is judged anew: an entry to or exit from alarm is counted and timed (R129, R130). Under foreground interruption it stays out of alarm (R471). -/
def State.judgeChan (s : State) (ch : Nat) (new : Alarm) : State :=
  let new := if s.interrupted (panOf ch) then .none else new
  let old := (s.chan ch).alarm
  let s := s.setChan ch (fun c => { c with alarm := new, entries := if old = .none ∧ new ≠ .none then sat 32 (c.entries + 1) else c.entries })
  if decide (old = .none) ≠ decide (new = .none) then s.timeCrossing ch (decide (new ≠ .none)) else s

/-- The input of a comparator moves to a value, in sixteenths of a threshold step (COMPARATOR_CROSSING). (log 38: DESIGN CHOICE) -/
def State.compInput (s : State) (ch : Nat) (input : Int) : State :=
  if ch < 256 ∧ s.sys.hub ≠ .reset ∧ s.sys.hub ≠ .boot ∧ !s.dieLost (dieOf (panOf ch)) then
    let s := s.setChan ch (fun c => { c with input })
    s.judgeChan ch ((s.chan ch).judge (s.compTrim ch))
  else s

/-- A TDC conversion of k beats ends (R260): its event and the coarse ones behind it enter the queue. -/
def State.tdcEnd (s : State) (ch k : Nat) : State :=
  match (s.chan ch).tdcPending with
  | [] => s
  | e :: r =>
    let k := max 1 (min 64 k)
    let t := lessFs e.time ((k * s.calU16 (chanRec ch + 24) : Nat) + 1000 * s.calI16 (chanRec ch + 26))
    let s := s.setChan ch (fun c => { c with tdcPending := [] })
    ({ e with time := t } :: r).foldl (fun (s : State) e => s.queueCrossing e) s

/-! ## Measurement units: intervals (R250 to R254, R258, R259) -/

/-- An EDGE input. -/
def State.edge (s : State) (i : Nat) : Edge := Tbl.get {} s.edges.inputs i

/-- Changes an EDGE input. -/
def State.setEdge (s : State) (i : Nat) (f : Edge → Edge) : State := { s with edges := { s.edges with inputs := Tbl.modify {} s.edges.inputs i f } }

/-- A measurement unit. -/
def State.unit (s : State) (m : Nat) : Unit8 := Tbl.get {} s.edges.units m

/-- Changes a measurement unit. -/
def State.setUnit (s : State) (m : Nat) (f : Unit8 → Unit8) : State := { s with edges := { s.edges with units := Tbl.modify {} s.edges.units m f } }

/-- The first source index of an irregular stream. -/
def irregular : Nat := 0xFFFFFFFFFFFFFFFF

/-- The 32 bytes of the table "Edge measurement entry". -/
def measEntry (m mode flags count : Nat) (value : Int) (time rms : Nat) : Bytes :=
  le 1 m ++ le 1 mode ++ le 2 flags ++ le 4 count ++ leInt 8 value ++ stampBytes time ++ zeros 2 ++ le 4 rms

/-- A unit reports an entry on its MEASURE stream (R258). -/
def State.report (s : State) (m : Nat) (time : Nat) (entry : Bytes) : State :=
  (s.setUnit m (fun u => { u with last := entry })).addUnit (streamKey 5 (256 + m)) irregular time 0 0 none entry

/-- Whether a unit repeats. -/
def Unit8.continuous (u : Unit8) : Bool := u8 u.setting 1 == 1

/-- Whether an edge comes after the unit's arming: at an instant, by when it came; at an edge that it used, by its time (R250, R253). -/
def Unit8.after (u : Unit8) (e : Mark) : Bool :=
  if e.era = u.armedEra then (if u.armedBy then decide (u.armedAt < e.time) else decide (u.armedAt ≤ e.came * 65536)) else decide (u.armedEra < e.era)

/-- Whether an edge was lost since the unit's arming (R252): at an instant, by when it came; at an edge that it used, by the stamps of the two. -/
def Unit8.lostSince (u : Unit8) (l : Option Loss) : Bool :=
  l.any (fun l => if l.era = u.armedEra then (if u.armedBy then decide (u.armedAt < l.time) else decide (u.armedAt ≤ l.came * 65536)) else decide (u.armedEra < l.era))

/-- The unit without anything measured. -/
def Unit8.cleared (u : Unit8) : Unit8 := { u with start := none, stop := none, early := [], lossStart := none, lossStop := none, stamps := [], losses := [], steps := [] }

/-- The unit takes the first edge that came early for the side it now lacks (R250, R253). -/
def Unit8.takeEarly (u : Unit8) : Unit8 :=
  match u.early.filter (fun e => u.after e.2) with
  | [] => { u with early := [] }
  | (true, e) :: r => { u with start := some e, early := r }
  | (false, e) :: r => { u with stop := some e, early := r }

/-- A unit falls idle, or arms again at an instant (R254). (log 54: DEDUCED) -/
def Unit8.again (u : Unit8) (at' era : Nat) : Unit8 :=
  if u.continuous then { u with armedAt := at', armedEra := era, armedBy := false, start := none, stop := none }.takeEarly
  else { u.cleared with active := false, idle := true }

/-- Whether the start and stop of a unit name the same source and polarity (R250). -/
def Unit8.tiles (u : Unit8) : Bool := u16 u.setting 4 == u16 u.setting 6 && u8 u.setting 2 == u8 u.setting 3

/-- A unit falls idle, or arms again at the later of the two edges it used; where start and stop are one, the stop is the next start (R253). (log 54: DEDUCED) -/
def Unit8.rearm (u : Unit8) (a b : Mark) : Unit8 :=
  let l := if a.era < b.era ∨ (a.era = b.era ∧ a.time ≤ b.time) then b else a
  let v := { u with armedAt := l.time, armedEra := l.era, armedBy := true }
  if !u.continuous then { u.cleared with active := false, idle := true }
  else if u.tiles then { v.cleared with start := some { b with loss := none } }
  else { v with start := none, stop := none }.takeEarly

/-- A unit that holds both edges reports t_stop − t_start (R250 to R253). -/
def State.intervalResult (s : State) (m : Nat) : State :=
  let u := s.unit m
  match u.start, u.stop with
  | some a, some b =>
    let v : Int := (b.time : Int) - a.time
    let lost := a.lost || b.lost || u.lostSince a.loss || u.lostSince b.loss
    let fl := (if v < 0 then 1 else 0) + (if v.natAbs * 1000 < 196608 then 2 else 0) + (if lost then 4 else 0) + (if a.coarse || b.coarse then 64 else 0) + (if a.era = b.era then 0 else 128)
    let t := min a.time b.time
    (s.report m t (measEntry m 1 fl 2 v t 0)).setUnit m (fun u => u.rearm a b)
  | _, _ => s

/-- An edge of a source reaches an interval unit with its polarity (0 rising or entry): it is the start or the stop that the unit lacks, or waits for the unit's next arming (R250, R253). -/
def State.intervalEdge (s : State) (m source pol : Nat) (e : Mark) : State :=
  let u := s.unit m
  let isStart := u16 u.setting 4 == source && u8 u.setting 2 == pol
  let isStop := u16 u.setting 6 == source && u8 u.setting 3 == pol
  if u.mode ≠ 1 ∨ !u.active ∨ !u.after e then s
  else if isStart && u.start.isNone then (s.setUnit m (fun u => { u with start := some { e with loss := u.lossStart } })).intervalResult m
  else if isStop && u.stop.isNone then (s.setUnit m (fun u => { u with stop := some { e with loss := u.lossStop } })).intervalResult m
  else if isStart then s.setUnit m (fun u => { u with early := u.early ++ [(true, { e with loss := u.lossStart })] })
  else if isStop then s.setUnit m (fun u => { u with early := u.early ++ [(false, { e with loss := u.lossStop })] })
  else s

/-- An interval unit notes the losses that a stamp of an input tells of (R252). (log 53: DEDUCED) -/
def Unit8.noteLoss (u : Unit8) (input : Nat) (st : Stamp) : Unit8 :=
  let of' := fun (pol : Nat) => if pol = 0 then st.lostRise else st.lostFall
  if u.mode ≠ 1 then u
  else
    { u with lossStart := if u16 u.setting 4 = input then (of' (u8 u.setting 2)).or u.lossStart else u.lossStart
             lossStop := if u16 u.setting 6 = input then (of' (u8 u.setting 3)).or u.lossStop else u.lossStop }

/-- An interval's timeout passes (R254): value 0 and the count of edges taken. -/
def State.intervalTimeout (s : State) (m : Nat) : State :=
  let u := s.unit m
  let us := u32 u.setting 8
  if u.mode ≠ 1 ∨ !u.active ∨ us = 0 ∨ s.now * 65536 < u.armedAt + us * 65536000 then s
  else
    let held := u.start.toList ++ u.stop.toList
    let t := match held with | e :: _ => e.time | [] => u.armedAt
    let lost := held.any (·.lost) || u.lostSince (match u.start with | some e => e.loss | none => u.lossStart) || u.lostSince (match u.stop with | some e => e.loss | none => u.lossStop)
    let fl := 8 + (if lost then 4 else 0) + (if held.any (·.coarse) then 64 else 0)
    (s.report m t (measEntry m 1 fl held.length 0 t 0)).setUnit m (fun u => u.again (s.now * 65536) s.edges.era)

/-! ## Measurement units: frequency (R255 to R257) -/

/-- Rounds the square root of N / D to the nearest integer, ties to even, held to 32 bits. -/
def sqrtRound (n d : Nat) : Nat :=
  let q := isqrt (min (4 * n / d) (2 ^ 70))
  let r := if q % 2 = 1 ∧ q * q * d = 4 * n then (if (q / 2) % 2 = 0 then q / 2 else q / 2 + 1) else (q + 1) / 2
  sat 32 r

/-- The regression of a gate (R256): frequency in 2^−32 Hz and residual rms in 2^−16 ns, from the stamps and the prescale count. -/
def regression (ts : List Nat) (p : Nat) : Nat × Nat :=
  let n := ts.length
  let us : List Int := ts.map (fun (t : Nat) => (t : Int) - (ts.headD 0 : Nat))
  let su := us.foldl (· + ·) 0
  let sq := (us.map (fun u => u * u)).foldl (· + ·) 0
  let s1 := (us.zipIdx.map (fun e => (e.2 : Int) * e.1)).foldl (· + ·) 0
  let a : Int := 2 * s1 - ((n - 1 : Nat) : Int) * su
  let b : Nat := n * (n * n - 1)
  let f := roundEven ((p * 1000000000 * 2 ^ 48 * b : Nat) : Int) (6 * a.natAbs)
  let c : Int := n * sq - su * su
  let num := c * b - 3 * a * a * n
  (f.toNat, sqrtRound num.toNat (n * b * (n - 2)))

/-- Gate k of a unit in 2^−16 ns: its opening and its end (R255). -/
def Unit8.gateAt (u : Unit8) : Nat × Nat :=
  let g := u64 u.setting 8
  ((u.tOpen + u.gate * g) * 65536, (u.tOpen + (u.gate + 1) * g) * 65536)

/-- A gate ends: its frequency is computed and reported (R255 to R257). (log 53: DEDUCED) -/
def State.gateEnd (s : State) (m : Nat) : State :=
  let u := s.unit m
  let (lo, hi) := u.gateAt
  if u.mode ≠ 2 ∨ !u.active ∨ s.now * 65536 < hi then s
  else
    let all := u.stamps.filter (fun t => decide (lo ≤ t) && decide (t < hi))
    let ts := all.take 16777216
    let few := ts.length < 3
    let (f, rms) := if few then (0, 0) else regression ts (u16 (s.edge (u16 u.setting 4)).setting 3)
    let inGate := fun (t : Nat) => decide (lo ≤ t) && decide (t < hi)
    let fl := (if u.losses.any inGate then 4 else 0) + (if few then 16 else 0) + (if ts.length < all.length then 32 else 0) + (if u.steps.any (fun e => decide (e.1 * 65536 < hi) && decide (lo ≤ e.2 * 65536)) then 128 else 0)
    let s := s.report m lo (measEntry m 2 fl ts.length f lo rms)
    let later := fun (t : Nat) => decide (hi ≤ t)
    s.setUnit m (fun u => if u.continuous then { u with gate := u.gate + 1, stamps := u.stamps.filter (fun t => decide (hi ≤ t)), losses := u.losses.filter later, steps := u.steps.filter (fun e => later (e.2 * 65536)) } else { u.cleared with active := false, idle := true })

/-- A frequency unit notes that its input lost an edge whose stamp would have been at a time in 2^−16 ns (R257). (log 53: DEDUCED) -/
def State.gateLoss (s : State) (input time : Nat) : State :=
  { s with edges := { s.edges with units := s.edges.units.map (fun e => if e.2.mode = 2 ∧ e.2.active ∧ u16 e.2.setting 4 = input then (e.1, { e.2 with losses := e.2.losses ++ [time] }) else e) } }

/-- Fabric time has stepped from a time to the present one: a new era begins, and the frequency units note the stretch that the step crossed (R257, R259). -/
def State.stepUnits (s : State) (before : Nat) : State :=
  let span := (min before s.now, max before s.now)
  { s with edges := { s.edges with era := s.edges.era + 1, units := s.edges.units.map (fun e => (e.1, if e.2.mode = 2 then { e.2 with steps := e.2.steps ++ [span] } else e.2)) } }

/-! ## EDGE inputs (R235 to R249) -/

/-- The standard of an input; 0 is off. -/
def Edge.standard (e : Edge) : Nat := u8 e.setting 0
/-- The prescale edge: 0 rising, 1 falling. -/
def Edge.presEdge (e : Edge) : Nat := u8 e.setting 1
/-- P. -/
def Edge.count (e : Edge) : Nat := u16 e.setting 3
/-- o_user in 2^−16 ns. -/
def Edge.user (e : Edge) : Int := i32 e.setting 7

/-- An interpolator of an input. -/
def Edge.interp (e : Edge) (b : Bool) : Interp := if b then e.interpB else e.interpA

/-- Changes an interpolator of an input. -/
def Edge.setInterp (e : Edge) (b : Bool) (f : Interp → Interp) : Edge := if b then { e with interpB := f e.interpB } else { e with interpA := f e.interpA }

/-- Whether an interpolator is in service and out of its dead time (R241). -/
def Interp.able (x : Interp) (now : Nat) : Bool := x.inService && x.c2.isNone && decide (x.busyTo ≤ now)

/-- Whether an interpolator is free: it neither measures nor repeats its pair (R243). -/
def Interp.ready (x : Interp) (now : Nat) : Bool := x.able now && x.renewal.isNone

/-- What a lost edge leaves behind. -/
def Flight.loss (f : Flight) : Loss := { era := f.era, came := f.came, time := f.time.getD (65536 * f.came) }

/-- An edge is lost (R242, R244). -/
def Edge.lose (e : Edge) (f : Flight) : Edge :=
  { e with lostNow := sat 32 (e.lostNow + 1), lostRise := if f.rising then some f.loss else e.lostRise, lostFall := if f.rising then e.lostFall else some f.loss }

/-- The offsets o_cal + o_user of an input's stamps in 2^−16 ns (R239). -/
def State.stampOffset (s : State) (i : Nat) : Int := signed 32 (s.calU32 (edgeRec i)) + (s.edge i).user

/-- The stamp that an edge would have carried which no interpolator took (R239, R242), in 2^−16 ns: the end of the ns in which it came, less the input's offsets. -/
def State.lostTime (s : State) (i : Nat) : Nat := ((65536 * s.now + 65535 : Nat) - s.stampOffset i).toNat

/-- Moves the oldest edges of an input on, in their order (R242, R244, R246): a stamp enters the queue with the number of edges lost before it, or is lost to a full queue; an edge that is still being measured holds those behind it. -/
def State.settleLine (s : State) (i : Nat) : (fuel : Nat) → State
  | 0 => s
  | fuel + 1 =>
    let e := s.edge i
    match e.line with
    | [] => s
    | f :: r =>
      let e := { e with line := r }
      match f.taker, f.time with
      | none, _ => (s.setEdge i (fun _ => e.lose f)).settleLine i fuel
      | some _, none => s
      | some b, some t =>
        if s.queueFull (98 + i) 16 e.queue.length then (((s.setEdge i (fun _ => { e.lose f with lostFull := sat 32 (e.lostFull + 1) })).gateLoss i t).settleLine i fuel)
        else
          let st : Stamp := { time := t, rising := f.rising, byB := b, lost := e.lostNow, came := f.came, era := f.era, lostRise := e.lostRise, lostFall := e.lostFall }
          (((s.notePush (98 + i)).setEdge i (fun _ => { e with queue := e.queue ++ [st], stamps := sat 32 (e.stamps + 1), lostNow := 0, lostRise := none, lostFall := none })).settleLine i fuel)

/-- The interpolator that takes an edge (R241, R243): a free one, the one that did not take the previous edge first; otherwise one that repeats its pair, which abandons the repeat. -/
def Edge.pick (e : Edge) (now : Nat) : Option Bool :=
  let order := [!e.lastB, e.lastB]
  (order.find? (fun b => (e.interp b).ready now)).or (order.find? (fun b => (e.interp b).able now))

/-- An edge on an input (R237, R241, R242): the prescaler passes it or not, and a free interpolator takes it. (log 53: DEDUCED) -/
def State.edgeArrives (s : State) (i : Nat) (rising : Bool) : State :=
  let e := s.edge i
  if 16 ≤ i ∨ e.standard = 0 ∨ !s.running then s
  else
    let counts := e.count ≤ 1 ∨ (rising ↔ e.presEdge = 0)
    if !decide counts then s
    else if e.count > 1 ∧ e.prescale + 1 < e.count then s.setEdge i (fun e => { e with prescale := e.prescale + 1 })
    else
      let taker := e.pick s.now
      let f : Flight := { rising, came := s.now, era := s.edges.era, taker, time := if taker.isNone then some (s.lostTime i) else none }
      let e := { e with prescale := 0, passed := sat 32 (e.passed + 1), line := e.line ++ [f] }
      match taker with
      | none => ((s.setEdge i (fun _ => { e with lostDead := sat 32 (e.lostDead + 1) })).gateLoss i (s.lostTime i)).settleLine i e.line.length
      | some b => s.setEdge i (fun _ => { e.setInterp b (fun x => { x with busyTo := s.now + 20, c2 := some (s.time.counter + 2 * s.time.inc, s.time.inc, rising), renewal := none }) with lastB := b })

/-- A calibration pair is measured (R238): accepted within its limits, otherwise rejected; 16 rejections in a row end the interpolator's service. (log 54: DEDUCED) -/
def State.takePair (s : State) (i : Nat) (b : Bool) (a1 a2 : Nat) : State :=
  let ok := 1700 ≤ a1 ∧ a1 ≤ 2300 ∧ a1 + 1800 ≤ a2 ∧ a2 ≤ a1 + 2200
  if ok then s.setEdge i (fun e => e.setInterp b (fun x => { x with a1, a2, rejects := 0, calAt := s.now }))
  else
    let n := ((s.edge i).interp b).rejects + 1
    let s := s.setEdge i (fun e => { e.setInterp b (fun x => { x with rejects := n, calAt := s.now, inService := x.inService && decide (n < 16) }) with rejected := sat 32 (e.rejected + 1) })
    if n = 16 then s.logFault 0x0015 i (if b then 1 else 0) 0 else s

/-- The stamp of an edge (R239), in 2^−16 ns with ties to even. (log 53: DEDUCED) -/
def stampTime (c2 inc : Nat) (code a1 a2 : Nat) (off : Int) : Nat :=
  let w : Int := (a2 : Int) - a1
  (roundEven ((c2 : Int) * w - inc * w - ((code : Int) - a1) * inc - off * 16777216 * w) (16777216 * w.toNat)).toNat

/-- An interpolator has digitised its edge to a code, and measured the pair for its next measurement (R238, R239, R244). -/
def State.stampEnd (s : State) (i : Nat) (b : Bool) (code a1 a2 : Nat) : State :=
  let e := s.edge i
  let x := e.interp b
  match x.c2 with
  | none => s
  | some (c2, inc, _) =>
    let t := stampTime c2 inc code x.a1 x.a2 (s.stampOffset i)
    let line := e.line.map (fun f => if f.taker = some b ∧ f.time.isNone then { f with time := some t } else f)
    ((s.setEdge i (fun e => { e.setInterp b (fun x => { x with c2 := none }) with line })).settleLine i line.length).takePair i b a1 a2

/-- An idle interpolator begins to repeat its calibration pair, which it does every 1 µs while the other is free (R243). The repeat takes no longer than the dead time that covers such a pair (R241). (log 110: DESIGN CHOICE) -/
def State.pairRepeat (s : State) (i : Nat) (b : Bool) (a1 a2 : Nat) : State :=
  let e := s.edge i
  let other := e.interp (!b)
  if 16 ≤ i ∨ e.standard = 0 ∨ !s.running ∨ !(e.interp b).ready s.now ∨ other.c2.isSome ∨ s.now < other.busyTo ∨ other.renewal.isSome ∨ s.now < (e.interp b).calAt + 1000 then s
  else s.setEdge i (fun e => e.setInterp b (fun x => { x with renewal := some (s.now + min 20 Config.repeatTime, a1, a2), calAt := s.now }))

/-- A repeat of an interpolator that has ended by now: its pair is judged (R238, R243). -/
def State.endRenewal (s : State) (i : Nat) (b : Bool) : State :=
  match ((s.edge i).interp b).renewal with
  | some (t, a1, a2) => if t ≤ s.now then (s.setEdge i (fun e => e.setInterp b (fun x => { x with renewal := none }))).takePair i b a1 a2 else s
  | none => s

/-- The repeats that have ended by now. -/
def State.endRenewals (s : State) : State := s.edges.inputs.foldl (fun (s : State) e => (s.endRenewal e.1 false).endRenewal e.1 true) s

/-- The 16 bytes of the table "Stamp entry". -/
def stampEntry (st : Stamp) : Bytes :=
  stampBytes st.time ++ le 1 ((if st.rising then 1 else 0) + (if st.byB then 2 else 0) + (if st.lost = 0 then 0 else 4)) ++ [0] ++ le 4 st.lost

/-- A stamp of an input serves its stream, every unit that names it and the EDGE terms (R245 to R248). -/
def State.serveStamp (s : State) (i : Nat) (st : Stamp) : State :=
  let e := s.edge i
  let pol := if st.rising then 0 else 1
  let s := if u8 e.stream 0 = 1 ∧ (u8 e.stream 1).testBit pol then s.addUnit (streamKey 4 i) irregular st.time 0 0 none (stampEntry st) else s
  let s := (List.range 8).foldl (fun (s : State) m =>
    let s := s.setUnit m (fun u => u.noteLoss i st)
    let u := s.unit m
    if u.mode = 2 then (if u.active ∧ u16 u.setting 4 = i ∧ u8 u.setting 2 = pol ∧ u.tOpen * 65536 ≤ st.time then s.setUnit m (fun u => { u with stamps := u.stamps ++ [st.time] }) else s)
    else s.intervalEdge m i pol { time := st.time, came := st.came, era := st.era }) s
  (s.edgeTerms i st.time st.rising).runOwn 20

/-- The oldest stamp of an input leaves its queue for MEM. -/
def State.passStamp (s : State) (i : Nat) : State :=
  match (s.edge i).queue with
  | [] => s
  | st :: r => ((s.notePop (98 + i)).setEdge i (fun e => { e with queue := r })).serveStamp i st

/-- STAMP_ARRIVAL_MEM: the next stamp of an input reaches MEM. -/
def State.stampArrives (s : State) (i : Nat) : State := if s.queueEmpty (98 + i) (s.edge i).queue.length then s else s.passStamp i

/-- A crossing event in the GRID island serves the interval units and the COMPARATOR terms. -/
def State.serveCrossing (s : State) (e : Crossing) : State :=
  let s := (List.range 8).foldl (fun (s : State) m => s.intervalEdge m (256 + e.ch) (if e.entry then 0 else 1) { time := e.time, came := e.came, era := e.era, coarse := e.coarse, lost := e.lost }) s
  (s.compTerms e false).runOwn 20

/-- The oldest crossing event of a pan leaves its queue, with the lost flag where events were dropped since the one before (R130). -/
def State.passCrossing (s : State) (p : Nat) : State :=
  match (s.pan p).events with
  | [] => s
  | e :: r => ((s.notePop (32 + p)).setPan p (fun x => { x with events := r, eventLost := false })).serveCrossing { e with lost := (s.pan p).eventLost }

/-- COMPARATOR_EVENT_DELIVERY: the next crossing event of a pan reaches the GRID island (R130). -/
def State.crossingArrives (s : State) (p : Nat) : State := if s.queueEmpty (32 + p) (s.pan p).events.length then s else s.passCrossing p

/-! ## Starting and ending streams and units (R264, R265) -/

/-- Opens an input's STAMP stream where it is on and the hub samples. -/
def State.startStamps (s : State) (i reason : Nat) : State :=
  let e := s.edge i
  if !s.running ∨ u8 e.stream 0 = 0 then s
  else
    s.openStream (streamKey 4 i) reason { index := irregular, first := s.now, epoch := s.now } 256 (u16 e.stream 3)

/-- Starts or re-arms a unit at the present epoch, where it is set and the hub samples. -/
def State.startUnit (s : State) (m reason : Nat) : State :=
  let u := s.unit m
  if !s.running ∨ u.mode = 0 then s
  else
    let key := streamKey 5 (256 + m)
    let s := s.openStream key reason { index := irregular, first := s.now, epoch := s.now } 64 100
    let o := if u64 u.setting 16 = 0 ∨ u.mode = 1 then s.now else u64 u.setting 16
    let g := u64 u.setting 8
    s.setUnit m (fun u => { u.cleared with active := true, idle := false, armedAt := s.now * 65536, armedEra := s.edges.era, armedBy := false, tOpen := o, gate := if u.continuous ∧ o < s.now ∧ g ≠ 0 then (s.now - o + g - 1) / g else 0 })

/-- A unit stops: its partial measurement is discarded and its stream ends. -/
def State.stopUnit (s : State) (m reason : Nat) : State :=
  (s.setUnit m (fun u => { u.cleared with active := false })).endStream (streamKey 5 (256 + m)) reason s.now

/-- Stamp streams and units start with the hub's run (R264); no edge of the run before is still on its way. -/
def State.edgeStart (s : State) (reason : Nat) : State :=
  let still := fun (x : Interp) => { x with c2 := none, renewal := none }
  let s := { s with edges := { s.edges with inputs := s.edges.inputs.map (fun e => (e.1, { e.2 with line := [], queue := [], interpA := still e.2.interpA, interpB := still e.2.interpB })) } }
  let s := (List.range 16).foldl (fun (s : State) i => s.startStamps i reason) s
  (List.range 8).foldl (fun (s : State) m => if (s.unit m).active then s else s.startUnit m reason) s

/-- Stamp streams and units end with it. -/
def State.edgeStop (s : State) (reason : Nat) : State :=
  let s := (List.range 16).foldl (fun (s : State) i => s.endStream (streamKey 4 i) reason s.now) s
  (List.range 8).foldl (fun (s : State) m => s.stopUnit m reason) s

/-! ## Meanings of group 0x06 -/

/-- Whether the stream limit leaves room for one more (R266, R309). -/
def State.streamRoom (s : State) : Option (Nat × Nat) := if 8192 < s.openStreams + 1 then some (stNoResource, 9) else none

/-- The setting an input will have at time t. -/
def State.edgeSettingAt (s : State) (i t : Nat) : Bytes :=
  (s.cmds.changes.filter (fun c => c.opcode == 0x0610 && decide (c.epoch ≤ t) && (u8 c.params 0 == i || u8 c.params 0 == 0xFF))).foldl (fun _ c => slice c.params 1 15) (s.edge i).setting

/-- `EDGE_GET_CONFIG` (0x0601). -/
def opEdgeGetConfig : Op :=
  { need := fun _ => 4, states := allStates
    params := fun h _ => [(0, u8 h.cmd.params 0 < 16), (1, zeroAt h.cmd.params 1 3)]
    run := fun h s => let e := s.edge (u8 h.cmd.params 0); .done 0 (e.setting ++ e.stream) s }

/-- `EDGE_GET_STATUS` (0x0602). -/
def opEdgeGetStatus : Op :=
  { need := fun _ => 4, states := allStates
    params := fun h _ => [(0, u8 h.cmd.params 0 < 16), (2, zeroAt h.cmd.params 2 2)]
    run := fun h s =>
      let i := u8 h.cmd.params 0
      let e := s.edge i
      let r := le 4 e.passed ++ le 4 e.stamps ++ le 4 e.lostDead ++ le 4 e.lostFull ++ le 4 e.rejected ++ le 2 e.interpA.a1 ++ le 2 e.interpA.a2 ++ le 2 e.interpB.a1 ++ le 2 e.interpB.a2 ++ le 1 ((if e.interpA.inService then 1 else 0) + (if e.interpB.inService then 2 else 0)) ++ zeros 3
      .done 0 r (if u8 h.cmd.params 1 = 1 then s.setEdge i (fun e => { e with passed := 0, stamps := 0, lostDead := 0, lostFull := 0, rejected := 0 }) else s) }

/-- `MEAS_GET` (0x0603). -/
def opMeasGet : Op :=
  { need := fun _ => 4, states := allStates
    params := fun h _ => [(0, u8 h.cmd.params 0 < 8), (1, zeroAt h.cmd.params 1 3)]
    run := fun h s =>
      let u := s.unit (u8 h.cmd.params 0)
      .done 0 (le 1 (if u.mode = 0 then 0 else if u.idle then 2 else 1) ++ zeros 3 ++ (if u.mode = 0 then zeros 24 else (u.setting ++ zeros 24).take 24) ++ (u.last ++ zeros 32).take 32) s }

/-- The effect of `EDGE_SET_INPUT` (R265): the prescaler re-arms, and so does every unit that names the input, an idle one too. -/
def effEdgeSetInput (_ : Nat) (p : Bytes) (s : State) : State × Option (Nat × Nat × Bytes) :=
  let is := if u8 p 0 = 0xFF then List.range 16 else [u8 p 0]
  let s := is.foldl (fun (s : State) i => s.setEdge i (fun e => { e with setting := slice p 1 15, prescale := 0 })) s
  let names := fun (u : Unit8) => is.contains (u16 u.setting 4) || (u.mode == 1 && is.contains (u16 u.setting 6))
  ((List.range 8).foldl (fun (s : State) m => if (s.unit m).mode ≠ 0 ∧ names (s.unit m) then s.startUnit m 2 else s) s, some (0, 0, []))

/-- `EDGE_SET_INPUT` (0x0610). -/
def opEdgeSetInput : Op :=
  { need := fun _ => 24, states := settingStates
    params := fun h s =>
      let p := h.cmd.params
      [(0, u8 p 0 < 16 || u8 p 0 == 0xFF), (1, u8 p 1 < 4), (2, u8 p 2 < 2), (3, zeroAt p 3 1), (4, 1 ≤ u16 p 4 && u16 p 4 ≤ 256), (5, zeroAt p 6 2), (7, zeroAt p 12 4), (8, timeRule h s (u64 p 16))]
    abort := abortChange, epoch := fun h s => some (s.effectTime (u64 h.cmd.params 16)), effect := effEdgeSetInput
    run := fun h s => configRun effEdgeSetInput (s.changeEpoch (u64 h.cmd.params 16)) h s }

/-- The effect of `EDGE_SET_STREAM`: a stream goes on, off, or takes its new setting. -/
def effEdgeSetStream (_ : Nat) (p : Bytes) (s : State) : State × Option (Nat × Nat × Bytes) :=
  let i := u8 p 0
  let s := s.setEdge i (fun e => { e with stream := slice p 1 7 })
  (if u8 p 1 = 1 then s.startStamps i 2 else s.endStream (streamKey 4 i) 2 s.now, some (0, 0, []))

/-- `EDGE_SET_STREAM` (0x0611). -/
def opEdgeSetStream : Op :=
  { need := fun _ => 16, states := settingStates
    params := fun h s =>
      let p := h.cmd.params
      let st := s.edgeSettingAt (u8 p 0) (s.effectTime (u64 p 8))
      let on := u8 p 1 == 1
      [(0, u8 p 0 < 16 && (!on || u8 st 0 != 0)), (1, u8 p 1 < 2), (2, u8 p 2 < 4 && (!on || (u8 p 2 != 0 && (u16 st 3 ≤ 1 || (u8 p 2).testBit (u8 st 1))))), (3, zeroAt p 3 1), (4, 1 ≤ u16 p 4 && u16 p 4 ≤ 1000), (5, zeroAt p 6 2), (6, timeRule h s (u64 p 8))]
    budget := fun h s => if u8 h.cmd.params 1 = 1 ∧ !(s.stream (streamKey 4 (u8 h.cmd.params 0))).isOpen then s.streamRoom else none
    abort := abortChange, epoch := fun h s => some (s.effectTime (u64 h.cmd.params 8)), effect := effEdgeSetStream
    run := fun h s => configRun effEdgeSetStream (s.changeEpoch (u64 h.cmd.params 8)) h s }

/-- A unit takes a new setting: what it measured so far is discarded. -/
def State.setMeas (s : State) (mode : Nat) (p : Bytes) : State :=
  let m := u8 p 0
  let set := if mode = 1 then p.take 16 ++ zeros 8 else p.take 24
  (s.setUnit m (fun u => { u with mode, setting := set, active := false, idle := false })).startUnit m 2

/-- The effect of `MEAS_SET_INTERVAL`. -/
def effMeasSetInterval (_ : Nat) (p : Bytes) (s : State) : State × Option (Nat × Nat × Bytes) := (s.setMeas 1 p, some (0, 0, []))

/-- The effect of `MEAS_SET_FREQUENCY`. -/
def effMeasSetFrequency (_ : Nat) (p : Bytes) (s : State) : State × Option (Nat × Nat × Bytes) := (s.setMeas 2 p, some (0, 0, []))

/-- Whether a source may serve a unit: an input whose standard is on, or a comparator (R266). -/
def State.sourceOk (s : State) (src t : Nat) : Bool := if src < 16 then u8 (s.edgeSettingAt src t) 0 != 0 else 256 ≤ src && src < 512

/-- `MEAS_SET_INTERVAL` (0x0612). -/
def opMeasSetInterval : Op :=
  { need := fun _ => 24, states := settingStates
    params := fun h s =>
      let p := h.cmd.params
      let t := s.effectTime (u64 p 16)
      [(0, u8 p 0 < 8), (1, u8 p 1 < 2), (2, u8 p 2 < 2), (3, u8 p 3 < 2), (4, s.sourceOk (u16 p 4) t), (5, s.sourceOk (u16 p 6) t), (6, u32 p 8 ≤ 10000000), (7, zeroAt p 12 4), (8, timeRule h s (u64 p 16))]
    budget := fun h s => if !(s.stream (streamKey 5 (256 + u8 h.cmd.params 0))).isOpen then s.streamRoom else none
    abort := abortChange, epoch := fun h s => some (s.effectTime (u64 h.cmd.params 16)), effect := effMeasSetInterval
    run := fun h s => configRun effMeasSetInterval (s.changeEpoch (u64 h.cmd.params 16)) h s }

/-- `MEAS_SET_FREQUENCY` (0x0613). -/
def opMeasSetFrequency : Op :=
  { need := fun _ => 32, states := settingStates
    params := fun h s =>
      let p := h.cmd.params
      let t := s.effectTime (u64 p 24)
      let st := s.edgeSettingAt (u16 p 4) t
      let o := u64 p 16
      [(0, u8 p 0 < 8), (1, u8 p 1 < 2), (2, u8 p 2 < 2 && (u16 p 4 ≥ 16 || u16 st 3 ≤ 1 || u8 p 2 == u8 st 1)), (3, zeroAt p 3 1), (4, u16 p 4 < 16 && u8 st 0 != 0), (5, zeroAt p 6 2), (6, 1000 ≤ u64 p 8 && u64 p 8 ≤ 10000000000), (7, o == 0 || (t ≤ o && o ≤ t + 10000000000)), (8, timeRule h s (u64 p 24))]
    budget := fun h s => if !(s.stream (streamKey 5 (256 + u8 h.cmd.params 0))).isOpen then s.streamRoom else none
    abort := abortChange, epoch := fun h s => some (s.effectTime (u64 h.cmd.params 24)), effect := effMeasSetFrequency
    run := fun h s => configRun effMeasSetFrequency (s.changeEpoch (u64 h.cmd.params 24)) h s }

/-- The effect of `MEAS_OFF`. -/
def effMeasOff (_ : Nat) (p : Bytes) (s : State) : State × Option (Nat × Nat × Bytes) :=
  ((bitsOf 8 (u8 p 0)).foldl (fun (s : State) m => if (s.unit m).mode = 0 then s else (s.stopUnit m 2).setUnit m (fun _ => {})) s, some (0, 0, []))

/-- `MEAS_OFF` (0x0614). -/
def opMeasOff : Op :=
  { need := fun _ => 12, states := settingStates
    params := fun h s => let p := h.cmd.params; [(1, zeroAt p 1 3), (2, timeRule h s (u64 p 4))]
    abort := abortChange, epoch := fun h s => some (s.effectTime (u64 h.cmd.params 4)), effect := effMeasOff
    run := fun h s => configRun effMeasOff (s.changeEpoch (u64 h.cmd.params 4)) h s }

/-- The entries of group 0x06 by operation. -/
def edgeOps (n : Nat) : Option Op :=
  match n with
  | 0x01 => some opEdgeGetConfig | 0x02 => some opEdgeGetStatus | 0x03 => some opMeasGet
  | 0x10 => some opEdgeSetInput | 0x11 => some opEdgeSetStream | 0x12 => some opMeasSetInterval | 0x13 => some opMeasSetFrequency | 0x14 => some opMeasOff
  | _ => none

/-! ## The comparator commands of group 0x02 -/

/-- The 8 bytes of a comparator record. -/
def Chan.compBytes (c : Chan) : Bytes := leInt 2 c.upper ++ leInt 2 c.lower ++ le 1 c.mode ++ le 1 c.hyst ++ le 1 c.route.toNat ++ [0]

/-- `COMP_GET` (0x0203). -/
def opCompGet : Op :=
  { need := fun _ => 4, states := allStates
    params := fun h _ => [(0, u16 h.cmd.params 0 < 256), (1, zeroAt h.cmd.params 2 2)]
    budget := fun h s => s.panDown [panOf (u16 h.cmd.params 0)] true
    run := fun h s => let c := s.chan (u16 h.cmd.params 0); .done 0 (c.compBytes ++ le 4 c.entries ++ le 4 c.dropped) s }

/-- One comparator takes a record (R129): under a new mode it is judged afresh, under the same mode its alarm carries on. -/
def State.setComp (s : State) (ch : Nat) (b : Bytes) : State :=
  let old := s.chan ch
  let new := { old with upper := i16 b 0, lower := i16 b 2, mode := u8 b 4, hyst := u8 b 5, route := BitVec.ofNat 4 (u8 b 6) }
  (s.setChan ch (fun _ => new)).judgeChan ch (if new.mode = old.mode then new.judge (s.compTrim ch) else new.fresh (s.compTrim ch))

/-- The effect of `COMP_SET`. -/
def effCompSet (_ : Nat) (p : Bytes) (s : State) : State × Option (Nat × Nat × Bytes) :=
  ((List.range (u16 p 2)).foldl (fun (s : State) i => s.setComp (u16 p 0 + i) (slice p (12 + 8 * i) 8)) s, some (0, 0, []))

/-- The checks on the records of `COMP_SET`, field by field: index 3 is the first field of the first record (R583). -/
def compParams (p : Bytes) : List (Nat × Bool) :=
  (List.range (u16 p 2)).flatMap (fun i =>
    let b := slice p (12 + 8 * i) 8
    [(3, decide (-512 ≤ i16 b 0) && decide (i16 b 0 ≤ 511)), (4, decide (-512 ≤ i16 b 2) && decide (i16 b 2 ≤ i16 b 0)), (5, u8 b 4 < 5), (6, u8 b 5 < 4), (7, u8 b 6 < 16), (8, zeroAt b 7 1)])

/-- `COMP_SET` (0x0216). -/
def opCompSet : Op :=
  { need := fun p => 12 + 8 * u16 p 2, states := panStates
    params := fun h s => let p := h.cmd.params; ([(0, u16 p 0 < 256), (1, 1 ≤ u16 p 2 && u16 p 2 ≤ 126 && u16 p 0 + u16 p 2 ≤ 256), (2, timeRule h s (u64 p 4))] : List (Nat × Bool)) ++ compParams p
    budget := fun h s => s.panDown (pansOf (u16 h.cmd.params 0) (u16 h.cmd.params 2)) false
    abort := abortChange, epoch := fun h s => some (s.effectTime (u64 h.cmd.params 4)), effect := effCompSet
    run := fun h s => configRun effCompSet (s.changeEpoch (u64 h.cmd.params 4)) h s }

/-- The effect of `TRIP_SET`. -/
def effTripSet (_ : Nat) (p : Bytes) (s : State) : State × Option (Nat × Nat × Bytes) :=
  ({ s with front := { s.front with tripEnable := BitVec.ofNat 4 (u8 p 0), tripPolarity := BitVec.ofNat 4 (u8 p 1) } }, some (0, 0, []))

/-- `TRIP_SET` (0x0217). -/
def opTripSet : Op :=
  { need := fun _ => 12, states := panStates
    params := fun h s => let p := h.cmd.params; [(0, u8 p 0 < 16), (1, u8 p 1 < 16), (2, zeroAt p 2 2), (3, timeRule h s (u64 p 4))]
    abort := abortChange, epoch := fun h s => some (s.effectTime (u64 h.cmd.params 4)), effect := effTripSet
    run := fun h s => configRun effTripSet (s.changeEpoch (u64 h.cmd.params 4)) h s }

/-- The entries of group 0x02 by operation. -/
def panOps (n : Nat) : Option Op :=
  match n with
  | 0x01 => some opPanGetConfig | 0x02 => some opPanReadResults | 0x03 => some opCompGet | 0x04 => some opPanGetStatus
  | 0x10 => some opPanPower | 0x11 => some opPanSetGain | 0x12 => some opPanSetFilter | 0x13 => some opPanSetSequence
  | 0x14 => some opPanSpot | 0x15 => some opPanSetTestDac | 0x16 => some opCompSet | 0x17 => some opTripSet | 0x18 => some opPanSubstitute
  | _ => none

end Sys2Proof.Machine
end

