-- ==== Sys2Proof/Machine/Kiln.lean ====
section
/-! DEFINITION. Kiln compression (chapter 09): the block coder and decoder, coding of records with verification, expansion taps, jobs, and the meanings of group 0x07. -/
namespace Sys2Proof.Machine

open Sys2Proof

/-! ## Blocks (R274 to R284) -/

/-- A bit stream as a value and its length in bits; fields go in least significant bit first (R275). -/
abbrev BitStream := Nat × Nat

/-- Appends a field of m bits. -/
def BitStream.put (b : BitStream) (v m : Nat) : BitStream := (b.1 + v % 2 ^ m * 2 ^ b.2, b.2 + m)

/-- The low w bits of a sample. -/
def sampleBits (w : Nat) (x : Int) : Nat := (x % ((2 ^ w : Nat) : Int)).toNat

/-- The mapped residue u (R279). -/
def residueMap (e : Int) : Nat := if 0 ≤ e then 2 * e.toNat else 2 * e.natAbs - 1

/-- The residue of a mapped value. -/
def residueUnmap (u : Nat) : Int := if u % 2 = 0 then ((u / 2 : Nat) : Int) else -(((u + 1) / 2 : Nat) : Int)

/-- The coded length of a mapped residue (R279). -/
def riceLength (w k u : Nat) : Nat := if u / 2 ^ k < 24 then u / 2 ^ k + 1 + k else 24 + w + 3

/-- Appends a coded residue (R279). -/
def BitStream.rice (b : BitStream) (w k u : Nat) : BitStream :=
  let q := u / 2 ^ k
  if q < 24 then (b.put (2 ^ q - 1) (q + 1)).put u k else (b.put (2 ^ 24 - 1) 24).put u (w + 3)

/-- The prediction of predictor p from the history (x[i−1], x[i−2], x[i−3]), y[i] and y[i−1] (R276). -/
def predict (p : Nat) (h : List Int) (y y1 : Int) : Int :=
  let a := h.getD 0 0
  let b := h.getD 1 0
  let c := h.getD 2 0
  match p with
  | 0 => 0 | 1 => a | 2 => 2 * a - b | 3 => 3 * a - 3 * b + c | 4 => y | _ => y + a - y1

/-- The residues of samples under a predictor; `ys` runs beside the samples. -/
def residues (p : Nat) : List Int → (ys : List Int) → (h : List Int) → (y1 : Int) → List Int
  | [], _, _, _ => []
  | x :: xs, ys, h, y1 =>
    let y := ys.headD 0
    (x - predict p h y y1) :: residues p xs (ys.drop 1) ((x :: h).take 3) y

/-- What a coder knows as it begins a block: the history, the reference samples of the block (none: not all available), and the reference sample before it. -/
structure BlockContext where
  hist  : List Int
  ys    : Option (List Int)
  y1    : Option Int
  fresh : Bool

/-- The residues of a block under a predictor, and whether R278 allows it: a fresh block preloads its history from its first sample and codes from the second (R281). -/
def BlockContext.residuesOf (c : BlockContext) (p : Nat) (xs : List Int) : Option (List Int) :=
  let ys := c.ys.getD []
  let ok := p < 4 || (c.ys.isSome && (p == 4 || c.fresh || c.y1.isSome))
  if !ok then none
  else if c.fresh then
    let x0 := xs.headD 0
    some (residues p (xs.drop 1) (ys.drop 1) [x0, x0, x0] (ys.headD 0))
  else some (residues p xs ys c.hist (c.y1.getD 0))

/-- The best choice so far: body length, predictor, k and mapped residues. -/
abbrev Choice := Option (Nat × Nat × Nat × List Nat)

/-- The choice of predictor and k (R283): the smallest body; ties go to the lower predictor, then the lower k. -/
def choose (w mask : Nat) (c : BlockContext) (xs : List Int) : Choice :=
  (bitsOf 6 mask).foldl (fun best p =>
    match c.residuesOf p xs with
    | none => best
    | some es =>
      let us := es.map residueMap
      (List.range (w + 3)).foldl (fun (best : Choice) k =>
        let n := (if c.fresh then w else 0) + (us.map (riceLength w k)).sum
        match best with
        | some (m, _) => if n < m then some (n, p, k, us) else best
        | none => some (n, p, k, us)) best) none

/-- The CRC-32C over a block's samples (R284). -/
def samplesCrc (xs : List Int) : Nat := crc32c (xs.flatMap (leInt 4))

/-- The bytes of a block (R274, R275): header, and body padded to whole words. -/
def blockBytes (xs : List Int) (p k : Nat) (fresh pair : Bool) (body : BitStream) : Bytes :=
  let words := (body.2 + 31) / 32
  let hdr := samplesCrc xs + 2 ^ 32 * (words + 2) + 2 ^ 40 * (xs.length - 1) + 2 ^ 49 * p + 2 ^ 52 * k + 2 ^ 57 * (if fresh then 1 else 0) + 2 ^ 58 * (if pair && (p == 4 || p == 5) then 1 else 0) + 2 ^ 60
  le 8 hdr ++ le (4 * words) body.1

/-- A raw block. -/
def rawBlock (w : Nat) (xs : List Int) (fresh : Bool) : Bytes :=
  blockBytes xs 6 0 fresh false (xs.foldl (fun b x => b.put (sampleBits w x) w) (0, 0))

/-- Codes a block; also answers its predictor. -/
def codeBlock (w mask : Nat) (pair : Bool) (c : BlockContext) (xs : List Int) : Bytes × Nat :=
  match choose w mask c xs with
  | some (n, p, k, us) =>
    if n < xs.length * w then
      let b0 : BitStream := if c.fresh then BitStream.put (0, 0) (sampleBits w (xs.headD 0)) w else (0, 0)
      (blockBytes xs p k c.fresh pair (us.foldl (fun b u => b.rice w k u) b0), p)
    else (rawBlock w xs c.fresh, 6)
  | none => (rawBlock w xs c.fresh, 6)

/-! ## Decoding (R288, R289) -/

/-- A decoded block: its samples, predictor, freshness and length in words; or the code of the first check that failed. -/
structure Block where
  samples : List Int
  words   : Nat
  fresh   : Bool

/-- Counts one-bits up to 24 from a bit position. -/
def onesFrom (v : Nat) (pos : Nat) : (fuel : Nat) → Nat
  | 0 => 0
  | fuel + 1 => if v.testBit pos then 1 + onesFrom v (pos + 1) fuel else 0

/-- Reads n mapped residues (R279): none when they run past the end. -/
def readResidues (w k v stop : Nat) : (n pos : Nat) → Option (List Nat × Nat)
  | 0, pos => if pos ≤ stop then some ([], pos) else none
  | n + 1, pos =>
    if stop ≤ pos then none
    else
      let q := onesFrom v pos 24
      let (u, next) := if q < 24 then (q * 2 ^ k + v / 2 ^ (pos + q + 1) % 2 ^ k, pos + q + 1 + k) else (v / 2 ^ (pos + 24) % 2 ^ (w + 3), pos + 24 + w + 3)
      (readResidues w k v stop n next).map (fun r => (u :: r.1, r.2))

/-- Rebuilds samples from residues. -/
def rebuild (p : Nat) : List Int → (ys : List Int) → (h : List Int) → (y1 : Int) → List Int
  | [], _, _, _ => []
  | e :: es, ys, h, y1 =>
    let y := ys.headD 0
    let x := e + predict p h y y1
    x :: rebuild p es (ys.drop 1) ((x :: h).take 3) y

/-- Whether every sample fits w bits (check 13). -/
def samplesFit (w : Nat) (xs : List Int) : Bool := xs.all (fun x => decide (-(2 ^ (w - 1) : Int) ≤ x) && decide (x < (2 ^ (w - 1) : Int)))

/-- Decodes the block at the start of `b` (R288). `left` is how many samples are still expected, `hist` the history where there is one, `ref` gives a reference sample by its place in the block (−1 is y[−1]) for ref 0 and 1. The checks on decoded samples (13, then 9) come after those on the bits and on what must be available. (log 55: DEDUCED) -/
def decodeBlock (w left : Nat) (hist : Option (List Int)) (ref : Bool → Int → Option Int) (b : Bytes) : Except Nat Block :=
  let hdr := u64 b 0
  let words := hdr / 2 ^ 32 % 256
  let n := hdr / 2 ^ 40 % 512 + 1
  let p := hdr / 2 ^ 49 % 8
  let k := hdr / 2 ^ 52 % 32
  let fresh := hdr.testBit 57
  let pair := hdr.testBit 58
  if b.length < 8 then .error 6
  else if hdr / 2 ^ 60 ≠ 1 then .error 1
  else if hdr.testBit 59 ∨ (pair ∧ p ≠ 4 ∧ p ≠ 5) then .error 2
  else if left < n ∨ 256 < n then .error 3
  else if p = 7 then .error 4
  else if w + 2 < k ∨ (p = 6 ∧ k ≠ 0) then .error 5
  else if words < 3 ∨ 194 < words ∨ b.length < 4 * words then .error 6
  else
    let stop := 32 * (words - 2)
    let v := (slice b 8 (4 * (words - 2))).foldr (fun x acc => x.toNat + 256 * acc) 0
    let first := if p ≠ 6 ∧ fresh then w else 0
    let parsed := if p = 6 then (if n * w ≤ stop then some ((List.range n).map (fun i => v / 2 ^ (i * w) % 2 ^ w), n * w) else none)
      else if stop < first then none else readResidues w k v stop (if fresh then n - 1 else n) first
    match parsed with
    | none => .error 7
    | some (us, pos) =>
      if v / 2 ^ pos ≠ 0 ∨ pos ≤ stop - 32 then .error 8
      else
        let ys := (List.range n).map (fun (i : Nat) => ref pair (i : Int))
        let y1 := ref pair (-1)
        if (p = 4 ∨ p = 5) ∧ (ys.any Option.isNone ∨ (p = 5 ∧ !fresh ∧ y1.isNone)) then .error 10
        else if !fresh ∧ hist.isNone then .error 11
        else
          let yv := ys.map (·.getD 0)
          let x0 := signed w (v % 2 ^ w)
          let xs := if p = 6 then us.map (signed w)
            else if fresh then x0 :: rebuild p (us.map residueUnmap) (yv.drop 1) [x0, x0, x0] (yv.headD 0)
            else rebuild p (us.map residueUnmap) yv (hist.getD []) (y1.getD 0)
          if !samplesFit w xs then .error 13
          else if samplesCrc xs ≠ hdr % 2 ^ 32 then .error 9
          else .ok { samples := xs, words, fresh }

/-! ## Loads (R270, R287) -/

/-- The coder of a stream. -/
def State.coder (s : State) (key : Nat) : Coder := Tbl.get {} s.kiln.coders key

/-- Whether the stream of a key is set to kiln coding and not held plain under R287. -/
def State.codedSet (s : State) (key : Nat) : Bool := (s.coder (codingKey key)).coding == 1 && !(s.coder key).forced

/-- The sample rate of a channel's stream in samples per 10^9 s, as a fraction: 0 where it has no source. A gang partner's stream has the period of its START; before that a BRINE stream that the lead has enabled there has its channel's period on the common grid (R452). (log 55: DEDUCED) -/
def State.streamRate (s : State) (key : Nat) : Nat × Nat :=
  let ch := key % 65536
  let f := key / 65536 == 1
  if 32768 ≤ ch then
    (if (s.stream key).isOpen ∧ (s.stream key).period ≠ 0 then (1000000000, (s.stream key).period)
     else if key / 65536 = 0 ∧ ch < 33024 ∧ s.streamOn 0 ch then (1000000000, s.inPeriod (ch - 32768))
     else (0, 1))
  else if !s.streamOn (key / 65536) ch ∨ !s.captureAlive f ch then (0, 1)
  else
    let m := if f then (match (s.mchan ch).recipe with | some rn => (s.recipe rn).decAll | none => 1) else 1
    match s.tapOf ch with
    | some tp => (tp.rate * 1000, m)
    | none => (1000000000, s.inPeriod ch * m)

/-- The keys of the coded BRINE and FILTERED streams. -/
def State.codedKeys (s : State) : List Nat := ((s.kiln.coders.map (·.1)).filter (fun k => decide (k / 65536 ≤ 1) && s.codedSet k))

/-- The CASK streams that are coded: those of the hub's own groups, and on a gang lead the open ones of its partner's (R271). -/
def State.codedCasks (s : State) : List Nat :=
  (s.capture.groups.filter (fun e => e.2.isDefined)).flatMap (fun e => (e.2.channels.map (fun ch => streamKey 3 (512 * e.1 + ch))).filter s.codedSet)
    ++ (s.streams.table.filter (fun e => e.1 / 65536 == 3 && decide (32768 ≤ e.1 % 65536) && e.2.isOpen && s.codedSet e.1)).map (·.1)

/-- L_c in samples per second (R270), as a fraction. -/
def State.loadCoded (s : State) : Nat × Nat :=
  (s.codedKeys).foldl (fun acc k => fracAdd acc (s.streamRate k)) (if s.codedCasks.isEmpty then 0 else 500000000, 1)

/-- L_t in samples per second (R270). -/
def State.loadTaps (s : State) : Nat := (s.kiln.taps.map (fun e => if e.2.on then e.2.rate * 1000 else 0)).sum

/-- Whether both sums of R270 hold. -/
def State.kilnFits (s : State) : Bool :=
  let l := s.loadCoded
  decide (l.1 ≤ 1200000000 * (4 - s.kiln.lanesOut.length) * l.2) && decide (l.1 + s.loadTaps * l.2 ≤ 4800000000 * l.2)

/-- The coded stream of highest index; of two kinds at one index the higher kind. (log 55: DEDUCED) -/
def State.highestCoded (s : State) : Option Nat :=
  (s.codedKeys ++ s.codedCasks).foldl (fun best k =>
    match best with
    | some b => if b % 65536 < k % 65536 ∨ (b % 65536 = k % 65536 ∧ b < k) then some k else best
    | none => some k) none

/-- Codes streams plain from the highest index down until R270 holds, every one where no lane is left, and logs each (R287). (log 55: DEDUCED) -/
def State.plainDown (s : State) : (fuel : Nat) → State
  | 0 => s
  | fuel + 1 =>
    if s.kilnFits && decide (s.kiln.lanesOut.length < 4) then s
    else match s.highestCoded with
      | none => s
      | some k => ((s.setCoder k (fun c => { c with forced := true })).logFault 0x0022 0 (s.streamId k) 0).plainDown fuel

/-! ## Coding a record (R267 to R287) -/

/-- The reference stream of a stream under a reference setting (R277): with pan the channel below in the same pan, or the virtual channel below; with pair a gang partner's channel refers to the lead's of its number. -/
def refKeyOf (ref key : Nat) : Option Nat :=
  let ch := if key / 65536 = 3 then key % 512 else key % 32768
  let below := if ch < 256 then ch % 8 ≠ 0 else 256 < ch
  match ref with
  | 1 => if below then some (key - 1) else none
  | 2 => if key % 65536 < 32768 then none else some (key - 32768)
  | _ => none

/-- The reference stream of a stream as it is set. -/
def State.refKey (s : State) (key : Nat) : Option Nat := refKeyOf (s.coder (codingKey key)).ref key

/-- A sample of an open stream at a source index, from the records that the hub will deliver (R278). Where the stream's START still waits among the closed records, `old` says whether the asker belongs to the run before it. -/
def State.refSample (s : State) (key idx : Nat) (old : Bool) : Option Int :=
  let inRec := fun (r : Record) => if r.kind ≤ 3 ∧ r.index ≤ idx ∧ idx < r.index + r.samples.length then r.samples[idx - r.index]? else none
  let (before, later) := (s.streams.closed.filter (fun r => r.key == key)).span (fun r => r.kind != 8)
  if !(s.stream key).isOpen then none
  else if later.isEmpty ∨ old then ((s.coder key).refs.lookup idx).or ((before.findSome? inRec).or (if later.isEmpty then (s.stream key).current.bind inRec else none))
  else (later.findSome? inRec).or ((s.stream key).current.bind inRec)

/-- What coding a record gathers block by block: the bytes, the history, blocks since the last fresh one, raw blocks, and the reference indices used. -/
structure Coding where
  bytes : Bytes
  hist  : List Int
  since : Nat
  raws  : Nat
  used  : Option (Nat × Nat)

/-- Cuts samples into blocks of 256 (R272). -/
def blocksOf : (fuel : Nat) → List Int → List (List Int)
  | 0, _ => []
  | _, [] => []
  | fuel + 1, xs => xs.take 256 :: blocksOf fuel (xs.drop 256)

/-- Codes the blocks of a record in order; a block listed in `bad` fails verification and leaves raw (R285, R286). `loaded` is a y[−1] that a blob has loaded, `old` as `State.refSample` takes it. -/
def State.codeBlocks (s : State) (pair : Bool) (w mask index : Nat) (ref : Option Nat) (fresh0 old : Bool) (loaded : Option Int) (bad : List Nat) (k : Coding) : (i : Nat) → List (List Int) → Coding
  | _, [] => k
  | i, xs :: rest =>
    let at' := index + 256 * i
    let fresh := fresh0 && i == 0
    let ys := match ref with
      | some rk => let l := (List.range xs.length).map (fun j => s.refSample rk (at' + j) old); if l.all Option.isSome then some (l.map (·.getD 0)) else none
      | none => none
    let y1 := match ref with | some rk => if at' = 0 then none else (s.refSample rk (at' - 1) old).map (fun y => if i = 0 then loaded.getD y else y) | none => none
    let (b, p) := codeBlock w mask pair { hist := k.hist, ys, y1, fresh } xs
    let failed := bad.contains i
    let out := if failed then rawBlock w xs fresh else b
    let refd := !failed && (p == 4 || p == 5)
    let lo := if p = 5 ∧ !fresh then at' - 1 else at'
    let used := if refd then (match k.used with | some (a, _) => some (a, at' + xs.length - 1) | none => some (lo, at' + xs.length - 1)) else k.used
    s.codeBlocks pair w mask index ref fresh0 old loaded bad { bytes := k.bytes ++ out, hist := historyAfter fresh xs k.hist, since := if fresh then 1 else k.since + 1, raws := k.raws + (if failed || p == 6 then 1 else 0), used } (i + 1) rest

/-- A block failed verification on a lane (R286): three within 1 s take the lane out of service, and the load is judged again (R287). -/
def State.laneFailure (s : State) (lane key : Nat) : State :=
  let s := { s with kiln := { s.kiln with failures := sat 32 (s.kiln.failures + 1) } }
  let s := s.logFault 0x0020 lane (s.streamId key) (s.stream key).sequence.toNat
  let l : List Nat := ((Tbl.get [] s.kiln.laneFails lane).filter (fun t => decide (s.now < t + 1000000000))) ++ [s.now]
  let s := { s with kiln := { s.kiln with laneFails := Tbl.set s.kiln.laneFails lane l } }
  if 3 ≤ l.length ∧ !s.kiln.lanesOut.contains lane then
    (({ s with kiln := { s.kiln with lanesOut := s.kiln.lanesOut ++ [lane] } }).logFault 0x0021 lane 0 0).plainDown 8192
  else s

/-- The position of the next record to code: the first of its stream that is still here (R269). -/
def nextToCode : List Record → (seen : List Nat) → (i : Nat) → Option Nat
  | [], _, _ => none
  | r :: rest, seen, i => if r.toCode && !seen.contains r.key then some i else nextToCode rest (r.key :: seen) (i + 1)

/-- A coded record's prefix stays plain (R272). -/
def prefixLength (r : Record) : Nat := if r.kind = 3 then 32 else 0

/-- Whether the first block of a record is fresh (R282). -/
def State.freshFirst (s : State) (r : Record) (refresh : Nat) : Bool :=
  let c := s.coder r.key
  c.breaks r.index || (r.kind == 3 && u8 r.payload 28 == 0) || c.lastPeriod != r.period || (refresh != 0 && decide (refresh ≤ c.count)) || (s.stream r.key).pending.isSome || (s.twin.tookDuty && !s.twin.proven.contains r.key)

/-- Codes the next record on a lane (R267 to R287), under the setting in force as it began (R301); one whose stream is no longer coded leaves plain. -/
def State.codeRecord (s : State) (lane : Nat) (bad : List Nat) : State :=
  match nextToCode s.streams.closed [] 0 with
  | none => s
  | some i =>
    match s.streams.closed[i]? with
    | none => s
    | some r =>
      let put := fun (s : State) (r : Record) => { s with streams := { s.streams with closed := s.streams.closed.set i r } }
      let coded := decide (s.kiln.lanesOut.length < 4) && (r.coder.isSome || s.coded r.key)
      if !coded then put s { r with toCode := false, coder := none }
      else if 4 ≤ lane ∨ s.kiln.lanesOut.contains lane then s
      else
        let c := s.coder r.key
        let now := s.coder (codingKey r.key)
        let (mask, refSet, refresh) := r.coder.getD (now.mask, now.ref, now.refresh)
        let w := if r.wide then 24 else 18
        let fresh := s.freshFirst r refresh
        let blocks := blocksOf (r.samples.length + 1) r.samples
        let bad := bad.filter (fun b => decide (b < blocks.length))
        let ref := refKeyOf refSet r.key
        let old := (s.streams.closed.drop (i + 1)).any (fun d => d.key == r.key && d.kind == 8)
        let k := s.codeBlocks (refSet == 2) w mask r.index ref fresh old c.refHist bad { bytes := [], hist := c.hist, since := c.count, raws := 0, used := none } 0 blocks
        let plain := (recordPayload r).length
        let r' := { r with toCode := false, coder := none, coding := 1, payload := r.payload ++ k.bytes, samples := [], was := r.samples, lead := r.payload.length, needs := match ref, k.used with | some rk, some (a, b) => some (rk, a, b) | _, _ => none }
        let s := put s r'
        let s := s.setCoder r.key (fun c => { c.follow r.index r.period r.samples with hist := k.hist, count := k.since })
        let s := s.setCoder (codingKey r.key) (fun c => { c with plainBytes := sat 64 (c.plainBytes + plain), codedBytes := sat 64 (c.codedBytes + (recordPayload r').length), blocks := sat 32 (c.blocks + blocks.length), rawBlocks := sat 32 (c.rawBlocks + k.raws) })
        let s := { s with kiln := { s.kiln with blocks := sat 32 (s.kiln.blocks + blocks.length) } }
        bad.foldl (fun (s : State) _ => s.laneFailure lane r.key) s

/-! ## Expansion taps (R292, R293) -/

/-- A tap. -/
def State.tap (s : State) (i : Nat) : Tap := Tbl.get {} s.kiln.taps i

/-- Changes a tap. -/
def State.setTap (s : State) (i : Nat) (f : Tap → Tap) : State := { s with kiln := { s.kiln with taps := Tbl.modify {} s.kiln.taps i f } }

/-- The source index of a tap's sample at a time, where a START or GAP record has told one. -/
def Tap.indexAt (t : Tap) (time : Int) : Option Int := t.anchor.bind (fun a => if a.2.2 = 0 then none else some (a.1 + (time - a.2.1) / a.2.2))

/-- The time of the sample of a tap at a source index. -/
def Tap.timeAt (t : Tap) (i : Int) : Option Int := t.anchor.map (fun a => a.2.1 + (i - a.1) * a.2.2)

/-- A reference sample for a tap, at the source index of its own sample, or at that sample's time where the indices are not known (R277, R278): from the tap on the channel below of the same hub (ref 0), or for a gang partner's stream, whose index is 0x8000 higher, on the lead's of its number (ref 1, R453). (log 56: DEDUCED) -/
def State.tapRef (s : State) (t : Tap) (pair : Bool) (time : Int) : Option Int :=
  let id := t.stream.toNat
  let mine := fun (o : Tap) => o.on && o.stream.toNat + (if pair then 32768 else 1) == id
  if time < 0 then none
  else match s.kiln.taps.find? (fun e => mine e.2) with
    | some (_, o) => o.recent.lookup (((t.indexAt time).bind o.timeAt).getD time).toNat
    | none => none

/-- Decodes the blocks of a coded record: samples in their places, holes of a gap's reason where history is wanting, and the check code that stopped it, with the rest of the record a hole. -/
def State.tapBlocks (s : State) (t : Tap) (w first period count gap : Nat) : (fuel pos done : Nat) → Option (List Int) → Bytes → List TapWord × Option (List Int) × Option Nat × Nat
  | 0, _, _, h, _ => ([], h, none, 0)
  | fuel + 1, pos, done, h, b =>
    if count ≤ done then ([], h, none, 0)
    else
      let ref := fun (pair : Bool) (j : Int) => s.tapRef t pair ((first : Int) + ((done : Int) + j) * period)
      let hole := fun (n : Nat) => ({ time := first + done * period, value := none, count := n, gap, period } : TapWord)
      match decodeBlock w (count - done) h ref (b.drop pos) with
      | .error 11 =>
        let n := u64 b pos / 2 ^ 40 % 512 + 1
        let (l, h', e, k) := s.tapBlocks t w first period count gap fuel (pos + 4 * (u64 b pos / 2 ^ 32 % 256)) (done + n) none b
        (hole n :: l, h', e, k)
      | .error c => ([hole (count - done)], none, some c, 0)
      | .ok blk =>
        let h := some (historyAfter blk.fresh blk.samples (h.getD []))
        let (l, h', e, k) := s.tapBlocks t w first period count gap fuel (pos + 4 * blk.words) (done + blk.samples.length) h b
        ((blk.samples.zipIdx.map (fun x => ({ time := first + (done + x.2) * period, value := some x.1, period } : TapWord))) ++ l, h', e, k + 1)

/-- A tap error (R293): counted, and the first in each 1 s logged. -/
def State.tapError (s : State) (i code : Nat) : State :=
  let s := { s with kiln := { s.kiln with tapErrors := sat 32 (s.kiln.tapErrors + 1), lastCheck := code, lastTap := i } }
  if (s.tap i).errAt.any (fun t => decide (s.now < t + 1000000000)) then s.withhold 0x0023
  else (s.setTap i (fun t => { t with errAt := some s.now })).logFault 0x0023 i code (s.tap i).stream.toNat

/-- The period of a channel's recipe outputs for an input period (R173). -/
def State.filteredPeriod (s : State) (ch per : Nat) : Nat := per * (match (s.mchan ch).recipe with | some rn => (s.recipe rn).decAll | none => 1)

/-- A tap takes a hole in its stream: history is lost with it. -/
def Tap.hole (t : Tap) (w : TapWord) : Tap := { t with words := t.words ++ [w], hist := [], valid := false }

/-- A tap decodes the next record of its stream that the hub forwarded (R292, R293). A GAP record's reason goes with its hole; that of any other hole the spec does not state. (log 56: DEDUCED) -/
def State.tapDecode (s : State) (i : Nat) : State :=
  let t := s.tap i
  match t.queue with
  | [] => s
  | b :: r =>
    let s := s.setTap i (fun t => { t with queue := r })
    let kind := u8 b 1 % 16
    let n := u16 b 14
    let first := u64 b 16
    let per := u32 b 24
    let pay := slice b 32 (u32 b 28)
    let pay0 := u64 pay 8
    let known := (kind = 8 ∨ (kind = 7 ∧ u8 b 0 ≠ 1)) ∧ pay0 ≠ irregular
    let s := s.setTap i (fun t => { t with anchor := if known then some (pay0, first, per) else t.anchor.filter (fun a => a.2.2 == per), recent := if kind = 8 then [] else t.recent })
    let t := s.tap i
    if kind = 7 then s.setTap i (fun t => t.hole { time := first, value := none, count := u64 pay 0, gap := max 1 (u8 pay (if u8 b 0 = 1 then 8 else 26)), period := per })
    else if 1 < kind then s
    else
      let (v, s) := s.free
      let gap := max 1 (v.toNat % 256)
      if per * t.rate < 1000000 ∨ (t.chan ≠ 0xFFFF ∧ 4294967295 < s.filteredPeriod t.chan per) then s.setTap i (fun t => t.hole { time := first, value := none, count := n, gap, period := per })
      else
        let w := if t.wide then 24 else 18
        let bits := pay.foldr (fun x acc => x.toNat + 256 * acc) 0
        let plain := (List.range n).map (fun j => signed w (bits / 2 ^ (w * j) % 2 ^ w))
        let (l, h, e, k) := if u8 b 1 / 16 = 0 then (plain.zipIdx.map (fun x => ({ time := first + x.2 * per, value := some x.1, period := per } : TapWord)), some (historyAfter (!t.valid) plain t.hist), none, 0)
          else s.tapBlocks t w first per n gap (n + 1) 0 0 (if t.valid then some t.hist else none) pay
        let s := s.setTap i (fun t => { t with words := t.words ++ l, hist := h.getD [], valid := h.isSome, recent := ((l.filterMap (fun x => x.value.map (fun v => (x.time, v)))).reverse ++ t.recent).take 8192 })
        let s := { s with kiln := { s.kiln with tapBlocks := sat 32 (s.kiln.tapBlocks + k) } }
        match e with | some c => s.tapError i c | none => s

/-- The hub forwards a record towards the root: the taps on its stream take a copy (R292). -/
def State.copyToTaps (s : State) (rec : Bytes) : State :=
  { s with kiln := { s.kiln with taps := s.kiln.taps.map (fun e => if e.2.on ∧ e.2.stream.toNat = u32 rec 4 then (e.1, { e.2 with queue := e.2.queue ++ [rec] }) else e) } }

/-- The period of a tap channel's input changes (R173): its open blocks leave as partial, its open records close, its recipe resets, and the capture groups that hold it act on the change (R216). -/
def State.tapPeriod (s : State) (i per : Nat) : State :=
  let t := s.tap i
  let set := fun (s : State) => s.setTap i (fun t => { t with period := per })
  if t.chan = 0xFFFF then set s
  else if t.period = 0 then (set s).captureChange (fun _ x => x.channels.contains t.chan) false
  else
    let s := set ((s.cutBlocks t.chan (fun _ => true)).closeRecords (ofChannel t.chan))
    ((s.setMchan t.chan (fun c => { c with resetDue := true, brineNew := true })).setPeriods t.chan).captureChange (fun _ x => x.channels.contains t.chan) false

/-- The next sample or hole of a tap reaches the mash array; the channel's indices begin with the first sample, and a hole after it is a gap in its input (R174, R293). (log 56: DEDUCED) -/
def State.tapArrival (s : State) (i : Nat) : State :=
  match (s.tap i).words with
  | [] => s
  | w :: r =>
    let s := s.setTap i (fun t => { t with words := r })
    let s := if (s.tap i).period = w.period then s else s.tapPeriod i w.period
    let t := s.tap i
    if t.chan = 0xFFFF ∨ !s.running then s
    else match w.value with
      | some v => ((s.openChannelStreams t.chan 2).mashInput t.chan t.next w.time v 0).setTap i (fun t => { t with next := t.next + 1 })
      | none => if t.next = 0 ∨ w.count = 0 then s else (s.mashHole t.chan t.next w.count w.time w.gap).setTap i (fun t => { t with next := t.next + w.count })

/-! ## Workspace and jobs (R294 to R297, R302) -/

/-- The size of the workspace in bytes. -/
def State.workBytes (s : State) : Nat := 1024 * s.kiln.workKiB

/-- Reads the workspace; unwritten bytes are 0 (R294). -/
def State.workRead (s : State) (a n : Nat) : Bytes := Mem.readN (fun _ => 0) s.kiln.work a n

/-- Writes the workspace. -/
def State.workWrite (s : State) (a : Nat) (b : Bytes) : State := { s with kiln := { s.kiln with work := Mem.writeN (fun _ => 0) s.kiln.work a b } }

/-- Changes the job. -/
def State.setJob (s : State) (f : Job → Job) : State := { s with kiln := { s.kiln with job := f s.kiln.job } }

/-- The 20 bytes of the table "Job result". -/
def Job.result (j : Job) : Bytes := le 1 j.outcome ++ le 1 j.check ++ zeros 2 ++ le 4 j.inPos ++ le 4 j.produced ++ le 4 j.blocks ++ le 4 j.failedAt

/-- The job stops or completes: its notice goes out and its tokens return (R302). -/
def State.endJob (s : State) (state outcome check failedAt : Nat) : State :=
  let s := s.setJob (fun j => { j with state, outcome, check, failedAt, running := false })
  (s.returnTokens (fun r => r.op == 3)).finish s.kiln.job.ref stOk 0 s.kiln.job.result

/-- A sample word of a job's input; one that does not fit w bits gives a free value (the spec states no result). (log 57: DEDUCED) -/
def State.jobSamples (s : State) (w : Nat) : List Int → State × List Int
  | [] => (s, [])
  | x :: r =>
    let (s, y) := if samplesFit w [x] then (s, x) else let (v, s) := s.free; (s, signed w (v.toNat % 2 ^ w))
    let (s, l) := s.jobSamples w r
    (s, y :: l)

/-- The reference samples of a job from sample i on, n of them; none without a region (R295). -/
def State.jobRef (s : State) (j : Job) (i : Int) : Option Int :=
  if !(u8 j.params 2).testBit 1 then none
  else if i < 0 then (if (u8 j.params 2).testBit 0 then some (i32 j.params 40) else none)
  else some (i32 (s.workRead (u32 j.params 24 + 4 * i.toNat) 4) 0)

/-- One block of a compress job (R295, R296). (log 57: DEDUCED) -/
def State.compressBlock (s : State) (j : Job) : State :=
  let n := min 256 ((u32 j.params 8 - j.inPos) / 4)
  if n = 0 then s.endJob 3 0 0 0
  else
    let w := u8 j.params 1
    let raw := s.workRead (u32 j.params 4 + j.inPos) (4 * n)
    let (s, xs) := s.jobSamples w ((List.range n).map (fun i => i32 raw (4 * i)))
    let i0 := j.inPos / 4
    let fresh := j.blocks == 0 && !(u8 j.params 2).testBit 0
    let ys := if (u8 j.params 2).testBit 1 then some ((List.range n).map (fun (i : Nat) => (s.jobRef j ((i0 + i : Nat) : Int)).getD 0)) else none
    let (b, _) := codeBlock w (u8 j.params 3) false { hist := j.hist, ys, y1 := s.jobRef j ((i0 : Int) - 1), fresh } xs
    if j.outLen < j.outPos + b.length then s.endJob 2 1 0 0
    else
      let s := (s.workWrite (j.outOff + j.outPos) b).setJob (fun j => { j with inPos := j.inPos + 4 * n, outPos := j.outPos + b.length, produced := j.produced + b.length, samples := j.samples + n, blocks := j.blocks + 1, hist := historyAfter fresh xs j.hist })
      if u32 j.params 8 ≤ s.kiln.job.inPos then s.endJob 3 0 0 0 else s

/-- One block of a decompress job (R295, R296). (log 57: DEDUCED) -/
def State.decompressBlock (s : State) (j : Job) : State :=
  let w := u8 j.params 1
  let b := s.workRead (u32 j.params 4 + j.inPos) (min 776 (u32 j.params 8 - j.inPos))
  if b.isEmpty then s.endJob 3 0 0 0
  else
    let n := u64 b 0 / 2 ^ 40 % 512 + 1
    let hist := if j.blocks = 0 ∧ !(u8 j.params 2).testBit 0 then none else some j.hist
    match decodeBlock w 256 hist (fun pair i => if pair then none else s.jobRef j ((j.samples : Int) + i)) b with
    | .error c => s.endJob 3 3 c (u32 j.params 4 + j.inPos)
    | .ok blk =>
      if j.outLen < j.outPos + 4 * n then s.endJob 2 1 0 0
      else if j.limit < j.samples + n then s.endJob 2 2 0 0
      else
        let s := (s.workWrite (j.outOff + j.outPos) (blk.samples.flatMap (leInt 4))).setJob (fun j => { j with inPos := j.inPos + 4 * blk.words, outPos := j.outPos + 4 * n, produced := j.produced + 4 * n, samples := j.samples + n, blocks := j.blocks + 1, hist := historyAfter blk.fresh blk.samples j.hist })
        if u32 j.params 8 ≤ s.kiln.job.inPos then s.endJob 3 0 0 0 else s

/-- The job processes its next block (KILN_JOB_BLOCK). -/
def State.jobBlock (s : State) : State :=
  let j := s.kiln.job
  if j.state ≠ 1 ∨ !j.running then s
  else if u8 j.params 0 = 0 then s.compressBlock j else s.decompressBlock j

/-- A workspace waits no more for spilled words once they have left (R204, R294). -/
def State.settleWorkspace (s : State) : State :=
  match s.kiln.workWait with
  | none => s
  | some (k, ref) =>
    if 2097152 < s.heldWords + 256 * s.spillPages then s
    else State.finish { s with kiln := { s.kiln with workKiB := k, work := [], workWait := none } } ref stOk 0 []

/-! ## Meanings of group 0x07 -/

/-- Whether a kind and channel (or group) name streams that may be coded. -/
def codingRange (kind first count : Nat) : Bool := if kind = 3 then 1 ≤ count && first + count ≤ 16 else 1 ≤ count && first + count ≤ 320

/-- The number under which a kind's setting stands (R300). -/
def settingOf (kind i : Nat) : Nat :=
  if kind = 3 then (if 32768 ≤ i then streamKey 3 (32768 + 512 * (i - 32768)) else streamKey 3 (512 * i)) else streamKey kind i

/-- A number of a coding command less 0x8000 where it names a gang partner's stream on the lead (R452, R453). -/
def State.ownNumber (s : State) (i : Nat) : Nat := if s.twin.role = 3 ∧ 32768 ≤ i then i - 32768 else i

/-- `KILN_GET_CODING` (0x0701). -/
def opKilnGetCoding : Op :=
  { need := fun _ => 4, states := allStates
    params := fun h s => let p := h.cmd.params; [(0, [0, 1, 3].contains (u8 p 0)), (1, zeroAt p 1 1), (2, codingRange (u8 p 0) (s.ownNumber (u16 p 2)) 1)]
    run := fun h s =>
      let key := settingOf (u8 h.cmd.params 0) (u16 h.cmd.params 2)
      let c := s.coder key
      .done 0 (le 1 (if c.coding = 0 then 0 else if s.kiln.coders.any (fun e => codingKey e.1 == key && e.2.forced) then 2 else 1) ++ le 1 c.mask ++ le 1 c.ref ++ [0] ++ le 2 c.refresh ++ zeros 2 ++ le 8 c.plainBytes ++ le 8 c.codedBytes ++ le 4 c.blocks ++ le 4 c.rawBlocks) s }

/-- `KILN_GET_STATUS` (0x0702). -/
def opKilnGetStatus : Op :=
  { need := fun _ => 4, states := allStates
    params := fun h _ => let p := h.cmd.params; [(1, zeroAt p 1 3)]
    run := fun h s =>
      let k := s.kiln
      let l := s.loadCoded
      let r := le 1 (maskOf ((List.range 4).filter (fun i => !k.lanesOut.contains i))) ++ le 1 (if k.decompOut then 1 else 0) ++ zeros 2 ++ le 4 (fracCeil l 1000000) ++ le 4 (fracCeil (l.1 + s.loadTaps * l.2, l.2) 1000000) ++ le 4 k.blocks ++ le 4 k.failures ++ le 4 k.tapBlocks ++ le 4 k.tapErrors ++ le 1 k.lastCheck ++ le 1 k.lastTap ++ zeros 2
      .done 0 r (if u8 h.cmd.params 0 = 1 then { s with kiln := { k with blocks := 0, failures := 0, tapBlocks := 0, tapErrors := 0 } } else s) }

/-- `KILN_JOB_GET` (0x0703). -/
def opKilnJobGet : Op :=
  { need := fun _ => 0, states := allStates
    run := fun _ s => .done 0 (le 1 s.kiln.job.state ++ zeros 3 ++ s.kiln.job.result) s }

/-- `KILN_READ` (0x0704). -/
def opKilnRead : Op :=
  { need := fun _ => 8, states := allStates
    params := fun h s => let p := h.cmd.params; [(0, u32 p 0 + u16 p 4 ≤ s.workBytes), (1, 1 ≤ u16 p 4 && u16 p 4 ≤ 1016), (2, zeroAt p 6 2)]
    run := fun h s => .done 0 (s.workRead (u32 h.cmd.params 0) (u16 h.cmd.params 4)) s }

/-- The coder state blob of a stream (R291). -/
def State.coderBlob (s : State) (key : Nat) : Bytes :=
  let c := s.coder key
  let y := match s.refKey key, c.lastIndex with | some rk, some i => (c.refHist.or (s.refSample rk i false)).getD 0 | _, _ => 0
  let b := le 4 (s.streamId key) ++ le 4 c.lastSeq.toNat ++ leInt 4 (c.hist.getD 0 0) ++ leInt 4 (c.hist.getD 1 0) ++ leInt 4 (c.hist.getD 2 0) ++ leInt 4 y ++ le 2 (min 65535 c.count) ++ le 1 ((if c.hist.length = 3 then 1 else 0) + (if c.fresh then 2 else 0)) ++ le 1 (if isWide key then 24 else 18)
  b ++ le 4 (crc32c b)

/-- `KILN_GET_STATE` (0x0705). -/
def opKilnGetState : Op :=
  { need := fun _ => 4, states := allStates
    params := fun h _ => let p := h.cmd.params; [(0, u8 p 0 < 2), (1, zeroAt p 1 1), (2, u16 p 2 < 320)]
    run := fun h s => .done 0 (s.coderBlob (streamKey (u8 h.cmd.params 0) (u16 h.cmd.params 2))) s }

/-- The effect of `KILN_SET_CODING` (R301): the named streams' open records close, what has begun keeps the setting it began under, and what begins from now on follows the new one. -/
def effKilnSetCoding (_ : Nat) (p : Bytes) (s : State) : State × Option (Nat × Nat × Bytes) :=
  let kind := u8 p 0
  let keys := (List.range (u16 p 6)).map (fun i => settingOf kind (u16 p 4 + i))
  let s := s.closeRecords (fun k => keys.contains (codingKey k) && isCodable k)
  let begun := fun (r : Record) => if r.toCode && r.coder.isNone && keys.contains (codingKey r.key) then let c := s.coder (codingKey r.key); { r with coder := some (c.mask, c.ref, c.refresh) } else r
  let s : State := { s with
    streams := { s.streams with closed := s.streams.closed.map begun }
    kiln := { s.kiln with coders := s.kiln.coders.map (fun e => if keys.contains (codingKey e.1) then (e.1, { e.2 with forced := false }) else e) } }
  (keys.foldl (fun (s : State) k => s.setCoder k (fun c => { c with coding := u8 p 1, mask := u8 p 2, ref := u8 p 3, refresh := u16 p 8, forced := false })) s, some (0, 0, []))

/-- `KILN_SET_CODING` (0x0710). -/
def opKilnSetCoding : Op :=
  { need := fun _ => 24, states := settingStates
    params := fun h s =>
      let p := h.cmd.params
      [(0, [0, 1, 3].contains (u8 p 0)), (1, u8 p 1 < 2), (2, u8 p 2 != 0 && u8 p 2 < 64), (3, u8 p 3 < 2 || (u8 p 3 == 2 && s.twin.role == 3 && decide (32768 ≤ u16 p 4))), (4, codingRange (u8 p 0) (s.ownNumber (u16 p 4)) 1), (5, codingRange (u8 p 0) (s.ownNumber (u16 p 4)) (u16 p 6)), (7, zeroAt p 10 2), (8, zeroAt p 12 4), (9, timeRule h s (u64 p 16))]
    abort := abortChange, epoch := fun h s => some (s.effectTime (u64 h.cmd.params 16)), effect := effKilnSetCoding
    run := fun h s => configRun effKilnSetCoding (s.changeEpoch (u64 h.cmd.params 16)) h s }

/-- Loads a coder state blob (R291): whole where it belongs to the stream's last record, and otherwise the block count with the next record fresh. -/
def State.loadBlob (s : State) (key : Nat) (b : Bytes) : State :=
  let c := s.coder key
  if u32 b 0 = s.streamId key ∧ u32 b 4 = c.lastSeq.toNat then
    s.setCoder key (fun c => { c with hist := if (u8 b 26).testBit 0 then [i32 b 8, i32 b 12, i32 b 16] else [], refHist := some (i32 b 20), count := u16 b 24, fresh := (u8 b 26).testBit 1 })
  else s.setCoder key (fun c => { c with count := u16 b 24, fresh := true })

/-- The effect of `KILN_SET_STATE`. -/
def effKilnSetState (_ : Nat) (p : Bytes) (s : State) : State × Option (Nat × Nat × Bytes) :=
  (s.loadBlob (streamKey (u8 p 0) (u16 p 2)) (slice p 16 32), some (0, 0, []))

/-- `KILN_SET_STATE` (0x0711): it advances no config_gen (R299). -/
def opKilnSetState : Op :=
  { need := fun _ => 48, states := settingStates
    params := fun h s =>
      let p := h.cmd.params
      let b := slice p 16 32
      [(0, u8 p 0 < 2), (1, zeroAt p 1 1), (2, u16 p 2 < 320), (3, zeroAt p 4 4), (4, timeRule h s (u64 p 8)), (5, u32 b 28 == crc32c (b.take 28) && u8 b 27 == (if isWide (streamKey (u8 p 0) (u16 p 2)) then 24 else 18))]
    abort := abortChange, epoch := fun h s => some (s.effectTime (u64 h.cmd.params 8)), effect := effKilnSetState, ownGen := true
    run := fun h s =>
      match s.changeEpoch (u64 h.cmd.params 8) with
      | some e => .accepted [] (s.addChange h e)
      | none => .done 0 [] (effKilnSetState h.serial h.cmd.params s).1 }

/-- The effect of `KILN_TAP`: the old tap's channel loses its input, and the new one begins (R293). -/
def effKilnTap (_ : Nat) (p : Bytes) (s : State) : State × Option (Nat × Nat × Bytes) :=
  let i := u8 p 0
  let old := s.tap i
  let s := if old.on ∧ old.chan ≠ 0xFFFF then s.endChannel old.chan 2 else s
  let s := s.setTap i (fun _ => if u8 p 1 = 1 then { on := true, chan := u16 p 2, stream := BitVec.ofNat 32 (u32 p 4), rate := u32 p 8, wide := u32 p 4 / 65536 % 16 == 1 } else {})
  (if u8 p 1 = 1 ∧ u16 p 2 ≠ 0xFFFF then s.setMchan (u16 p 2) (fun c => { c with resetDue := true, brineNew := true }) else s, some (0, 0, []))

/-- Whether a hub address lies below one of the DN ports. -/
def State.isBelow (s : State) (a : Nat) : Bool := s.fabric.below.any (fun e => e.1 == a && (e.2 == .dn0 || e.2 == .dn1))

/-- `KILN_TAP` (0x0712). -/
def opKilnTap : Op :=
  { need := fun _ => 24, states := settingStates
    params := fun h s =>
      let p := h.cmd.params
      let on := u8 p 1 == 1
      let ch := u16 p 2
      let t := s.effectTime (u64 p 16)
      let taken := on && ch != 0xFFFF && ((s.feedAt (ch - 256) t).on || (s.tapsAt t).any (fun e => e.1 != u8 p 0 && e.2.on && e.2.chan == ch))
      [(0, u8 p 0 < 8), (1, u8 p 1 < 2), (2, ((256 ≤ ch && ch < 320) || ch == 0xFFFF) && !taken), (3, !on || (u32 p 4 / 65536 % 16 < 2 && s.isBelow (u32 p 4 / 1048576))), (4, 1 ≤ u32 p 8 && u32 p 8 ≤ 2500), (5, zeroAt p 12 4), (6, timeRule h s (u64 p 16))]
    abort := abortChange, epoch := fun h s => some (s.effectTime (u64 h.cmd.params 16)), effect := effKilnTap
    run := fun h s => configRun effKilnTap (s.changeEpoch (u64 h.cmd.params 16)) h s }

/-- The meaning of `KILN_WORKSPACE` (R294). (log 56: DEDUCED) -/
def runKilnWorkspace (h : Held) (s : State) : Answer :=
  let k := u32 h.cmd.params 0
  let t := { s with kiln := { s.kiln with workKiB := k, work := [], workWait := none } }
  if t.heldWords + 256 * t.spillPages ≤ 2097152 then .done 0 [] t
  else .accepted [] { s with kiln := { s.kiln with workKiB := 0, work := [], workWait := some (k, h.serial) } }

/-- `KILN_WORKSPACE` (0x0713). -/
def opKilnWorkspace : Op :=
  { need := fun _ => 8, states := settingStates
    params := fun h s => let p := h.cmd.params; [(0, u32 p 0 ≤ 8192 && !(s.kiln.job.state == 1 || s.kiln.job.state == 2)), (1, zeroAt p 4 4)]
    budget := fun h s => if 2097152 < (s.capture.groups.map (fun e => e.2.words)).sum + 64 * u32 h.cmd.params 0 ∨ s.kiln.workWait.isSome then some (stNoResource, 4) else none
    abort := fun h s => if s.kiln.workWait.any (·.2 == h.serial) then some { s with kiln := { s.kiln with workWait := none } } else none
    run := runKilnWorkspace }

/-- `KILN_WRITE` (0x0714). -/
def opKilnWrite : Op :=
  { need := fun p => 8 + u16 p 4, states := settingStates
    params := fun h s => let p := h.cmd.params; [(0, s.kiln.job.state != 1 && u32 p 0 + u16 p 4 ≤ s.workBytes), (1, 1 ≤ u16 p 4 && u16 p 4 ≤ 1016), (2, zeroAt p 6 2)]
    run := fun h s => .done 0 [] (s.workWrite (u32 h.cmd.params 0) (h.cmd.params.drop 8)) }

/-- Whether two regions share a byte. -/
def overlap (a n b m : Nat) : Bool := decide (a < b + m) && decide (b < a + n)

/-- The length of the reference region that a job needs, for a limit in samples. -/
def refLength (p : Bytes) (limit : Nat) : Nat := if u8 p 0 = 0 then u32 p 8 else 4 * limit

/-- The checks on the regions of a job, `out` and `n` its output region (R302); index 4, 6 or 9 by the parameter of `KILN_JOB_START`. (log 57: DEDUCED) -/
def State.regionsBad (s : State) (p : Bytes) (out n limit : Nat) : Option Nat :=
  let i := u32 p 4
  let len := u32 p 8
  let hasRef := (u8 p 2).testBit 1
  if s.workBytes < i + len then some 4
  else if s.workBytes < out + n ∨ overlap i len out n then some 6
  else if hasRef ∧ (s.workBytes < u32 p 24 + refLength p limit ∨ overlap (u32 p 24) (refLength p limit) i len ∨ overlap (u32 p 24) (refLength p limit) out n) then some 9
  else none

/-- The checks of `KILN_JOB_START`. -/
def jobParams (h : Held) (s : State) : List (Nat × Bool) :=
  let p := h.cmd.params
  let bad := s.regionsBad p (u32 p 12) (u32 p 16) (u32 p 20)
  let z := fun i => (u8 p 2).testBit 0 || u32 p i == 0
  [(0, u8 p 0 < 2), (1, u8 p 1 == 18 || u8 p 1 == 24), (2, u8 p 2 < 4), (3, if u8 p 0 = 0 then u8 p 3 != 0 && u8 p 3 < 64 else u8 p 3 == 0),
   (4, u32 p 4 % 4 == 0 && bad != some 4), (5, u32 p 8 % 4 == 0 && u32 p 8 != 0), (6, u32 p 12 % 4 == 0 && bad != some 6), (7, u32 p 16 % 4 == 0 && u32 p 16 != 0),
   (8, if u8 p 0 = 0 then u32 p 20 == 0 else u32 p 20 != 0), (9, ((u8 p 2).testBit 1 || u32 p 24 == 0) && bad != some 9), (10, z 28), (11, z 32), (12, z 36), (13, z 40), (14, zeroAt p 44 4)]

/-- The cost of a job in tokens (table "Heavy operations"). -/
def jobCost : Tokens := { vdd := 20 }

/-- `CMD_ABORT` of a job (R302): it ends with outcome 4 and is discarded. -/
def abortJob (h : Held) (s : State) : Option State :=
  if s.kiln.job.state = 1 ∧ s.kiln.job.ref = h.serial then
    some (((s.withdraw h.serial).returnTokens (fun r => r.op == 3)).setJob (fun j => { j with state := 3, outcome := 4, running := false }))
  else none

/-- `KILN_JOB_START` (0x0715). -/
def opKilnJobStart : Op :=
  { need := fun _ => 48, states := settingStates, params := jobParams
    budget := fun _ s => if s.kiln.job.state = 1 then some (stNoResource, 3) else none
    abort := abortJob
    run := fun h s =>
      let p := h.cmd.params
      let hist := if (u8 p 2).testBit 0 then [i32 p 28, i32 p 32, i32 p 36] else []
      .accepted [] ((s.setJob (fun _ => { state := 1, params := p, ref := h.serial, outOff := u32 p 12, outLen := u32 p 16, limit := u32 p 20, hist })).ask 3 0 jobCost false (some h.serial) none) }

/-- Whether the reference region of a job, for a limit, leaves the workspace or meets the input region (R302). -/
def State.referenceBad (s : State) (p : Bytes) (limit : Nat) : Bool :=
  (u8 p 2).testBit 1 && (decide (s.workBytes < u32 p 24 + refLength p limit) || overlap (u32 p 24) (refLength p limit) (u32 p 4) (u32 p 8))

/-- `KILN_JOB_RESUME` (0x0716): the regions are judged under the limit that will be in force; one that only the new limit makes too short is answered with its index. (log 57: DEDUCED) -/
def opKilnJobResume : Op :=
  { need := fun _ => 12, states := settingStates
    params := fun h s =>
      let p := h.cmd.params
      let j := s.kiln.job
      let l := if u32 p 8 = 0 then j.limit else u32 p 8
      let bad := (s.regionsBad j.params (u32 p 0) (u32 p 4) l).isSome
      let beyond := s.referenceBad j.params l
      [(0, j.state == 2), (0, u32 p 0 % 4 == 0 && (!bad || (u32 p 8 != 0 && beyond))), (1, u32 p 4 % 4 == 0 && u32 p 4 != 0), (2, u32 p 8 == 0 || (decide (j.samples ≤ u32 p 8) && !beyond))]
    abort := abortJob
    run := fun h s =>
      let p := h.cmd.params
      .accepted [] ((s.setJob (fun j => { j with state := 1, ref := h.serial, outOff := u32 p 0, outLen := u32 p 4, outPos := 0, limit := if u32 p 8 = 0 then j.limit else u32 p 8 })).ask 3 0 jobCost false (some h.serial) none) }

/-- The entries of group 0x07 by operation. -/
def kilnOps (n : Nat) : Option Op :=
  match n with
  | 0x01 => some opKilnGetCoding | 0x02 => some opKilnGetStatus | 0x03 => some opKilnJobGet | 0x04 => some opKilnRead | 0x05 => some opKilnGetState
  | 0x10 => some opKilnSetCoding | 0x11 => some opKilnSetState | 0x12 => some opKilnTap | 0x13 => some opKilnWorkspace | 0x14 => some opKilnWrite
  | 0x15 => some opKilnJobStart | 0x16 => some opKilnJobResume
  | _ => none

end Sys2Proof.Machine
end

