-- ==== Sys2Proof/Machine/Link.lean ====
section
/-! DEFINITION. Dalevo Link (chapter 12): frames, their CRC and cost, queues and priorities of a port, credits, the replay buffer, and what a port sends of itself (ACK, NAK, CREDIT, HELLO). -/
namespace Sys2Proof.Machine

open Sys2Proof

/-! ## Ports and links -/

/-- The code of a port (R343, table "Fabric ports"). -/
def Port.code : Port → Nat
  | .up => 0 | .dn0 => 1 | .dn1 => 2 | .twin => 3

/-- The port of a code. -/
def portOf (n : Nat) : Port := match n with | 0 => .up | 1 => .dn0 | 2 => .dn1 | _ => .twin

/-- The four ports. -/
def allPorts : List Port := [.up, .dn0, .dn1, .twin]

/-- The lanes of a port. -/
def State.port (s : State) (p : Port) : LanePort := Tbl.get {} s.fabric.ports (Port.code p)

/-- Changes the lanes of a port. -/
def State.setPort (s : State) (p : Port) (f : LanePort → LanePort) : State :=
  { s with fabric := { s.fabric with ports := Tbl.modify {} s.fabric.ports (Port.code p) f } }

/-- The link of a port. -/
def State.link (s : State) (p : Port) : Link := Tbl.get {} s.fabric.links (Port.code p)

/-- Changes the link of a port. -/
def State.setLink (s : State) (p : Port) (f : Link → Link) : State :=
  { s with fabric := { s.fabric with links := Tbl.modify {} s.fabric.links (Port.code p) f } }

/-- Counts a word of `FABRIC_GET_COUNTERS`, numbered from 0. -/
def State.countLink (s : State) (p : Port) (i : Nat) : State :=
  s.setLink p (fun l => { l with counters := Tbl.bump 32 l.counters i })

/-- Whether a port can carry blocks: its lanes are ACTIVE (R355 step 9). -/
def State.portActive (s : State) (p : Port) : Bool := (s.port p).state == 3

/-- Whether the link of a port is up. -/
def State.linkUp (s : State) (p : Port) : Bool := (s.link p).state == 3

/-- Whether a link runs Dalevo Link 1.x (R387). -/
def Link.old (l : Link) : Bool := l.version.1 == 1

/-- The largest frame payload on a link (R368, R387). (log 75: DEDUCED) -/
def Link.limit (l : Link) : Nat := if l.old then 1024 else 2048

/-! ## Frames (R368 to R371) -/

/-- The class of a frame: 0 TIME, 1 CONTROL, 2 EVENT, 3 DATA. -/
def frameClass (f : Frame) : Nat := f.flags.toNat % 4

/-- FIRST of a frame. -/
def frameFirst (f : Frame) : Bool := f.flags.getLsbD 2

/-- LAST of a frame. -/
def frameLast (f : Frame) : Bool := f.flags.getLsbD 3

/-- Whether a frame is of a port's own: ACK, NAK, CREDIT or HELLO, which cost nothing and are never held (R375, R378). -/
def isLinkFrame (f : Frame) : Bool := decide (2 ≤ f.type.toNat) && decide (f.type.toNat ≤ 5)

/-- Whether a frame takes a link_seq (table "Frame types"). -/
def isSequenced (f : Frame) : Bool := !isLinkFrame f && !(f.type == 1 && frameClass f == 0)

/-- Units of credit that a frame costs (R375, R403). -/
def frameCost (f : Frame) : Nat := (20 + f.payloadLength.toNat + 63) / 64

/-- Bytes of a frame: header, payload and CRC. -/
def frameSize (f : Frame) : Nat := 20 + f.payload.length

/-- A frame before it has its sequence and ack. (log 72: DEDUCED) -/
def frameOf (type flags target source hops : Nat) (payload : Bytes) : Frame :=
  { type := BitVec.ofNat 8 type, flags := BitVec.ofNat 8 flags, payloadLength := BitVec.ofNat 16 payload.length, target := BitVec.ofNat 16 target, source := BitVec.ofNat 16 source, linkSeq := 0, ack := 0, hops := BitVec.ofNat 8 hops, reserved := 0, payload, intact := true }

/-- The 16 header bytes of a frame (table "Frame header"). -/
def frameHeader (f : Frame) : Bytes :=
  [f.type, f.flags] ++ le 2 f.payloadLength.toNat ++ le 2 f.target.toNat ++ le 2 f.source.toNat ++ le 2 f.linkSeq.toNat ++ le 2 f.ack.toNat ++ [f.hops] ++ le 3 f.reserved.toNat

/-- The CRC-32 of a frame: IEEE 802.3 polynomial, reflected, initial value and final XOR of all ones (R369). -/
def crc32 (b : Bytes) : Nat := (b.foldl (crcByte 0xEDB88320) 0xFFFFFFFF) ^^^ 0xFFFFFFFF

/-- A frame as its bytes travel (R368, R369); one that is not intact carries another CRC. (log 70: DESIGN CHOICE) -/
def frameBytes (f : Frame) : Bytes :=
  let b := frameHeader f ++ f.payload
  b ++ le 4 (if f.intact then crc32 b else crc32 b ^^^ 1)

/-! ## Credits (R375 to R377) -/

/-- The initial grants of a port by class, in units (table "Initial grants"; R436 on TWIN). -/
def State.initialGrant (s : State) (p : Port) (cls : Nat) : Nat :=
  match cls with
  | 0 => 16
  | 1 => 128
  | 2 => match p with | .dn0 | .dn1 => 256 | _ => 64
  | _ =>
    match p with
    | .up => 0
    | .dn0 => 16 * s.fabric.grants.1
    | .dn1 => 16 * s.fabric.grants.2
    | .twin => if s.twin.mode = 2 ∧ (s.twin.role = 3 ∨ s.twin.asLead) then 16384 else 0

/-- How far a cumulative total lies ahead of another, modulo 2^32, as a signed distance. -/
def ahead (a b : Nat) : Int := signed 32 ((a + 2 ^ 32 - b % 2 ^ 32) % 2 ^ 32)

/-- Units that a link may still charge in a class. -/
def Link.available (l : Link) (cls : Nat) : Int := ahead (Tbl.get 0 l.granted cls) (Tbl.get 0 l.charged cls)

/-- Gives units of a class back to a port's partner as buffer space frees; DATA units withheld for a lowered grant are taken out first (R376, FABRIC_SET_CREDIT). -/
def State.giveBack (s : State) (p cls units : Nat) : State :=
  s.setLink (portOf p) (fun l =>
    let w := if cls = 3 then min l.withheld units else 0
    if units - w = 0 then { l with withheld := l.withheld - w }
    else { l with withheld := l.withheld - w, given := Tbl.modify 0 l.given cls (fun v => (v + (units - w)) % 2 ^ 32), grewAt := some (l.grewAt.getD s.now) })

/-- Gives back what a sent frame or record owes. -/
def State.payBack (s : State) (owe : Option (Nat × Nat × Nat)) : State :=
  match owe with
  | some (p, c, n) => s.giveBack p c n
  | none => s

/-- The CREDIT payload: the four cumulative grants. -/
def Link.creditPayload (l : Link) : Bytes := ((List.range 4).map (fun c => le 4 (Tbl.get 0 l.given c))).flatten

/-! ## Sending (R370, R375, R379) -/

/-- Bytes of a port's replay buffer in use. -/
def Link.replayBytes (l : Link) : Nat := (l.replay.map (fun r => frameSize r.frame)).sum

/-- Whether a port may send a frame for the first time now (R370, R375, R379, R383 to R385, R393). -/
def State.canSend (s : State) (p : Port) (f : Frame) : Bool :=
  let l := s.link p
  let cost := frameCost f
  s.portActive p &&
    (if f.type = 5 then true
     else if isLinkFrame f then l.state == 3
     else l.state == 3 && decide ((cost : Int) ≤ l.available (frameClass f)) && !(l.creditHold && isSequenced f) && (!isSequenced f || decide (l.replayBytes + frameSize f ≤ 65536)))

/-- Whether UP is attached. -/
def State.upAttached (s : State) : Bool := s.fabric.attached && s.linkUp .up

/-- The port by which the hub's own records leave (R312): UP; TWIN for a gang partner (R453), and for a gang lead whose UP is detached while its partner's is not (R456). (log 60: DEDUCED) -/
def State.recordPort (s : State) : Port :=
  if s.twin.mode = 2 ∧ s.twin.paired then
    if s.twin.role = 4 then (if s.twin.asLead then .up else .twin)
    else if s.twin.role = 3 ∧ !s.upAttached ∧ s.twin.partnerFlags.getLsbD 3 then .twin
    else .up
  else .up

/-- The target of the hub's own records on a port: the root, or on TWIN the partner (R435). -/
def State.recordTarget (s : State) (p : Port) : Nat := if p = .twin then u16 (s.link .twin).peer 12 else 0

/-- stream_id [19:0] as a stream's records carry it: a gang partner's carry 0x8000 (R453). -/
def State.outKey (s : State) (key : Nat) : Nat := if s.twin.mode = 2 ∧ s.twin.paired ∧ s.twin.role = 4 then key + 32768 else key

/-- The class of an own record (R312). -/
def recordClass (r : Record) : Nat := if r.key / 65536 = 6 then 2 else 3

/-- The class that a waiting record leaves in (R312, R373). -/
def OutRecord.cls (o : OutRecord) : Nat := if o.raw.isEmpty then recordClass o.body else if o.event then 2 else 3

/-- The class that a record's frames take on a port: on TWIN all records of a gang are DATA (R435). -/
def OutRecord.clsOn (o : OutRecord) (p : Port) : Nat := if p = .twin then 3 else o.cls

/-- Whether a record of a class is under way at a port: no other frame of the class comes between its fragments (R372). -/
def State.underWay (s : State) (p : Port) (cls : Nat) : Bool :=
  (s.streams.buffer ++ s.streams.control).any (fun o => o.sent.isSome && o.via == p && o.clsOn p == cls)

/-- A port sends blocks on its lanes (R346, R347). -/
def State.sendLine (s : State) (p : Port) (l : List LineBlock) : State :=
  s.setPort p (fun x => { x with tx := x.tx.send x.width (Port.code p) l, sentAt := s.now })

/-- A frame goes out on the lanes as the blocks that carry it (R368), and is counted. -/
def State.traceFrame (s : State) (p : Port) (f : Frame) : State :=
  ((s.sendLine p (frameBlocks (frameBytes f))).setLink p (fun l => { l with sent := l.sent ++ [f] })).countLink p 0

/-- A port sends a frame for the first time: its ack, its link_seq, its credit, its place in the replay buffer, and the CRC error that `DIAG_INJECT` has asked for. -/
def State.transmit (s : State) (p : Port) (f : Frame) (record : Option OutRecord) : State :=
  let l := s.link p
  let seqd := isSequenced f
  let f := { f with ack := BitVec.ofNat 16 l.rxNext, linkSeq := if seqd then BitVec.ofNat 16 l.txSeq else 0 }
  let bad := seqd && s.faults.crcInject.contains (Port.code p)
  let s := if bad then { s with faults := { s.faults with crcInject := s.faults.crcInject.erase (Port.code p) } } else s
  let s := s.setLink p (fun l =>
    let l := if isLinkFrame f then l else { l with charged := Tbl.modify 0 l.charged (frameClass f) (fun v => (v + frameCost f) % 2 ^ 32) }
    if seqd then { l with txSeq := (l.txSeq + 1) % 65536, ackAt := if l.replay.isEmpty then s.now else l.ackAt, replay := l.replay ++ [{ frame := f, sends := 1, record }] } else l)
  s.traceFrame p { f with intact := !bad }

/-- Fabric time at a port. -/
def State.timePort (s : State) (p : Port) : TimePort := Tbl.get {} s.time.ports (Port.code p)

/-- Changes fabric time at a port. -/
def State.setTimePort (s : State) (p : Port) (f : TimePort → TimePort) : State :=
  { s with time := { s.time with ports := Tbl.modify {} s.time.ports (Port.code p) f } }

/-- A TIME message whose frame has waited for `d` (2^−40 ns): its stamp is that of the instant at which it leaves (R405). That of a PDELAY_REQ is t1, which the hub keeps. -/
def restamp (m : Bytes) (d : Int) : Bytes :=
  let x := (65536 * u64 m 112 : Nat) + signed 64 (u64 m 120) + roundEven d 16777216
  match u8 m 0 with
  | 1 => m.take 112 ++ le 8 (x / 65536).toNat ++ le 8 (x % 65536).toNat
  | 3 => m.take 120 ++ le 8 ((signed 64 (u64 m 120) + roundEven d 16777216) % 2 ^ 64).toNat
  | _ => m

/-- A waiting frame as it leaves: a TIME frame takes the stamp of that instant (R405). (log 80: DEDUCED) -/
def State.stampFrame (s : State) (p : Port) (w : Queued) : State × Frame :=
  let d : Int := (s.time.counter : Int) - w.since
  if w.frame.type ≠ 1 ∨ frameClass w.frame ≠ 0 ∨ d = 0 then (s, w.frame)
  else (if u8 w.frame.payload 0 = 2 then s.setTimePort p (fun x => { x with asked := x.asked.map (fun a => (a.1, a.2 + d)) }) else s,
    { w.frame with payload := restamp w.frame.payload d })

/-- The first waiting frame of a kind: 4 a link frame, 0 to 3 a class. -/
def firstOf (kind : Nat) (q : List Queued) : Option Queued :=
  q.find? (fun w => if kind = 4 then isLinkFrame w.frame else !isLinkFrame w.frame && frameClass w.frame == kind)

/-- Removes the first waiting frame that is the given one. -/
def dropQueued (w : Queued) (q : List Queued) : List Queued := q.erase w

/-- The next frame that a port sends: link frames ahead, then TIME, CONTROL, EVENT, DATA, each in the order queued, and none between the fragments of a record (R370, R372). -/
def State.nextFrame (s : State) (p : Port) : Option Queued :=
  ([4, 0, 1, 2, 3].filterMap (fun k => (firstOf k (s.link p).waiting).filter (fun w => s.canSend p w.frame && !s.underWay p k))).head?

/-- A port sends what it may of its waiting frames. -/
def flushLoop (p : Port) : (fuel : Nat) → State → State
  | 0, s => s
  | fuel + 1, s =>
    match s.nextFrame p with
    | none => s
    | some w =>
      let s := s.setLink p (fun l => { l with waiting := dropQueued w l.waiting })
      let (s, f) := s.stampFrame p w
      flushLoop p fuel ((s.transmit p f w.record).payBack w.owe)

/-- A port sends what it may of its waiting frames. -/
def State.flush (s : State) (p : Port) : State := flushLoop p (s.link p).waiting.length s

/-- Queues a frame at a port. -/
def State.queueFrame (s : State) (p : Port) (f : Frame) (owe : Option (Nat × Nat × Nat)) : State :=
  State.flush (s.setLink p (fun l => { l with waiting := l.waiting ++ [{ frame := f, owe, since := s.time.counter }] })) p

/-- Queues a payload of a class as one PAYLOAD frame or, where it exceeds the link's limit, as fragments (R372). (log 72: DEDUCED; 75: DEDUCED) -/
def State.queuePayload (s : State) (p : Port) (cls target source hops : Nat) (payload : Bytes) (owe : Option (Nat × Nat × Nat)) (record : Option OutRecord) : State :=
  let m := (s.link p).limit
  let n := max 1 ((payload.length + m - 1) / m)
  let frags := (List.range n).map (fun i =>
    let fl := cls + (if i = 0 then 4 else 0) + (if i + 1 = n then 8 else 0)
    ({ frame := frameOf 1 fl target source hops (slice payload (i * m) m), owe := if i + 1 = n then owe else none, record } : Queued))
  State.flush (s.setLink p (fun l => { l with waiting := l.waiting ++ frags })) p

/-- The hub's own address. -/
def State.own (s : State) : Nat := s.fabric.address.toNat

/-- A port acknowledges (R381). -/
def State.sendAck (s : State) (p : Port) : State := s.queueFrame p (frameOf 2 1 0 s.own 0 []) none

/-- A port sends NAK: reason, consumed, and the offending link_seq (R391). -/
def State.sendNak (s : State) (p : Port) (reason consumed seq : Nat) : State :=
  (s.queueFrame p (frameOf 3 1 0 s.own 0 (le 1 reason ++ le 1 consumed ++ le 2 seq)) none).countLink p 5

/-- A port sends CREDIT with its cumulative grants (R376); on a port that rests in electrical idle or lane off it waits for the wake, and takes the place of one that waits already. -/
def State.sendCredit (s : State) (p : Port) : State :=
  let s := s.setLink p (fun l => { l with waiting := l.waiting.filter (fun w => w.frame.type != 4) })
  let s := s.queueFrame p (frameOf 4 1 0 s.own 0 (s.link p).creditPayload) none
  s.setLink p (fun l => { l with told := l.given, grewAt := none, creditAt := s.now })

/-- The identity that HELLO carries: the HUB_ID, which a gang partner replaces by its lead's (R455). -/
def State.hubIdentity (s : State) : Nat := if s.twin.asLead then (s.link .twin).peerHub else s.sys.hubId.toNat

/-- The capability bitmap that the hub sends (R386). -/
def capability : Nat := 0x7FFF

/-- The HELLO payload of a port (R384, table "HELLO payload"). A hub that has left offers its previous address as a link starts and where it asks to be attached again (R388, R397, FABRIC_REJOIN). -/
def State.helloPayload (s : State) (p : Port) : Bytes :=
  let l := s.link p
  let held := l.state == 4
  let fl := (if l.heard && !held then 1 else 0) + (if l.mayResume then 2 else 0) + (if l.state = 2 then 8 else 0)
  let addr := if s.own ≠ 0 then s.own else if l.helloOwed ∨ l.state ≠ 3 then s.fabric.previous.toNat else 0
  [1, 0] ++ [BitVec.ofNat 8 l.offered.1, BitVec.ofNat 8 l.offered.2] ++ [2, 3] ++ [1, 2] ++ [1, 1] ++ le 1 (Port.code p) ++ le 1 fl ++ le 2 addr ++ le 1 s.fabric.hops ++ [0] ++ le 8 capability ++ le 8 s.hubIdentity
    ++ le 2 (if l.offered.1 = 1 then 1024 else 2048) ++ le 2 l.rxNext ++ le 4 ((l.ownId.getD 0).toNat) ++ zeros 4 ++ le 2 (if l.state = 2 then 1 else 0) ++ zeros 2

/-- A port sends HELLO; its link_id is drawn once for each new link (R384). (log 71: DEDUCED) -/
def State.sendHello (s : State) (p : Port) (linkId : BitVec 32) : State :=
  let s := s.setLink p (fun l => { l with ownId := some (l.ownId.getD linkId), helloAt := some s.now })
  s.queueFrame p (frameOf 5 1 0 s.own 0 (s.helloPayload p)) none

/-! ## Acknowledgement and replay (R378 to R382) -/

/-- How many held frames an ack covers. -/
def Link.acked (l : Link) (ack : Nat) : Nat :=
  match l.replay with
  | [] => 0
  | r :: _ =>
    let d := (ack + 65536 - r.frame.linkSeq.toNat) % 65536
    if d ≤ l.replay.length then d else 0

/-- A port frees the held frames that lie before an ack (R379). -/
def State.freeAcked (s : State) (p : Port) (ack : Nat) : State :=
  let n := (s.link p).acked ack
  if n = 0 then s else s.setLink p (fun l => { l with replay := l.replay.drop n, ackAt := s.now })

/-- A port takes an ack: it frees the frames that lie before it, and sends what then may go. -/
def State.takeAck (s : State) (p : Port) (ack : Nat) : State :=
  if (s.link p).acked ack = 0 then s else (s.freeAcked p ack).flush p

/-- A port sends again, in original order, every frame it holds (R382); one whose lanes rest does so once they have woken. -/
def State.resendAll (s : State) (p : Port) : State :=
  let held := (s.link p).replay
  if held.isEmpty ∨ !s.linkUp p then s
  else if !s.portActive p then s.setLink p (fun l => { l with resendOwed := true })
  else
    let s := s.setLink p (fun l => { l with resendOwed := false })
    let s := s.countLink p 3
    let s := held.foldl (fun (s : State) r => (s.traceFrame p { r.frame with ack := BitVec.ofNat 16 (s.link p).rxNext }).countLink p 4) s
    s.setLink p (fun l => { l with ackAt := s.now, replay := l.replay.map (fun r => { r with sends := r.sends + 1 }) })

/-- A port that has woken sends again what its partner asked for while it rested, and then what waits (R364, R382). -/
def State.carryOn (s : State) (p : Port) : State := (if (s.link p).resendOwed then s.resendAll p else s).flush p

/-! ## A link comes and goes with its port (R383, R387, R394) -/

/-- The link of a port goes to a state. -/
def State.linkState (s : State) (p : Port) (st reason : Nat) : State :=
  s.setLink p (fun l => { l with state := st, reason, changedAt := if l.state = st then l.changedAt else s.now, downAt := if l.state = 3 ∧ st ≠ 3 then s.now else l.downAt })

/-- A port leaves ACTIVE (R383): the frame under way is cut, unsequenced frames that wait are dropped, and what is held stays. A link that was up asks to resume, and one that is held stays so (R393). -/
def State.linkDown (s : State) (p : Port) : State :=
  let up := s.linkUp p
  let s := if (s.link p).state = 4 then s else s.linkState p 0 (if (s.link p).reason = 3 then 3 else 0)
  s.setLink p (fun l => { l with heard := false, mayResume := l.mayResume || (up && !l.old), resendOwed := false, waiting := l.waiting.filter (fun w => isSequenced w.frame) })

/-- A link leaves the hold, as `LANE_RETRAIN` and `LANE_PORT_ENABLE` have it (R393). -/
def State.unhold (s : State) (p : Port) : State := if (s.link p).state = 4 then s.linkState p 0 0 else s

/-- A port becomes ACTIVE: HELLO begins with the versions now offered, and with the link_id of before where the link may resume (R383 to R385). -/
def State.linkStart (s : State) (p : Port) : State :=
  let s := if (s.link p).state = 4 then s else s.linkState p 1 0
  s.setLink p (fun l => { l with offered := s.fabric.maxVersion, versionLogged := false, helloAt := none, heard := false, resumed := false, ownId := if l.mayResume then l.ownId else none })

/-- The records that restart with a link: those with an unacknowledged fragment, each once, to be sent again whole (R387). -/
def restartRecords : List Replay → List OutRecord → List OutRecord
  | [], acc => acc
  | r :: rest, acc =>
    match r.record with
    | some o => if acc.any (fun a => a.admission == o.admission) then restartRecords rest acc else restartRecords rest (acc ++ [{ o with sent := none }])
    | none => restartRecords rest acc

/-- The frames of a queue that may still go out once what was sent before them is lost: the rest of a message whose first fragment is gone is dropped (R372). -/
def wholeFrames : List Queued → (open' : List Nat) → List Queued
  | [], _ => []
  | w :: r, l =>
    let c := frameClass w.frame
    if w.frame.type ≠ 1 then w :: wholeFrames r l
    else if frameFirst w.frame ∨ l.contains c then w :: wholeFrames r (c :: l)
    else wholeFrames r l

/-- A record of the stores owes nothing to a port whose link has begun anew. -/
def State.forgetOwed (s : State) (p : Port) : State :=
  let clear := fun (e : Option (Nat × Nat × Nat)) => e.filter (fun e => e.1 != Port.code p)
  let out := fun (l : List OutRecord) => l.map (fun (o : OutRecord) => { o with owe := clear o.owe })
  let s : State := { s with streams := { s.streams with buffer := out s.streams.buffer } }
  allPorts.foldl (fun (s : State) q => s.setLink q (fun l => { l with waiting := l.waiting.map (fun (w : Queued) => { w with owe := clear w.owe }) })) s

/-- A link that restarts (R383, R387): every counter is reset and the replay buffer emptied; records with an unacknowledged fragment go back to their store, unacknowledged ATTACH, ASSIGN and DETACH frames are sent again, and other CONTROL frames are discarded and counted. Partial records from the partner are discarded. (log 71: DEDUCED) -/
def State.restartLink (s : State) (p : Port) : State :=
  let held := (s.link p).replay
  let again := held.filterMap (fun r => if r.frame.type = 7 ∨ r.frame.type = 8 ∨ (r.frame.type = 9 ∧ r.record.isNone) then some ({ frame := r.frame } : Queued) else none)
  let recs := restartRecords held []
  let lost := (held.filter (fun r => (r.frame.type = 1 ∨ r.frame.type = 10) ∧ frameClass r.frame = 1)).length
  let parts := (s.link p).frags.length
  let s := s.setLink p (fun l => { l with txSeq := 0, rxNext := 0, granted := [], charged := [], taken := [], replay := [], frags := [], mayResume := false, creditHold := false, withheld := 0, waiting := again ++ wholeFrames l.waiting [], counters := Tbl.modify 0 (Tbl.modify 0 l.counters 9 (fun v => sat 32 (v + parts))) 15 (fun v => sat 32 (v + lost)), given := (List.range 4).map (fun c => (c, s.initialGrant p c)), told := [] })
  let s := s.forgetOwed p
  let unsend := fun (l : List OutRecord) => l.map (fun (o : OutRecord) => if o.sent.isSome ∧ o.via = p then { o with sent := none } else o)
  let inControl := fun (o : OutRecord) => o.raw.isEmpty && decide (6 ≤ o.body.kind)
  { s with streams := { s.streams with
      buffer := unsend ((recs.filter (fun o => !inControl o)).foldl (fun l o => insertRecord o l) s.streams.buffer),
      control := unsend ((recs.filter inControl).foldl (fun l o => insertRecord o l) s.streams.control) } }

end Sys2Proof.Machine
end

