-- ==== Sys2Proof/Machine/Time.lean ====
section
/-! DEFINITION. Fabric time (chapter 13): the counter and its increment, TIME messages, peer delay, acquisition, the servo, losing and regaining time, reference inputs and outputs, and the meanings of group 0x0A. Offsets and stamps are in 2^−40 ns, the counter's own resolution. -/
namespace Sys2Proof.Machine

open Sys2Proof

/-! ## Units -/

/-- One nanosecond in 2^−40 ns. -/
def oneNs : Int := 1099511627776

/-- A number of ps in 2^−40 ns. -/
def psTime (ps : Int) : Int := roundDiv (ps * oneNs) 1000

/-- A time in 2^−40 ns rounded to 2^−16 ns, ties to even (R7, R401). -/
def to16 (x : Int) : Int := roundEven x 16777216

/-- Whether an offset lies beyond a bound in ps. -/
def beyondPs (x : Int) (ps : Nat) : Bool := decide ((ps : Int) * oneNs < 1000 * x.natAbs)

/-- The mean of a list of increments; 1.0 where there is none. -/
def meanInc (l : List Nat) : Nat := if l.isEmpty then 2 ^ 40 else l.sum / l.length

/-- A frequency in 0.01 ppb as a part of the increment. -/
def freqInc (f : Int) : Int := roundDiv (f * oneNs) 100000000000

/-- Sets inc, held within 1.0 ± 500 ppm; each clamp counts (R400). -/
def State.setInc (s : State) (x : Int) : State :=
  let lo : Int := oneNs - oneNs / 2000
  let hi : Int := oneNs + oneNs / 2000
  let y := clampInt lo hi x
  { s with time := { s.time with inc := y.toNat, clamps := if x = y then s.time.clamps else sat 32 (s.time.clamps + 1) } }

/-! ## Steps (R149, R401, R419) -/

/-- Accounts for the strobes that a forward step skips: their samples as holes of reason TIME_STEP; answers their number (R149). -/
def State.skipStrobes (s : State) (before after : Nat) : Nat × State :=
  let g := s.grid
  let from' := max before (max (if s.front.struck then s.front.lastTime else 0) s.front.passedTo)
  let k0 := if from' < g.2 then 0 else (from' - g.2) / g.period + 1
  let k1 := if after < g.2 then 0 else (after - g.2) / g.period + 1
  let n := k1 - k0
  if n = 0 then (0, s)
  else
    let s := (List.range 32).foldl (fun (s : State) p =>
      let x := s.pan p
      let d := 2 ^ x.log2D
      let due := (k1 + d - 1) / d - (k0 + d - 1) / d
      if x.power ≠ .on ∨ s.dieLost (dieOf p) ∨ s.interrupted p ∨ due = 0 then s
      else
        let i := (k0 + d - 1) / d
        let holes := (seqChannels x.seq).map (fun c => ({ ch := 8 * p + c, index := i, time := g.at (i * d), code := 0, gap := 3, count := due, flags := 0 } : PanSample))
        let s := s.setPan p (fun q => { q with armed := q.armed.filter (fun m => decide (after < m.time)), strobes := q.strobes.filter (fun m => decide (after < m.time)), sentTo := max q.sentTo (g.at (k1 - 1)) })
        s.pushHoles p holes) s
    (n, { s with front := { s.front with passedTo := g.at (k1 - 1) } })

/-- A PDELAY_RESP that still waits as fabric time steps has its stamps on both sides of the step: the exchange is discarded and counted (R419). -/
def State.dropAnswers (s : State) : State :=
  let parted := fun (w : Queued) => w.frame.type == 1 && frameClass w.frame == 0 && u8 w.frame.payload 0 == 3
  allPorts.foldl (fun (s : State) p =>
    if (s.link p).waiting.any parted then
      (s.setLink p (fun l => { l with waiting := l.waiting.filter (fun w => !parted w) })).setTimePort p (fun x => { x with discarded := sat 32 (x.discarded + 1) })
    else s) s

/-- Fabric time steps by a signed number of 2^−40 ns (R149, R401). (log 7: DESIGN CHOICE) -/
def State.stepTime (s : State) (delta : Int) : State :=
  let before := s.now
  let counter := (((s.time.counter : Int) + delta) % 2 ^ 104).toNat
  let s := { s with time := { s.time with counter, stepAt := counter, steps := sat 32 (s.time.steps + 1), ports := s.time.ports.map (fun (e : Nat × TimePort) => (e.1, { e.2 with asked := none })), syncRx := s.time.syncRx.map (· + delta) } }
  let s := s.dropAnswers.stepUnits before
  if s.strikes then
    let (n, s) := if 0 < delta then s.skipStrobes before s.now else (0, s)
    let s := { s with front := { s.front with skipped := sat 32 (s.front.skipped + n) } }
    s.logFault 0x0041 0 n (clampInt (-2147483648) 2147483647 (roundDiv delta 1099511627776) % 4294967296).toNat
  else { s with front := { s.front with strikeFrom := s.now + 1, passedTo := 0, struck := false } }

/-! ## Losing time (R415 to R417) -/

/-- The hub runs free on its held increment and the ageing adjustment (R417); the servo keeps inc_F and its integral (R411). (log 79: DEDUCED) -/
def State.freeRun (s : State) (phase : Nat) : State :=
  let h := s.time.held
  let s := { s with time := { s.time with phase, applied := s.time.ageing, regain := false, count := 0, locked := 0, far := 0, unlocked := 0, good := 0, bridgeAt := none } }
  s.setInc ((h : Int) + freqInc s.time.ageing)

/-- The exit time of a power state, ns (table "Power states"). -/
def exitTime (p : Nat) : Nat := match p with | 0 => 0 | 1 => 200 | 2 => 5000 | 3 => 80000 | _ => 2000000

/-- The deepest power state allowed to a group (table "Function groups"). -/
def deepest (group : Nat) : Nat := if group = 5 then 2 else 4

/-- The state that a tolerance derives for a group (R485). -/
def derived (group tol : Nat) : Nat := ((List.range (deepest group + 1)).filter (fun p => decide (exitTime p ≤ tol))).getLastD 0

/-- The groups come back as the hub leaves DORMANT: the pans group at P0, the others at their derived states or shallower (R490). -/
def State.restoreGroups (s : State) : State :=
  { s with power := { s.power with states := s.power.states.zipIdx.map (fun e => if e.2 = 0 then 0 else min e.1 (derived e.2 (s.power.tolerance.getD e.2 0))) } }

/-- The hub returns to WAIT (R410, R416). -/
def State.waitAgain (s : State) : State :=
  { s with time := { s.time with phase := 0, count := 0, good := 0, far := 0, unlocked := 0, locked := 0, fit := [], bridgeAt := none } }

/-- The hub loses fabric time (R416): cause 1 bridge, 2 offset, 3 parent, 4 detached. -/
def State.loseTime (s : State) (cause : Nat) : State :=
  if s.sys.hub = .timelock then s.waitAgain
  else if s.time.phase ≠ 5 ∧ s.time.phase ≠ 6 then s
  else
    let ps := clampInt (-2147483648) 2147483647 (roundDiv (s.time.offset * 1000) 1099511627776)
    let s := s.logFault 0x0040 0 cause (ps % 4294967296).toNat
    let s := { s with time := { s.time with losses := sat 32 (s.time.losses + 1), changedAt := s.now, held := meanInc (s.time.values.drop 16) } }
    match s.sys.hub with
    | .run | .reconfigure => (s.freeRun 8).go .holdover 0x0080
    | .ready => s.waitAgain.go .timelock 0x0083
    | .dormant => (s.waitAgain.restoreGroups).go .timelock 0x0083
    | .calibrate => { s.freeRun 8 with sys := { (s.freeRun 8).sys with timeLostInCal := true } }
    | _ => s.freeRun 8

/-- A break in the time source is bridged: inc at the mean of the last servo values (R415), or as it stands where the servo has set none. While the hub acquires time it keeps its phase (R410). (log 80: DEDUCED) -/
def State.bridge (s : State) : State :=
  let x := s.time
  if (x.phase ≠ 5 ∧ (x.phase < 2 ∨ 4 < x.phase)) ∨ x.bridgeAt.isSome then s
  else
    let s := { s with time := { x with phase := if x.phase = 5 then 6 else x.phase, bridgeAt := some s.now } }
    if x.values.isEmpty then s else s.setInc (meanInc x.values)

/-! ## TIME messages (R402 to R405, R413) -/

/-- The port from which the hub takes time (R402, R452, TWIN_SET_TIMING): UP, or TWIN for a gang partner or a standby told so; none in local mode. -/
def State.timeSource (s : State) : Option Port :=
  if s.sys.localMode then none
  else if s.twin.paired ∧ (s.twin.role = 4 ∨ (s.twin.role = 2 ∧ s.twin.timeSrc = 1)) then some .twin
  else some .up

/-- The hop count h of the hub (R151): the links to its root, of which TWIN is one where time is taken over it; 0 in local mode. -/
def State.hopCount (s : State) : Nat :=
  if s.sys.localMode then 0 else if s.timeSource = some .twin then min 255 (s.time.parentHops + 1) else s.fabric.hops

/-- Whether the hub gives time on a port (R402). -/
def State.givesTime (s : State) (p : Port) : Bool :=
  match p with
  | .up => false
  | .dn0 | .dn1 => s.linkUp p && (s.link p).attached
  | .twin => s.linkUp p && s.twin.paired && (s.twin.role == 3 || (s.twin.role == 1 && s.twin.timeSrc == 1))

/-- Whether the hub meets the time-lock criterion and holds time. -/
def State.timeLocked (s : State) : Bool := s.time.phase == 5 || s.time.phase == 6

/-- The flags that the hub sends (R413). -/
def State.timeFlags (s : State) : Nat :=
  (if s.timeLocked ∨ (s.time.phase = 9 ∧ s.sys.hub ≠ .timelock) then 1 else 0) + (if s.time.phase = 7 ∨ s.time.phase = 8 then 2 else 0)
    + (if s.timeLocked ∧ s.time.flags.getLsbD 2 then 4 else 0) + (if s.sys.localMode then 8 else 0)

/-- The sync interval of a code, ns (R402). -/
def syncInterval (code : Nat) : Nat := 125000 * 2 ^ code

/-- The interval code in force on a port: the parent's where time is taken, else the hub's. -/
def State.codeOn (s : State) (p : Port) : Nat := if s.timeSource = some p then s.time.parentCode else s.time.code

/-- The payload of a TIME message (R404). -/
def State.timeMessage (s : State) (kind seq answered origin : Nat) (correction : Int) : Bytes :=
  le 1 kind ++ le 1 s.timeFlags ++ le 2 seq ++ le 2 answered ++ le 1 s.hopCount ++ le 1 s.time.code ++ le 8 s.sys.hubId.toNat ++ zeros 96 ++ le 8 origin ++ leInt 8 correction

/-- Sends a TIME message (R403). -/
def State.sendTime (s : State) (p : Port) (m : Bytes) : State := s.queueFrame p (frameOf 1 0x0C 0 s.own 0 m) none

/-- A SYNC falls due on a time-giving port (R402, R405): t_tx is now and a fraction of 2^−16 ns. -/
def State.syncSend (s : State) (p : Port) (frac : Nat) : State :=
  let x := s.timePort p
  if !s.givesTime p ∨ s.sys.hub = .reset ∨ s.sys.hub = .boot ∨ x.syncAt.any (fun a => decide (s.now < a + syncInterval s.time.code)) then s
  else
    let s := s.setTimePort p (fun x => { x with syncAt := some s.now, seqSync := (x.seqSync + 1) % 65536, syncSent := sat 32 (x.syncSent + 1) })
    s.sendTime p (s.timeMessage 1 x.seqSync 0 s.now (frac % 65536))

/-! ## Peer delay (R402, R406, R407) -/

/-- Whether a port holds d̂: 16 accepted measurements (R407). -/
def TimePort.holds (x : TimePort) : Bool := x.mean.isSome

/-- A PDELAY_REQ falls due on the time-taking port: every interval until d̂ is held, then every 16th (R407). -/
def State.delayAsk (s : State) (p : Port) (t1 : Int) : State :=
  let x := s.timePort p
  let every := syncInterval (s.codeOn p) * (if x.holds then 16 else 1)
  if s.timeSource ≠ some p ∨ !s.linkUp p ∨ x.askedAt.any (fun a => decide (s.now < a + every)) then s
  else
    let s := s.setTimePort p (fun x => { x with asked := some (x.seqReq, t1), askedAt := some s.now, seqReq := (x.seqReq + 1) % 65536 })
    s.sendTime p (s.timeMessage 2 x.seqReq 0 0 0)

/-- A port counts a measurement or exchange that it discards (R403, R406, R419). -/
def State.lostDelay (s : State) (p : Port) : State := s.setTimePort p (fun x => { x with discarded := sat 32 (x.discarded + 1) })

/-- Whether an instant of the hub's own time lies on the other side of the last step (R419). -/
def State.acrossStep (s : State) (stamp : Int) : Bool := decide (stamp < s.time.stepAt) || decide ((s.time.counter : Int) < stamp)

/-- A PDELAY_REQ arrives: PDELAY_RESP with t3 − t2 (R402, R405). An exchange that a step parts is discarded (R419). -/
def State.delayAnswer (s : State) (p : Port) (f : Frame) (t2 t3 : Int) : State :=
  if s.acrossStep t2 then s.lostDelay p
  else
    let x := s.timePort p
    let s := s.setTimePort p (fun x => { x with seqResp := (x.seqResp + 1) % 65536, respSent := sat 32 (x.respSent + 1) })
    s.sendTime p (s.timeMessage 3 x.seqResp (u16 f.payload 2) 0 (to16 (t3 - t2)))

/-- The mean of 16 delays. (log 78: DEDUCED) -/
def meanDelay (l : List Int) : Option Int := if l.length < 16 then none else some (roundDiv l.sum l.length)

/-- Accepts a delay (R407): an outlier is discarded, and four in a row discard d̂. (log 78: DEDUCED) -/
def TimePort.take (x : TimePort) (d : Int) : TimePort :=
  match x.mean with
  | some m =>
    if beyondPs (d - m) 2000 then
      if x.outliers = 3 then { x with outliers := 0, delays := [], mean := none, discarded := sat 32 (x.discarded + 1) }
      else { x with outliers := x.outliers + 1, discarded := sat 32 (x.discarded + 1) }
    else
      let l := (d :: x.delays).take 16
      { x with outliers := 0, delays := l, mean := meanDelay l, accepted := sat 32 (x.accepted + 1) }
  | none =>
    let l := (d :: x.delays).take 16
    { x with outliers := 0, delays := l, mean := meanDelay l, accepted := sat 32 (x.accepted + 1) }

/-- The hub discards d̂ after every training or degrade of a port (R407). -/
def State.dropDelay (s : State) (p : Port) : State :=
  s.setTimePort p (fun x => { x with delays := [], mean := none, outliers := 0, asked := none })

/-- A PDELAY_RESP arrives: d = ((t4 − t1) − correction) / 2 (R406). -/
def State.delayTake (s : State) (p : Port) (f : Frame) (t4 : Int) : State :=
  if s.timeSource ≠ some p then s
  else
    match (s.timePort p).asked with
    | none => s.lostDelay p
    | some (q, t1) =>
      if q ≠ u16 f.payload 4 then s.lostDelay p
      else if 100000 * oneNs < t4 - t1 then (s.lostDelay p).setTimePort p (fun x => { x with asked := none })
      else
        let had := (s.timePort p).holds
        let d := roundDiv ((t4 - t1) - i64 f.payload 120 * 16777216) 2
        let s := s.setTimePort p (fun x => { x.take d with asked := none })
        let has := (s.timePort p).holds
        if !had && has && s.time.phase == 1 then { s with time := { s.time with phase := 2, count := 0, unlocked := 0 } }
        else if had && !has then s.bridge else s

/-! ## Acquisition and servo (R409 to R418) -/

/-- The PI servo (R411): inc = inc_F − (kp × θ̂ + I) / τ_s, to which the ageing adjustment adds while it is applied (R400, R417). (log 79: DEDUCED) -/
def State.servo (s : State) (theta tau : Int) : State :=
  let x := s.time
  let i := x.integral + x.ki * theta
  let s := { s with time := { x with integral := i } }
  let s := if tau ≤ 0 then s else s.setInc ((x.base : Int) + freqInc x.applied - ((x.kp * theta + i) * 16777216).fdiv tau)
  { s with time := { s.time with values := (s.time.inc :: s.time.values).take 1024 } }

/-- The least-squares slope of θ̂ against t_rx, as a part of the increment (R410, FREQ). (log 79: DEDUCED) -/
def slope (pts : List (Int × Int)) : Int :=
  let n : Int := pts.length
  let sx := (pts.map (·.1)).sum
  let sy := (pts.map (·.2)).sum
  let sxx := (pts.map (fun e => e.1 * e.1)).sum
  let sxy := (pts.map (fun e => e.1 * e.2)).sum
  let d := n * sxx - sx * sx
  if d = 0 then 0 else ((n * sxy - sx * sy) * oneNs).fdiv d

/-- The run of SYNCs whose flags show LOCKED alone, or not, that a SYNC extends or breaks, accepted or not (R410, R416, R418). (log 80: DEDUCED) -/
def State.noteFlags (s : State) : State :=
  let x := s.time
  let bad := !x.flags.getLsbD 0 || x.flags.getLsbD 1
  { s with time := { x with unlocked := if bad then x.unlocked + 1 else 0, locked := if bad then 0 else x.locked + 1 } }

/-- The runs that an accepted SYNC extends or breaks. -/
def State.noteSync (s : State) (theta : Int) : State :=
  let x := s.time
  { s with time := { x with good := if beyondPs theta x.wLock then 0 else sat 32 (x.good + 1), far := if beyondPs theta x.wLoss then x.far + 1 else 0 } }

/-- The offset condition of R414: beyond the step threshold once, or beyond W_loss four times in a row. -/
def State.offsetBreaks (s : State) (theta : Int) : Bool := beyondPs theta (1000 * s.time.stepLimit) || decide (4 ≤ s.time.far)

/-- A SYNC accepted while the hub acquires time (table "Acquisition phases"). (log 80: DEDUCED) -/
def State.acquire (s : State) (theta tau rx : Int) : State :=
  if 4 ≤ s.time.unlocked then s.waitAgain
  else if s.time.phase = 2 ∧ s.time.count = 0 then
    let s := s.stepTime (-theta)
    { s with time := { s.time with bridgeAt := none, count := 1, fit := [(0, 0)], syncRx := some (rx - theta), held := 2 ^ 40, far := 0 } }
  else if s.offsetBreaks theta then s.waitAgain
  else if s.time.bridgeAt.isSome ∧ beyondPs theta s.time.wLoss then s
  else
  let s := { s with time := { s.time with bridgeAt := none } }
  match s.time.phase with
    | 2 =>
      let pts := (((s.time.fit.headD (0, 0)).1 + tau, theta) :: s.time.fit)
      let n := s.time.count + 1
      if n < 128 then { s with time := { s.time with fit := pts, count := n } }
      else
        let s := s.setInc ((s.time.inc : Int) - slope pts)
        { s with time := { s.time with phase := 3, count := 0, fit := [], base := s.time.inc, integral := 0 } }
    | 3 =>
      let s := s.servo theta tau
      if s.time.count + 1 < 32 then { s with time := { s.time with count := s.time.count + 1 } } else { s with time := { s.time with phase := 4, count := 0 } }
    | _ =>
      let s := s.servo theta tau
      let n := if beyondPs theta s.time.wLock then 0 else s.time.count + 1
      if n < 1024 then { s with time := { s.time with count := n } }
      else
        let s := { s with time := { s.time with phase := 5, count := 0, changedAt := s.now } }
        if s.sys.hub = .timelock then s.go .ready 0x0020 else s

/-- A regain starts over: the hub follows its parent in holdover again, or runs free where the parent is not in holdover (R417, R418). -/
def State.regainAgain (s : State) : State :=
  if s.time.flags.getLsbD 1 then { s with time := { s.time with regain := false, locked := 0, far := 0, unlocked := 0, count := 0, phase := 7 } } else s.freeRun 8

/-- The hub follows no longer a parent in holdover, and has not yet begun to regain: it runs free (R417). -/
def State.followEnds (s : State) : State :=
  if s.time.phase = 8 then s else { s with time := { s.time with phase := 8 } }.setInc ((s.time.held : Int) + freqInc s.time.applied)

/-- A SYNC accepted in holdover (R417, R418). -/
def State.holdoverSync (s : State) (theta tau : Int) : State :=
  if s.time.regain then
    if s.offsetBreaks theta ∨ 4 ≤ s.time.unlocked then s.regainAgain
    else
      let s := s.servo theta tau
      let n := if beyondPs theta s.time.wLock then 0 else s.time.count + 1
      if n < 64 then { s with time := { s.time with count := n } }
      else
        let s := { s with time := { s.time with phase := 5, regain := false, count := 0, changedAt := s.now, applied := 0 } }
        match s.sys.hub with
        | .holdover => s.go .run 0x0081
        | _ => s
  else if 4 ≤ s.time.locked then
    let s := { s with time := { s.time with regain := true, count := 0, far := 0, phase := 7 } }
    if beyondPs theta (1000 * s.time.stepLimit) then s.stepTime (-theta) else s.servo theta tau
  else if s.time.flags.getLsbD 1 then ({ s with time := { s.time with phase := 7 } }).servo theta tau
  else s.followEnds

/-- A SYNC accepted while the hub is locked or bridges (R414, R415). -/
def State.lockedSync (s : State) (theta tau : Int) : State :=
  if s.offsetBreaks theta then s.loseTime 2
  else if 4 ≤ s.time.unlocked then s.loseTime 3
  else if s.time.phase = 6 then
    if beyondPs theta s.time.wLoss then s else (({ s with time := { s.time with phase := 5, bridgeAt := none } }).servo theta tau)
  else s.servo theta tau

/-- A SYNC is discarded and counted; the fourth in a row that does not show LOCKED alone has its effect all the same (R410, R416, R418). (log 80: DEDUCED) -/
def State.syncDropped (s : State) : State :=
  let s := { s with time := { s.time with discarded := sat 32 (s.time.discarded + 1) } }
  if s.time.unlocked < 4 then s
  else match s.time.phase with
    | 2 | 3 | 4 => s.waitAgain
    | 5 | 6 => s.loseTime 3
    | _ => if s.time.regain then s.regainAgain else s

/-- A SYNC arrives on the time-taking port (R409 to R418). It was sent d̂ and A before it came, which must lie on the same side of a step (R419). (log 80: DEDUCED) -/
def State.syncTake (s : State) (p : Port) (f : Frame) (rx : Int) : State :=
  if s.timeSource ≠ some p ∨ s.sys.hub = .discover then s
  else
    let s := s.setTimePort p (fun x => { x with syncRcvd := sat 32 (x.syncRcvd + 1) })
    let b := f.payload
    let root := bit (u8 (s.link p).peer 11) 2
    let x := s.timePort p
    let s := { s with time := { s.time with flags := b.getD 1 0, parentCode := u8 b 7 % 8, parentHops := u8 b 6, parentRoot := root } }
    let s := if s.time.phase = 0 ∧ (s.time.flags.getLsbD 0 ∨ root) then { s with time := { s.time with phase := if x.holds then 2 else 1, count := 0, far := 0, unlocked := 0 } } else s
    let s := s.noteFlags
    let seq := u16 b 2
    let fresh := match s.time.syncSeq with | none => true | some q => let d := (seq + 65536 - q) % 65536; decide (0 < d) && decide (d < 32768)
    match x.mean with
    | none => s.syncDropped
    | some d =>
      if !fresh ∨ s.acrossStep rx ∨ s.acrossStep (rx - d - psTime x.asym) ∨ s.time.phase < 2 ∨ s.time.phase = 9 then s.syncDropped
      else
        let theta := rx - (u64 b 112 * oneNs + i64 b 120 * 16777216) - d - psTime x.asym
        let tau := match s.time.syncRx with | some r => rx - r | none => 0
        let s := { s with time := { s.time with accepted := sat 32 (s.time.accepted + 1), offset := theta, syncAt := some s.now, syncSeq := some seq, syncRx := some rx } }
        let s := s.noteSync theta
        match s.time.phase with
        | 2 | 3 | 4 => s.acquire theta tau rx
        | 5 | 6 => s.lockedSync theta tau
        | _ => s.holdoverSync theta tau

/-- No SYNC has been accepted for 4 intervals (R415); a hub that followed in holdover runs free. -/
def State.syncMissing (s : State) : State :=
  match s.time.syncAt with
  | none => s
  | some a =>
    if s.now < a + 4 * syncInterval s.time.parentCode then s
    else if s.time.phase = 7 then s.freeRun 8 else s.bridge

/-- A bridge lasts longer than T_bridge: the hub loses time, or while it acquires time goes back to WAIT (R410, R415, R416). -/
def State.bridgeEnd (s : State) : State :=
  match s.time.bridgeAt with
  | none => s
  | some a =>
    if s.now ≤ a + 1000000 * s.time.bridgeMs then s
    else if s.time.phase = 6 then s.loseTime 1
    else if 2 ≤ s.time.phase ∧ s.time.phase ≤ 4 then s.waitAgain
    else s

/-! ## Reference inputs and outputs (R423 to R427) -/

/-- Whether an input of the local reference source is absent (R427): TREF_IN, and for source 2 an edge of PPS_IN within 2 s too. (log 81: DEDUCED) -/
def State.localAbsent (s : State) : Bool := s.time.source != 0 && (!s.time.trefIn || (s.time.source == 2 && decide (s.time.ppsSeen + 2000000000 ≤ s.now)))

/-- In local mode time follows its reference (R427): source 0 runs at 1.0 + a; sources 1 and 2 correct the increment in force as TREF_IN was measured by TREF_IN's error against fabric time, and source 2 adds what slews the edges of PPS_IN to whole seconds; an absent input falls back to source 0 with a Time fault. (log 81: DEDUCED) -/
def State.followLocal (s : State) : State :=
  if !s.sys.localMode then s
  else
    let x := s.time
    if x.source = 0 then ({ s with time := { x with applied := x.ageing, fellBack := false } }).setInc (oneNs + freqInc x.ageing)
    else if !s.localAbsent then ({ s with time := { x with fellBack := false, applied := 0 } }).setInc ((x.trefInc : Int) + roundDiv (x.trefInc * x.trefErr) 100000000000 + x.slew)
    else
      let s := if x.fellBack then s else s.logFault 0x0042 x.source 0 0
      ({ s with time := { s.time with fellBack := true, slew := 0, applied := s.time.ageing } }).setInc (oneNs + freqInc s.time.ageing)

/-- An edge of PPS_IN that local source 2 needs has not come: the hub falls back (R427). -/
def State.ppsAbsent (s : State) : State := if s.sys.localMode ∧ !s.time.fellBack ∧ s.localAbsent then s.followLocal else s

/-- TREF_IN becomes present or absent: present while it carries 10 MHz ± 100 ppm (R426, R427). (log 81: DEDUCED) -/
def State.trefChange (s : State) (present : Bool) (err : Int) : State :=
  State.followLocal { s with time := { s.time with trefIn := present && decide (err.natAbs ≤ 10000000), trefErr := err, trefInc := s.time.inc } }

/-- The deviation of a stamp from its nearest whole second. -/
def fromSecond (x : Int) : Int :=
  let sec := 1000000000 * oneNs
  x - roundDiv x sec.toNat * sec

/-- With local source 2 the first edge of PPS_IN steps the time to a whole second, and later ones slew it (R427). (log 81: DEDUCED) -/
def State.ppsFollow (s : State) (stamp : Int) : State :=
  if !s.sys.localMode ∨ s.time.source ≠ 2 ∨ s.localAbsent then s
  else
    let d := fromSecond stamp
    if s.time.aligned then
      let i := s.time.integral + s.time.ki * d
      State.followLocal { s with time := { s.time with integral := i, slew := -((s.time.kp * d + i) * 16777216).fdiv (1000000000 * oneNs) } }
    else State.followLocal (({ s with time := { s.time with aligned := true, integral := 0, slew := 0 } }).stepTime (-d))

/-- The number by which the interpolator pair of PPS_IN and its calibration offset stand behind those of EDGE00 to EDGE15 (table of the calibration image). -/
def ppsInput : Nat := 16

/-- A rising edge on PPS_IN: a free interpolator of its own pair stamps it as R239 gives, less its calibration offset, and measures the pair for its next stamp (R238, R241, R425). With both busy or out of service the edge has no stamp. (log 81: DEDUCED) -/
def State.ppsEdge (s : State) (c : PairCodes) : State :=
  let e := s.edge ppsInput
  match e.pick s.now with
  | none => s
  | some b =>
    let x := e.interp b
    let t := stampTime (s.time.counter + 2 * s.time.inc) s.time.inc c.code x.a1 x.a2 (s.stampOffset ppsInput)
    let s := s.setEdge ppsInput (fun e => { e.setInterp b (fun x => { x with busyTo := s.now + 20 }) with lastB := b })
    let s := s.takePair ppsInput b c.a1 c.a2
    let stamp : Int := t * 16777216
    State.ppsFollow { s with time := { s.time with ppsIn := (stamp :: s.time.ppsIn).take 16, ppsSeen := s.now } } stamp

/-- Whether PPS_OUT is emitted: locked, in holdover, or in local mode (R423). -/
def State.ppsEnabled (s : State) : Bool := s.time.ppsOn && decide (5 ≤ s.time.phase)

/-- The offset and width last set come into force once their whole second has passed (R423). (log 82: DEDUCED) -/
def State.takePps (s : State) : State :=
  match s.time.ppsNext with
  | some (from', o, w) => if from' ≤ s.now then { s with time := { s.time with ppsOffset := o, ppsWidth := w, ppsNext := none } } else s
  | none => s

/-- The instant n × 10^9 ns + offset: PPS_OUT rises (R423). A changed offset or width is taken from the next whole second on. (log 82: DEDUCED) -/
def State.ppsSecond (s : State) : State :=
  let s := s.takePps
  if s.ppsEnabled ∧ s.now % 1000000000 = s.time.ppsOffset then { s with time := { s.time with ppsRose := some s.now } } else s

/-- The level of PPS_OUT (R423). -/
def State.ppsOut (s : State) : Bool := s.ppsEnabled && s.time.ppsRose.any (fun a => decide (a ≤ s.now) && decide (s.now < a + s.time.ppsWidth))

/-- The level of TREF_OUT: 10 MHz with rising edges at multiples of 100 ns (R424). -/
def State.trefOut (s : State) : Bool := s.time.trefOn && decide (s.now % 100 < 50)

/-! ## Time opcodes (R428) -/

/-- The states in which the setting commands of the group are legal. -/
def timeStates : List HubState := [.timelock, .ready, .calibrate, .run, .reconfigure, .dormant, .holdover]

/-- `TIME_GET_STATUS`. -/
def timeStatus (s : State) : Bytes :=
  let x := s.time
  let from' : Nat := match s.timeSource with | some p => if s.linkUp p then Port.code p else 255 | none => 255
  le 1 x.phase ++ le 1 s.timeFlags ++ le 1 from' ++ le 1 s.hopCount ++ le 4 x.good ++ leInt 8 (to16 x.offset) ++ le 8 x.inc
    ++ leInt 4 (roundDiv (((x.inc : Int) - oneNs) * 100000000000) 1099511627776) ++ le 4 x.steps ++ stampBytes s.now16 ++ zeros 2 ++ le 4 x.accepted ++ le 4 x.discarded ++ le 4 x.losses ++ le 8 x.changedAt

/-- `TIME_GET_PORT`. -/
def timePortStatus (s : State) (p : Port) : Bytes :=
  let x := s.timePort p
  let role : Nat := if s.timeSource = some p ∧ s.linkUp p then 1 else if s.givesTime p then 2 else 0
  le 1 role ++ le 1 (s.codeOn p) ++ zeros 2 ++ leInt 4 x.asym ++ leInt 8 (match x.mean with | some d => to16 d | none => 0) ++ le 4 x.accepted ++ le 4 x.discarded ++ le 4 x.syncSent ++ le 4 x.syncRcvd ++ le 4 x.respSent ++ zeros 4

/-- `TIME_GET_PPS`. -/
def ppsStatus (s : State) : Bytes :=
  let x := s.time
  let recent := x.ppsIn.any (fun e => decide ((x.counter : Int) ≤ e + 2000000000 * oneNs))
  le 1 ((if x.trefIn then 1 else 0) + (if recent then 2 else 0)) ++ le 1 x.ppsIn.length ++ zeros 2 ++ leInt 4 x.trefErr
    ++ (x.ppsIn.map (fun e => let t := (to16 e).toNat; stampBytes t ++ zeros 2 ++ leInt 4 (clampInt (-2147483648) 2147483647 (to16 (fromSecond e))))).flatten

/-- An operation that reads and changes nothing. -/
def queryOp (n : Nat) (params : Bytes → List (Nat × Bool)) (result : Bytes → State → Bytes) : Op :=
  { need := fun _ => n, params := fun h _ => params h.cmd.params, states := allStates, run := fun h s => .done 0 (result h.cmd.params s) s }

/-- The operations of group 0x0A. -/
def timeOps (n : Nat) : Option Op :=
  match n with
  | 0x01 => some (queryOp 0 (fun _ => []) (fun _ s => timeStatus s))
  | 0x02 => some (queryOp 4 (fun b => [(0, decide (u8 b 0 ≤ 3)), (1, zeroAt b 1 3)]) (fun b s => timePortStatus s (portOf (u8 b 0))))
  | 0x03 => some (queryOp 0 (fun _ => []) (fun _ s => ppsStatus s))
  | 0x10 => some
    { need := fun _ => 20, states := timeStates, bcast := fun _ => true,
      params := fun h _ => let b := h.cmd.params
        [(0, decide (u8 b 0 ≤ 7)), (1, zeroAt b 1 1), (2, decide (1 ≤ u16 b 2)), (3, decide (u16 b 4 ≤ u16 b 2)), (4, decide (10 ≤ u16 b 6 ∧ u16 b 6 ≤ 10000)),
         (5, decide (u16 b 6 ≤ u32 b 8 ∧ u32 b 8 ≤ 1000000)), (6, decide (100 ≤ u32 b 12 ∧ u32 b 12 ≤ 1000000000)), (7, decide (5 ≤ u16 b 16 ∧ u16 b 16 ≤ 1000)), (8, zeroAt b 18 2)],
      run := fun h s => let b := h.cmd.params
        .done 0 [] { s with time := { s.time with code := u8 b 0, kp := u16 b 2, ki := u16 b 4, wLock := u16 b 6, wLoss := u32 b 8, stepLimit := u32 b 12, bridgeMs := u16 b 16 } } }
  | 0x11 => some
    { need := fun _ => 8, states := .shadow :: timeStates,
      params := fun h _ => let b := h.cmd.params
        [(0, decide (u8 b 0 ≤ 3)), (1, zeroAt b 1 3), (2, decide ((i32 b 4).natAbs ≤ 1000000))],
      run := fun h s => .done 0 [] (s.setTimePort (portOf (u8 h.cmd.params 0)) (fun x => { x with asym := i32 h.cmd.params 4 })) }
  | 0x12 => some
    { need := fun _ => 4, states := .shadow :: timeStates,
      params := fun h _ => [(0, decide ((i32 h.cmd.params 0).natAbs ≤ 10000000))],
      run := fun h s =>
        let s := { s with time := { s.time with ageing := i32 h.cmd.params 0 } }
        .done 0 [] (if s.sys.localMode then s.followLocal
          else if s.time.phase ≠ 7 ∧ s.time.phase ≠ 8 then s
          else
            let s := { s with time := { s.time with applied := s.time.ageing } }
            if s.time.phase = 8 then s.setInc ((s.time.held : Int) + freqInc s.time.ageing) else s) }
  | 0x13 => some
    { need := fun _ => 12, states := timeStates,
      params := fun h _ => let b := h.cmd.params
        [(0, decide (u8 b 0 ≤ 1)), (1, decide (u8 b 1 ≤ 1)), (2, zeroAt b 2 2), (3, decide (u32 b 4 ≤ 999999999)), (4, decide (1000 ≤ u32 b 8 ∧ u32 b 8 ≤ 500000000))],
      run := fun h s => let b := h.cmd.params
        let s := s.takePps
        .done 0 [] { s with time := { s.time with ppsOn := u8 b 0 == 1, trefOn := u8 b 1 == 1, ppsNext := some ((s.now / 1000000000 + 1) * 1000000000, u32 b 4, u32 b 8) } } }
  | 0x14 => some
    { need := fun _ => 4, states := timeStates,
      params := fun h _ => [(0, decide (u8 h.cmd.params 0 ≤ 2)), (1, zeroAt h.cmd.params 1 3)],
      run := fun h s => .done 0 [] (State.followLocal { s with time := { s.time with source := u8 h.cmd.params 0, fellBack := false, aligned := false, slew := 0, ppsSeen := s.now } }) }
  | _ => none

end Sys2Proof.Machine
end

