-- ==== Sys2Proof/Machine/Lanes.lean ====
section
/-! DEFINITION. Fabric lanes (chapter 11): training, lane failure and degrade, electrical idle and lane off, and the lane operations of group 0x09. -/
namespace Sys2Proof.Machine

open Sys2Proof

/-! ## Lanes, rates and widths -/

/-- How many physical lanes a port has (table "Fabric ports"). -/
def laneCount (p : Port) : Nat := match p with | .twin => 2 | _ => 4

/-- A physical lane of a port. -/
def LanePort.lane (x : LanePort) (i : Nat) : Lane := Tbl.get {} x.lanes i

/-- Changes a physical lane. -/
def LanePort.setLane (x : LanePort) (i : Nat) (f : Lane → Lane) : LanePort := { x with lanes := Tbl.modify {} x.lanes i f }

/-- The widths that a port allows in the training under way, as byte 3 of the training block codes them. -/
def State.widthsOf (s : State) (p : Port) : Nat := (s.port p).allow.2 % (match p with | .twin => 4 | _ => 8)

/-- The highest rate code in a rate mask; 0 for none (R356). -/
def topRate (mask : Nat) : Nat :=
  if mask.testBit 4 then 5 else if mask.testBit 3 then 4 else if mask.testBit 2 then 3 else if mask.testBit 1 then 2 else if mask.testBit 0 then 1 else 0

/-- The greatest width in a width mask that does not exceed `n` lanes; 0 for none (R358). -/
def topWidth (mask n : Nat) : Nat :=
  if mask.testBit 2 ∧ 4 ≤ n then 4 else if mask.testBit 1 ∧ 2 ≤ n then 2 else if mask.testBit 0 ∧ 1 ≤ n then 1 else 0

/-- The time of one block at a rate, ps (table "Line rates"). -/
def blockPs (rate : Nat) : Nat :=
  match rate with
  | 1 => 21120 | 2 => 10560 | 3 => 6400 | 4 => 5280 | _ => 4125

/-- The marker interval at a rate, ns (table "Line rates"). -/
def markerNs (rate : Nat) : Nat :=
  match rate with
  | 1 => 346030 | 2 => 173015 | 3 => 104858 | 4 => 86508 | _ => 67584

/-- The limit of a training step at a rate, ns (table "Training steps"). -/
def stepLimit (step rate : Nat) : Nat :=
  match step with
  | 2 => 1000000 | 3 => 100000 | 4 => 200000 | 5 => 3 * markerNs rate | 6 => 2000000 | _ => 5000000

/-- The time that 10^10 bits of a lane take at a rate, ns (R357). -/
def verifyNs (rate : Nat) : Nat :=
  match rate with
  | 1 => 3200000 | 2 => 1600000 | 3 => 969697 | 4 => 800000 | _ => 625000

/-- The exit time of electrical idle at a rate and width, ps (R363, R488). -/
def idleExitPs (rate width : Nat) : Nat := 60000 + 64 / max 1 width * blockPs rate + 20000

/-- Whether the sending port code of the markers pairs with a port (R351, table "Fabric ports"). A root endpoint sends 1. -/
def portPairs (p : Port) (code : Nat) : Bool :=
  match p with
  | .up => code == 1 || code == 2
  | .dn0 | .dn1 => code == 0
  | .twin => code == 3

/-- A port goes to a state. -/
def State.portState (s : State) (p : Port) (st step : Nat) : State :=
  s.setPort p (fun x => { x with state := st, step, stepAt := s.now, changedAt := if x.state = st then x.changedAt else s.now })

/-! ## Losing a child (R394) -/

/-- The partner on a DN port is lost, or held, or disabled: it is attached no more, and DETACH stands behind every record received from its subtree (R394). -/
def State.detachChild (s : State) (p : Port) (reason : Nat) : State :=
  let l := s.link p
  if !l.attached then s
  else
    let payload := le 2 l.child ++ le 1 (Port.code p) ++ le 1 reason ++ zeros 4 ++ le 8 s.now
    let o : OutRecord := { body := { key := 1048576 * s.own, kind := 8 }, admission := s.streams.nextAdm, raw := payload, source := s.own, detach := true }
    let s := { s with streams := { s.streams with nextAdm := s.streams.nextAdm + 1, buffer := s.streams.buffer ++ [o] } }
    (s.setLink p (fun l => { l with attached := false, attachSent := false, mayResume := false, ownId := if l.mayResume then none else l.ownId })).countLink p 14

/-! ## Training starts and ends (R355 to R360) -/

/-- The tokens of a port's training go back to the sluice. -/
def State.freeTraining (s : State) (p : Port) : State :=
  let s := s.returnTokens (fun r => r.op == 5 && r.unit == Port.code p)
  let out := fun (r : Request) => !(r.op == 5 && r.unit == Port.code p)
  { s with sluice := { s.sluice with normal := s.sluice.normal.filter out, recovery := s.sluice.recovery.filter out } }

/-- A port in service brings its lanes to one block index before its stream breaks off (R347). -/
def State.fillRow (s : State) (p : Port) : State := s.setPort p (fun x => { x with tx := x.tx.pad (max 1 x.width) (Port.code p) })

/-- A port leaves service: its frames are cut, and the time it gave is bridged (R383, R415). -/
def State.leaveActive (s : State) (p : Port) : State :=
  let s := (s.fillRow p).linkDown p
  if s.timeSource = some p then s.bridge else s

/-- The settings of `LANE_SET_RATES` come into force for a training. -/
def LanePort.allowed (x : LanePort) : LanePort := { x with allow := (x.rateMask, x.widthMask), left := x.rateMask, pick := none, again := false, miswired := false }

/-- Starts the training of a port at step 1 (R355): a lane that had failed takes part again, and the settings in force apply. (log 67: DEDUCED) -/
def State.train (s : State) (p : Port) (recovery : Bool) : State :=
  let s := s.freeTraining p
  let s := if 3 ≤ (s.port p).state ∧ (s.port p).state ≤ 5 then s.leaveActive p else s
  let s := s.portState p 1 1
  s.setPort p (fun x => { x.allowed with rate := 0, width := 0, used := [], granted := false, recovery, degrade := false, waitFrom := none, wakeAt := none, lanes := x.lanes.map (fun (e : Nat × Lane) => (e.1, { e.2 with failed := false, logical := 255, markerAt := none })) })

/-- Bytes of `LANE_GET_STATUS`. -/
def State.laneStatus (s : State) (p : Port) : Bytes :=
  let x := s.port p
  let mask := fun (f : Lane → Bool) => maskOf ((List.range (laneCount p)).filter (fun i => f (x.lane i)))
  le 1 x.state ++ le 1 (if x.state = 1 ∨ x.state = 2 then x.step else 0) ++ le 1 x.rate ++ le 1 x.width ++ le 1 (maskOf x.used) ++ le 1 (mask (·.failed)) ++ le 1 (mask (·.inverted)) ++ [0]
    ++ ((List.range 4).map (fun i => le 1 (if x.used.contains i then (x.lane i).logical else 255))).flatten ++ le 1 x.partnerRates ++ le 1 x.result ++ le 2 x.runs ++ le 8 x.changedAt

/-- Every retrain request that waits on a port is completed with the training's result (R360, LANE_RETRAIN). -/
def State.tellTraining (s : State) (p : Port) (result : Nat) : State :=
  let refs := (s.port p).waiting
  let s := s.setPort p (fun x => { x with waiting := [], result })
  refs.foldl (fun (s : State) r => s.finish r stOk 0 ((s.laneStatus p).take 16)) s

/-- A training ends with a result: its tokens go back and every retrain request that waited is completed (R360, LANE_RETRAIN). -/
def State.endTraining (s : State) (p : Port) (result : Nat) : State :=
  ((s.freeTraining p).setPort p (fun x => { x with granted := false, degrade := false, recovery := false })).tellTraining p result

/-- A training ends without reaching step 9: the port waits 100 ms and starts again (R356, R359). -/
def State.trainingFails (s : State) (p : Port) (result : Nat) : State :=
  let s := s.portState p 1 1
  let s := s.setPort p (fun x => { x with rate := 0, width := 0, used := [], waitFrom := some s.now })
  s.endTraining p result

/-- The sluice refuses a training in its time (R359). -/
def State.trainingRefused (s : State) (p : Port) : State := s.trainingFails p 6

/-- The sluice grants a training (R359). -/
def State.trainingGranted (s : State) (p : Port) : State := s.setPort p (fun x => { x with granted := true, stepAt := s.now })

/-- Whether a port's training has a request waiting or granted. -/
def State.trainingAsked (s : State) (p : Port) : Bool :=
  let mine := fun (r : Request) => r.op == 5 && r.unit == Port.code p
  s.sluice.normal.any mine || s.sluice.recovery.any mine || s.sluice.granted.any mine

/-- A port in step 1 asks the sluice for leave (R359, R493): two VDDS tokens for each lane trained. -/
def State.askTraining (s : State) (p : Port) (lanes : Nat) : State :=
  s.ask 5 (Port.code p) { vdds := 2 * lanes } (s.port p).recovery none none

/-- The SLUICE_REQUEST of a port: in step 1, once. (log 64: DEDUCED) -/
def State.requestTraining (s : State) (p : Port) : State :=
  let x := s.port p
  if x.state ≠ 1 ∨ x.waitFrom.isSome ∨ s.trainingAsked p ∨ x.granted then s else s.askTraining p (laneCount p)

/-- A port reaches step 9: blocks go to the link layer (R355). -/
def State.portUp (s : State) (p : Port) : State :=
  let s := s.portState p 3 0
  let s := s.setPort p (fun x => { x with waitFrom := none, lanes := x.lanes.map (fun (e : Nat × Lane) => (e.1, { e.2 with idle := false })) })
  (((s.linkStart p).dropDelay p).endTraining p 0)

/-- `n` free values, as a list. -/
def freeList : (n : Nat) → State → List Nat × State
  | 0, s => ([], s)
  | n + 1, s =>
    let (v, s) := s.free
    let (r, s) := freeList n s
    (v.toNat :: r, s)

/-- The lanes that a port sends training blocks on: those in use, or all of them before the width is known. -/
def State.trainedLanes (s : State) (p : Port) : List Nat := if (s.port p).used.isEmpty then List.range (laneCount p) else (s.port p).used

/-- Each lane sends its training block, with the receiver ready and the verdict of VERIFY that is its own (`bad` of a lane that fails it), and the idle control blocks up to the next one (R354). What the receiver asks of the partner's cursors in step 7 is its own to find (free values). (log 65: DEDUCED; 70: DESIGN CHOICE) -/
def State.sendVerdict (s : State) (p : Port) (bad : Nat → Bool) (ready verdict : Bool) : State :=
  let lanes := s.trainedLanes p
  let (reqs, s) := if (s.port p).step = 7 then freeList lanes.length s else (lanes.map (fun _ => 0), s)
  s.setPort p (fun x =>
    let blocks := lanes.zipIdx.map (fun e => trainingBlock x.step x.allow.1 (s.widthsOf p) (requestByte (reqs.getD e.2 0)) (x.lane e.1).status (ready && !bad e.1) (verdict && !bad e.1) (verdict && bad e.1) x.tx.trained)
    { x with tx := { x.tx.send lanes.length (Port.code p) (blocks ++ List.replicate (15 * lanes.length) idleBlock) with trained := (x.tx.trained + 1) % 256 } })

/-- Each lane sends a training block that says whether its receiver is ready (R354). -/
def State.sendTraining (s : State) (p : Port) (ready : Bool) : State := s.sendVerdict p (fun _ => false) ready false

/-- A port goes to a training step, and says so to its partner (R354, R355). -/
def State.enterStep (s : State) (p : Port) (step : Nat) : State := (s.portState p 2 step).sendTraining p false

/-- A port goes back, or comes, to step 2: at 3.125 Gbaud, with every lane to be found anew (R355). -/
def State.enterBase (s : State) (p : Port) : State :=
  (s.setPort p (fun x => { x with rate := 1, width := 0, used := [], pick := none, again := false, degrade := false, tx := { x.tx with dealt := 0 }, lanes := x.lanes.map (fun (e : Nat × Lane) => (e.1, { e.2 with unjudged := true, missed := 0, marked := none, markerAt := none })) })).enterStep p 2

/-- The rates that a port and its partner allow and that are left to try; the port's own while the partner's are not known (R356). -/
def LanePort.ratesLeft (x : LanePort) : Nat := if x.partnerRates = 0 then x.left else x.left &&& x.partnerRates

/-- The next lower allowed rate after the one that failed (R356): back to step 2, or the end of the training when none remains. (log 64: DEDUCED) -/
def State.lowerRate (s : State) (p : Port) (failed : Nat) : State :=
  let s := s.setPort p (fun x => { x with left := x.left % 2 ^ (failed - 1) })
  if (s.port p).ratesLeft = 0 then s.trainingFails p 3 else s.enterBase p

/-! ## Training steps (R350 to R358) -/

/-- Each lane of a report takes the markers that came in the step (R348, R349). -/
def State.noteMarkers (s : State) (p : Port) (r : TrainingReport) : State :=
  s.setPort p (fun x => { x with lanes := (List.range (laneCount p)).foldl (fun t i => Tbl.modify {} t i (fun e => (((r.at' i).map (·.markers)).getD []).foldl (Lane.takeMarker s.now) e)) x.lanes })

/-- A lane takes its logical lane from the marker it has locked to; one that failed joins no degrade training (R350, R362). -/
def Lane.noteLock (degrade : Bool) (m : Option MarkerSeen) (l : Lane) : Lane :=
  match m with
  | some m => if degrade && l.failed then l else { l with logical := m.logical, failed := false, markerAt := none }
  | none => l

/-- Each lane of a report takes its markers, and its logical lane from the one it has locked to (R348 to R350). A lane that failed joins no degrade training (R362). (log 65: DEDUCED) -/
def State.noteLanes (s : State) (p : Port) (r : TrainingReport) : State :=
  (s.noteMarkers p r).setPort p (fun x => { x with lanes := (List.range (laneCount p)).foldl (fun t i => Tbl.modify {} t i (Lane.noteLock x.degrade (r.lockOf i))) x.lanes })

/-- The settings of a lane come into force as a training begins: preset 2 and peaking to be adapted, or the fixed values (R352, R353). -/
def Lane.begin (l : Lane) : Lane :=
  let rx := u8 l.setting 0 == 1
  let tx := u8 l.setting 2 == 1
  let (m, q) := (preset 2).getD (0, 0)
  { l with rxFixed := rx, peaking := if rx then u8 l.setting 1 else l.peaking, txFixed := tx, cMinus := if tx then u8 l.setting 3 else m, cPlus := if tx then u8 l.setting 4 else q, status := 0 }

/-- The lanes that a width uses: the first good ones in ascending physical order (R358). -/
def lanesFor (good : List Nat) (width : Nat) : List Nat := good.take width

/-- A port uses lanes at a width: logical lanes 0 to W − 1 go to them in the order of the logical lanes they had, which with lanes that are not crossed is the ascending physical order (R350, R358). (log 65: DEDUCED) -/
def LanePort.useLanes (x : LanePort) (used : List Nat) (width : Nat) : LanePort :=
  { x with width, used, tx := { x.tx with dealt := 0 }, lanes := used.foldl (fun t i => Tbl.modify {} t i (fun l => { l with logical := (used.filter (fun j => decide ((x.lane j).logical < (x.lane i).logical))).length })) x.lanes }

/-- The width that both partners allow for lanes that have locked (R358). -/
def State.widthFor (s : State) (p : Port) (n : Nat) : Nat := topWidth (s.widthsOf p &&& (s.port p).partnerWidths) n

/-- Rate and width are chosen from what both partners allow and what has locked (R356, R358): the highest rate left, the greatest width. -/
def State.chooseRate (s : State) (p : Port) : Option (Nat × Nat) :=
  let x := s.port p
  let width := s.widthFor p x.used.length
  if topRate (x.left &&& x.partnerRates) = 0 ∨ width = 0 then none else some (topRate (x.left &&& x.partnerRates), width)

/-- Changes the lanes in use of a port. -/
def LanePort.eachUsed (x : LanePort) (f : Nat → Lane → Lane) : LanePort := { x with lanes := x.used.foldl (fun t i => Tbl.modify {} t i (f i)) x.lanes }

/-- The lanes on which both partners are ready for a step. -/
def readyLanes (r : TrainingReport) (p : Port) (step : Nat) : List Nat := (List.range (laneCount p)).filter (fun i => (r.at' i).any (fun l => l.done step))

/-- One round of step 7: each lane in use takes the partner's `k`-th request of the step, none when there is no such one, and answers it in its next training block (R353, R354). -/
def State.requestRound (s : State) (p : Port) (r : TrainingReport) (k : Nat) : State :=
  s.setPort p (fun x => x.eachUsed (fun i l => l.takeRequest ((((r.at' i).map (·.requests)).getD []).getD k 0)))

/-- How many rounds step 7 has taken: as many as the lane with most requests. -/
def requestRounds (r : TrainingReport) (used : List Nat) : Nat := (used.map (fun i => (((r.at' i).map (·.requests)).getD []).length)).foldl max 0

/-- The rounds of step 7, each with its answer; after them no request stands (R353). (log 65: DEDUCED) -/
def State.takeRequests (s : State) (p : Port) (r : TrainingReport) : State :=
  let n := requestRounds r (s.port p).used
  ((List.range n).foldl (fun (s : State) k => (s.requestRound p r k).sendTraining p false) s).requestRound p r n

/-- Markers of a port that does not pair with this one (R351): the port stays in training with result MISWIRED, which is logged once for the run and told to the retrain requests that wait. (log 65: DEDUCED) -/
def State.miswire (s : State) (p : Port) (code : Nat) : State :=
  if (s.port p).miswired then s
  else ((s.logFault 0x0032 (Port.code p) code 0).setPort p (fun x => { x with miswired := true })).tellTraining p 4

/-- Step 2 ends (R351, R355, R358): the lanes that have locked are noted, and the partner's rates and widths. At 3.125 Gbaud step 8 follows. -/
def State.baseLocked (s : State) (p : Port) (r : TrainingReport) (lanes : List Nat) : State :=
  match (lanes.filterMap r.lockOf).find? (fun m => !portPairs p m.portCode) with
  | some m => s.miswire p m.portCode
  | none =>
    let block := ((r.at' (lanes.headD 0)).map (·.block)).getD []
    let s := (s.noteLanes p r).setPort p (fun x => { x with miswired := false, used := lanes, partnerRates := u8 block 2 % 32, partnerWidths := u8 block 3 % 8 })
    match s.chooseRate p with
    | none => s.trainingFails p 3
    | some (1, w) =>
      if r.aligned (lanesFor lanes w) then ((s.sendTraining p true).setPort p (fun x => x.useLanes (lanesFor lanes w) w)).enterStep p 8 else s.setPort p (fun x => { x with used := [] })
    | some _ => (s.sendTraining p true).enterStep p 3

/-- A step of training ends as both partners report ready on every lane in use (R355). (log 64: DEDUCED) -/
def State.trainingAdvance (s : State) (p : Port) (r : TrainingReport) : State :=
  let x := s.port p
  let ready := x.used.all (readyLanes r p x.step).contains
  let told := s.sendTraining p true
  if s.sys.hub = .reset ∨ s.sys.hub = .boot ∨ x.waitFrom.isSome ∨ !x.granted then s
  else match x.state, x.step with
    | 1, _ =>
      if (List.range (laneCount p)).all (fun i => !(r.at' i).any (·.signal)) then s
      else (s.setPort p (fun x => { x with runs := sat 16 (x.runs + 1), lanes := (List.range (laneCount p)).foldl (fun t i => Tbl.modify {} t i Lane.begin) x.lanes })).enterBase p
    | 2, 2 => if (readyLanes r p 2).isEmpty then s else s.baseLocked p r (readyLanes r p 2)
    | 2, 3 =>
      if !ready then s
      else match s.chooseRate p with
        | none => s.trainingFails p 3
        | some (rate, w) => ((told.noteMarkers p r).setPort p (fun x => { x.useLanes (lanesFor x.used w) w with pick := some (rate, w) })).enterStep p 4
    | 2, 4 => if !ready then s else (told.setPort p (fun x => ({ x with rate := (x.pick.map Prod.fst).getD x.rate }.eachUsed (fun _ l => { l with unjudged := true, missed := 0, marked := none })))).enterStep p 5
    | 2, 5 =>
      if !ready ∨ !r.aligned x.used then s
      else ((told.noteLanes p r).setPort p (fun x => x.useLanes x.used x.width)).enterStep p (if x.degrade then 8 else 6)
    | 2, 6 =>
      if !ready then s
      else ((told.noteMarkers p r).setPort p (fun x => x.eachUsed (fun i l => if l.rxFixed then l else { l with peaking := min 15 (((r.at' i).map (·.peaking)).getD 0) }))).enterStep p 7
    | 2, 7 =>
      if !ready then s
      else (((s.noteMarkers p r).takeRequests p r).sendTraining p true).enterStep p 8
    | _, _ => s

/-- A training step exceeds its limit (R355, R356); a port that is miswired stays as it is (R351). -/
def State.trainingLimit (s : State) (p : Port) : State :=
  let x := s.port p
  if x.state ≠ 2 ∨ !x.granted ∨ x.miswired ∨ x.waitFrom.isSome ∨ x.step < 2 ∨ 7 < x.step ∨ s.now < x.stepAt + stepLimit x.step x.rate then s
  else s.lowerRate p (if 5 ≤ x.step then x.rate else (x.pick.map Prod.fst).getD (topRate x.ratesLeft))

/-- Counts what VERIFY has found. -/
def State.countErrors (s : State) (p : Port) (errs : List LaneErrors) : State :=
  errs.foldl (fun (s : State) e =>
    if laneCount p ≤ e.lane then s
    else s.setPort p (fun x => x.setLane e.lane (fun l => { l with counters := Tbl.modify 0 (Tbl.modify 0 l.counters 3 (fun v => sat 32 (v + e.headers))) 4 (fun v => sat 32 (v + e.bip8)) }))) s

/-- VERIFY ends (R355, R357, R358) once both partners report their verdict on every lane in use; each lane sends its own, and waits for the partner's where it has not come. It passes with every lane clean over 10^10 bits on both sides; lanes that fail while others pass are left out at the next lower width; otherwise steps 6 to 8 are repeated once, and then the rate is lowered. (log 65: DEDUCED) -/
def State.verifyEnd (s : State) (p : Port) (errs : List LaneErrors) : State :=
  let x := s.port p
  let own := fun i => errs.any (fun e => e.lane == i && !e.clean)
  let bad := x.used.filter (fun i => own i || errs.any (fun e => e.lane == i && e.partnerFails))
  let good := x.used.filter (fun i => !bad.contains i)
  if x.state ≠ 2 ∨ x.step ≠ 8 ∨ !x.granted ∨ (!good.isEmpty ∧ s.now < x.stepAt + verifyNs x.rate) then s
  else if errs.any (fun e => x.used.contains e.lane && e.awaited) then s.sendVerdict p own true true
  else
    let s := (s.countErrors p errs).sendVerdict p own true true
    let width := s.widthFor p good.length
    if bad.isEmpty then s.portUp p
    else if width ≠ 0 then
      State.portUp (s.setPort p (fun x => ({ x with lanes := bad.foldl (fun t i => Tbl.modify {} t i (fun l => { l with failed := true, logical := 255 })) x.lanes } : LanePort).useLanes (lanesFor good width) width)) p
    else if !x.again ∧ !x.degrade then (s.setPort p (fun x => { x with again := true })).enterStep p (if x.rate = 1 then 8 else 6)
    else s.lowerRate p x.rate

/-- The 100 ms wait after a training is over (R356, R359). -/
def State.trainingRetry (s : State) (p : Port) : State :=
  match (s.port p).waitFrom with
  | some a => if a + 100000000 ≤ s.now then s.setPort p (fun x => { x.allowed with waitFrom := none }) else s
  | none => s

/-! ## Detectors and lane failure (R361, R362) -/

/-- Whether a lane serves: its port is active or idle and uses it. -/
def State.laneServes (s : State) (p : Port) (i : Nat) : Bool := ((s.port p).state == 3 || (s.port p).state == 4) && (s.port p).used.contains i

/-- Counts a lane counter by `n`. -/
def State.countLane (s : State) (p : Port) (i k n : Nat) : State :=
  s.setPort p (fun x => x.setLane i (fun l => { l with counters := Tbl.modify 0 l.counters k (fun v => sat 32 (v + n)) }))

/-- Loss of lock asserts on a lane, and is counted, unless its other cause has it asserted (R361). -/
def State.lockLost (s : State) (p : Port) (i : Nat) : State :=
  if ((s.port p).lane i).lockAt.isSome then s else (s.countLane p i 1 1).setPort p (fun x => x.setLane i (fun l => { l with lockAt := some s.now }))

/-- Loss of lock clears once frequency lock and block lock both stand (R361). -/
def Lane.lockBack (l : Lane) : Lane := if l.freqLost || l.blockLost then l else { l with lockAt := none }

/-- A detector asserts or clears (R361). Loss of signal is ignored while the partner has announced electrical idle. Invalid sync headers are counted: 16 among 64 lose block lock, and 64 valid ones in a row give it back (R349). (log 66: DEDUCED) -/
def State.detector (s : State) (p : Port) (i : Nat) (d : Detector) (asserted : Bool) : State :=
  if laneCount p ≤ i ∨ s.sys.hub = .reset ∨ s.sys.hub = .boot then s
  else match d, asserted with
    | .signal, true =>
      if ((s.port p).lane i).idle ∨ ((s.port p).lane i).signalAt.isSome then s
      else (s.countLane p i 0 1).setPort p (fun x => x.setLane i (fun l => { l with signalAt := some s.now }))
    | .signal, false => s.setPort p (fun x => x.setLane i (fun l => { l with signalAt := none, idle := false }))
    | .lock, true => (s.lockLost p i).setPort p (fun x => x.setLane i (fun l => { l with freqLost := true }))
    | .block n, true =>
      let s := s.countLane p i 3 n
      if n < 16 ∨ ((s.port p).lane i).blockLost then s
      else ((s.countLane p i 2 1).lockLost p i).setPort p (fun x => x.setLane i (fun l => { l with blockLost := true }))
    | .block n, false => if n = 0 then s.setPort p (fun x => x.setLane i (fun l => Lane.lockBack { l with blockLost := false })) else s.countLane p i 3 n
    | .lock, false => s.setPort p (fun x => x.setLane i (fun l => Lane.lockBack { l with freqLost := false }))

/-- What stands at the marker positions of a lane in service: the 4th in a row without a valid marker loses marker lock, and each valid marker's BIP8 is judged (R348, R349). (log 66: DEDUCED) -/
def State.markerLost (s : State) (p : Port) (i : Nat) (seen : List MarkerSeen) : State :=
  if !s.laneServes p i ∨ laneCount p ≤ i then s
  else s.setPort p (fun x => x.setLane i (fun l => seen.foldl (Lane.takeMarker s.now) l))

/-- A lane in service fails: it is logged and marked, and a degrade training follows at the next width the surviving lanes allow, or training from step 1 where none survives (R362). -/
def State.failLane (s : State) (p : Port) (i : Nat) : State :=
  if !s.laneServes p i then s
  else
    let x := s.port p
    let good := x.used.filter (· != i)
    let width := s.widthFor p good.length
    let s := s.logFault 0x0030 (Port.code p) i width
    if width = 0 then (s.train p true).setPort p (fun x => x.setLane i (fun l => { l with failed := true }))
    else
      let s := (s.leaveActive p).freeTraining p
      let s := s.setPort p (fun x => { (x.setLane i (fun l => { l with failed := true, logical := 255 })).useLanes (lanesFor good width) width with granted := false, recovery := true, degrade := true, again := true, runs := sat 16 (x.runs + 1) })
      let s := (s.setPort p (fun x => x.eachUsed (fun _ l => { l with unjudged := true, missed := 0, marked := none, markerAt := none }))).enterStep p 5
      s.askTraining p width

/-- Whether a detector of a lane, or its loss of marker lock, has stood for 10 µs. -/
def Lane.stands (l : Lane) (now : Nat) : Bool :=
  let old := fun (a : Option Nat) => a.any (fun t => decide (t + 10000 ≤ now))
  old l.signalAt || old l.lockAt || old l.markerAt

/-- LANE_FAILED: an assertion on a lane in service has not cleared within 10 µs (R362). (log 66: DEDUCED) -/
def State.laneFailed (s : State) (p : Port) (i : Nat) : State :=
  if ((s.port p).lane i).stands s.now then s.failLane p i else s

/-- A degrade training ends with its VERIFY, which `passed` says of both partners (R355, R362), and tells the partner; one that fails goes on as R355 gives. -/
def State.degradeEnd (s : State) (p : Port) (passed : Bool) : State :=
  let x := s.port p
  if x.state ≠ 2 ∨ !x.degrade ∨ !x.granted then s
  else if passed then (if x.step ≠ 8 ∨ s.now < x.stepAt + verifyNs x.rate then s else (s.sendVerdict p (fun _ => false) true true).portUp p)
  else (s.sendVerdict p (fun _ => true) true true).lowerRate p x.rate

/-! ## Electrical idle and lane off (R363 to R365, R488) -/

/-- The ports tolerance, ns. -/
def State.portTolerance (s : State) : Nat := s.power.tolerance.getD 3 0

/-- Whether a port gives or takes time. -/
def State.hasTime (s : State) (p : Port) : Bool := s.timeSource == some p || s.givesTime p

/-- Whether a port's transmit queue has been empty for 100 ns (R488). -/
def State.portQuiet (s : State) (p : Port) : Bool := (s.link p).waiting.isEmpty && decide ((s.port p).sentAt + 100 ≤ s.now)

/-- Whether lane off is the deepest level of a port in service: the ports tolerance allows 50 µs, its link is up, and it neither gives nor takes time (R488). -/
def State.mayOff (s : State) (p : Port) : Bool := decide (50000 ≤ s.portTolerance) && s.linkUp p && !s.hasTime p

/-- A port with an empty transmit queue enters electrical idle where the tolerance allows its exit time and no deeper level: an idle-entry block goes out on every lane in use (R363, R488). -/
def State.enterIdle (s : State) (p : Port) : State :=
  let x := s.port p
  if x.state ≠ 3 ∨ !s.portQuiet p ∨ s.mayOff p ∨ 1000 * s.portTolerance < idleExitPs x.rate x.width then s
  else
    let (v, s) := freeList 2 (s.fillRow p)
    ((s.sendLine p (List.replicate x.width (idleEntryBlock ((v.map (le 4)).flatten.take 7)))).portState p 4 0).setPort p (fun x => { x with quietAt := s.now })

/-- A port enters lane off (R365, R488). -/
def State.enterOff (s : State) (p : Port) : State :=
  let x := s.port p
  if !(x.state = 3 ∨ x.state = 4) ∨ !s.portQuiet p ∨ !s.mayOff p then s
  else ((s.fillRow p).portState p 5 0).setPort p (fun x => { x with quietAt := s.now })

/-- A port sends its wake burst (R363). -/
def State.wakeBurst (s : State) (p : Port) : State := s.setPort p (fun x => { x with tx := x.tx.wake x.width (Port.code p) })

/-- A port wakes with a wake burst: from idle after 100 ns at least, or from lane off; what waits is then sent (R363 to R365). Out of lane off the partner's first marker is not judged (R348). -/
def State.wakePort (s : State) (p : Port) : State :=
  let x := s.port p
  if x.state = 4 ∧ x.quietAt + 100 ≤ s.now then State.carryOn ((s.wakeBurst p).portState p 3 0) p
  else if x.state = 5 then State.carryOn (((s.wakeBurst p).portState p 3 0).setPort p (fun x => { x.eachUsed (fun _ l => { l with unjudged := true, marked := none }) with wakeAt := some s.now })) p
  else s

/-- A wake burst that misses block lock on a lane counts as a failure of that lane, also where the port's own transmitters are idle (R364). -/
def State.wakeFails (s : State) (p : Port) (i : Nat) : State := s.failLane p i

/-- The partner of a port that left lane off has not reached lock within 50 µs: the port trains from step 1 (R365). -/
def State.wakeTimeout (s : State) (p : Port) : State :=
  match (s.port p).wakeAt with
  | some a => if s.portActive p ∧ a + 50000 ≤ s.now then s.train p true else s
  | none => s

/-- The partner announces electrical idle on a lane (R361, R363); the first marker of its wake is not judged (R348). -/
def State.idleHeard (s : State) (p : Port) (i : Nat) : State :=
  if s.laneServes p i then s.setPort p (fun x => x.setLane i (fun l => { l with idle := true, signalAt := none, unjudged := true, marked := none })) else s

/-! ## Lane tests -/

/-- The result of a lane test: bits checked and bit errors of lanes 0 to 3. -/
def laneTestResult (bits errs : List Nat) : Bytes := ((List.range 4).map (fun i => le 8 (bits.getD i 0) ++ le 4 (errs.getD i 0))).flatten

/-- A port leaves its lane test for state 0. -/
def State.testOver (s : State) (p : Port) : State := (s.portState p 0 0).setPort p (fun x => { x with test := none, testMode := 0, rate := 0 })

/-- A lane test ends: the port goes back to state 0 (LANE_TEST). -/
def State.laneTestEnd (s : State) (p : Port) (bits errs : List Nat) : State :=
  match (s.port p).test with
  | some (ref, until') =>
    if s.now < until' then s
    else State.finish (s.testOver p) ref stOk 0 (laneTestResult bits errs)
  | none => s

/-- A lane test ends early with the counts so far, which the spec leaves to what was measured (free values): by `CMD_ABORT`, or as the port is disabled or enabled again. (log 68: DESIGN CHOICE) -/
def State.cutTest (s : State) (p : Port) (ref status detail : Nat) : State :=
  let (bits, s) := freeList 4 s
  let (errs, s) := freeList 4 s
  State.finish (s.testOver p) ref status detail (laneTestResult bits errs)

/-- `LANE_PORT_ENABLE` of a port under test ends the test (LANE_PORT_ENABLE, LANE_TEST). (log 68: DESIGN CHOICE) -/
def State.dropTest (s : State) (p : Port) : State :=
  match (s.port p).test with
  | some (ref, _) => s.cutTest p ref stOk 0
  | none => s

/-! ## Lane opcodes (R366) -/

/-- The states in which the lane and fabric settings are legal: all but `FAULT_HOLD`. -/
def fabricStates : List HubState := [.discover, .timelock, .ready, .calibrate, .run, .reconfigure, .shadow, .dormant, .holdover]

/-- `LANE_GET_EQ`: the eye estimates are what the lane measures (free values). (log 68: DESIGN CHOICE) -/
def State.laneEq (s : State) (p : Port) (i : Nat) : Bytes × State :=
  let l := (s.port p).lane i
  let (v, s) := s.free
  let (h, s) := s.free
  (le 1 l.peaking ++ le 1 (if l.rxFixed then 1 else 0) ++ le 1 l.cMinus ++ le 1 (40 - l.cMinus - l.cPlus) ++ le 1 l.cPlus ++ le 1 (if l.txFixed then 1 else 0) ++ le 2 v.toNat ++ le 2 h.toNat ++ zeros 2, s)

/-- `LANE_GET_COUNTERS`: lanes 2 and 3 of TWIN read 0. -/
def State.laneCounters (s : State) (p : Port) : Bytes :=
  ((List.range 4).map (fun i => ((List.range 6).map (fun k => le 4 (if i < laneCount p then Tbl.get 0 ((s.port p).lane i).counters k else 0))).flatten)).flatten

/-- Sets the rates and widths allowed at a port's next training (LANE_SET_RATES). (log 67: DEDUCED) -/
def State.setRates (s : State) (p : Port) (rates widths : Nat) : State :=
  s.setPort p (fun x => { x with rateMask := rates, widthMask := match p with | .twin => widths % 4 | _ => widths })

/-- `LANE_RETRAIN` (R360) and an enable: the port trains from step 1, out of a hold too (R393), and one that was training notes the restart; a training that has reached step 8 goes on, and the command waits for its end. (log 67: DEDUCED) -/
def State.retrain (s : State) (p : Port) (ref : Nat) : State :=
  let x := s.port p
  let busy := x.state == 1 || x.state == 2
  let s := (s.dropTest p).unhold p
  let s := if x.state = 2 ∧ x.step = 8 then s else s.train p false
  s.setPort p (fun y => { y with waiting := y.waiting ++ [ref], result := if busy ∧ !(x.state = 2 ∧ x.step = 8) then 5 else y.result })

/-- A port is disabled: its transmitters go quiet (LANE_PORT_ENABLE). -/
def State.disablePort (s : State) (p : Port) : State :=
  let s := (s.dropTest p).freeTraining p
  let s := if 3 ≤ (s.port p).state ∧ (s.port p).state ≤ 5 then s.leaveActive p else s
  let s := (s.portState p 0 0).setPort p (fun x => { x with rate := 0, width := 0, used := [], granted := false, degrade := false, waitFrom := none, wakeAt := none })
  let s := (s.linkState p 0 0).detachChild p 2
  s.endTraining p (s.port p).result

/-- The lane operations of group 0x09. (log 67: DEDUCED) -/
def laneOps (n : Nat) : Option Op :=
  match n with
  | 0x81 => some (queryOp 4 (fun b => [(0, decide (u8 b 0 ≤ 3)), (1, zeroAt b 1 3)]) (fun b s => s.laneStatus (portOf (u8 b 0))))
  | 0x82 => some
    { need := fun _ => 4, states := allStates,
      params := fun h _ => let b := h.cmd.params
        [(0, decide (u8 b 0 ≤ 3)), (1, decide (u8 b 1 < laneCount (portOf (u8 b 0)))), (2, zeroAt b 2 2)],
      run := fun h s => let (r, s) := s.laneEq (portOf (u8 h.cmd.params 0)) (u8 h.cmd.params 1)
        .done 0 r s }
  | 0x83 => some
    { need := fun _ => 4, states := allStates,
      params := fun h _ => let b := h.cmd.params
        [(0, decide (u8 b 0 ≤ 3)), (2, zeroAt b 2 2)],
      run := fun h s => let p := portOf (u8 h.cmd.params 0)
        .done 0 (s.laneCounters p) (if u8 h.cmd.params 1 = 1 then s.setPort p (fun x => { x with lanes := x.lanes.map (fun (e : Nat × Lane) => (e.1, { e.2 with counters := [] })) }) else s) }
  | 0x90 => some
    { need := fun _ => 4, states := fabricStates,
      params := fun h _ => let b := h.cmd.params
        let w := u8 b 2
        [(0, decide (u8 b 0 ≤ 3 ∨ u8 b 0 = 255)), (1, decide (u8 b 1 ≠ 0 ∧ u8 b 1 < 32)), (2, decide (w ≠ 0 ∧ w < 8) && (u8 b 0 != 3 || decide (w < 4)) && (u8 b 0 != 255 || decide (w % 4 ≠ 0))), (3, zeroAt b 3 1)],
      run := fun h s => let b := h.cmd.params
        let ports := if u8 b 0 = 255 then allPorts else [portOf (u8 b 0)]
        .done 0 [] (ports.foldl (fun (s : State) p => s.setRates p (u8 b 1) (u8 b 2)) s) }
  | 0x91 => some
    { need := fun _ => 4, states := fabricStates,
      params := fun h s => let b := h.cmd.params
        let st := (s.port (portOf (u8 b 0))).state
        [(0, decide (u8 b 0 ≤ 3) && st != 0 && st != 6), (1, zeroAt b 1 3)],
      run := fun h s => .accepted [] (s.retrain (portOf (u8 h.cmd.params 0)) h.serial) }
  | 0x92 => some
    { need := fun _ => 8, states := fabricStates,
      params := fun h _ => let b := h.cmd.params
        [(0, decide (u8 b 0 ≤ 3)), (1, decide (u8 b 1 ≠ 0 ∧ u8 b 1 < 2 ^ laneCount (portOf (u8 b 0)))), (2, decide (u8 b 2 ≤ 1)), (3, decide (u8 b 3 ≤ 15) && (u8 b 2 == 1 || u8 b 3 == 0)), (4, decide (u8 b 4 ≤ 1)),
         (5, decide (u8 b 5 ≤ 6) && (u8 b 4 == 1 || u8 b 5 == 0)), (6, decide (u8 b 6 ≤ 14 ∧ u8 b 5 + u8 b 6 ≤ 20) && (u8 b 4 == 1 || u8 b 6 == 0)), (7, zeroAt b 7 1)],
      run := fun h s => let b := h.cmd.params
        .done 0 [] (s.setPort (portOf (u8 b 0)) (fun x => { x with lanes := (bitsOf 4 (u8 b 1)).foldl (fun t i => Tbl.modify {} t i (fun l => { l with setting := slice b 2 5 })) x.lanes })) }
  | 0x93 => some
    { need := fun _ => 4, states := fabricStates,
      params := fun h _ => let b := h.cmd.params
        [(0, decide (u8 b 0 ≤ 3) && !(u8 b 0 == 0 && u8 b 1 == 0)), (1, decide (u8 b 1 ≤ 1)), (2, zeroAt b 2 2)],
      run := fun h s => let p := portOf (u8 h.cmd.params 0)
        if u8 h.cmd.params 1 = 1 then .accepted [] (s.retrain p h.serial)
        else .done 0 [] (s.disablePort p) }
  | 0x94 => some
    { need := fun _ => 8, states := fabricStates,
      params := fun h s => let b := h.cmd.params
        [(0, decide (1 ≤ u8 b 0 ∧ u8 b 0 ≤ 3) && (s.port (portOf (u8 b 0))).state == 0), (1, decide (1 ≤ u8 b 1 ∧ u8 b 1 ≤ 2)), (2, decide (1 ≤ u8 b 2 ∧ u8 b 2 ≤ 5)), (3, zeroAt b 3 1), (4, decide (1 ≤ u32 b 4 ∧ u32 b 4 ≤ 60000))],
      abort := fun h s =>
        let p := portOf (u8 h.cmd.params 0)
        if (s.port p).test.any (fun t => t.1 == h.serial) then some (s.cutTest p h.serial stAborted 1) else none,
      run := fun h s => let b := h.cmd.params
        let p := portOf (u8 b 0)
        .accepted [] ((s.portState p 6 0).setPort p (fun x => { x with test := some (h.serial, s.now + 1000000 * u32 b 4), testMode := u8 b 1, rate := u8 b 2 })) }
  | _ => none

end Sys2Proof.Machine
end

