-- ==== Sys2Proof/Machine/Frames.lean ====
section
/-! DEFINITION. Frames that arrive (chapter 12): the checks of a receiver and its NAKs, violations, acknowledgements and replays, HELLO and the start of a link, addresses and routes, joining and leaving, and the fabric operations of group 0x09. -/
namespace Sys2Proof.Machine

open Sys2Proof

/-! ## Violations (R391 to R393) -/

/-- The link is held (R393): the port carries no frame; an attached child is lost at once (R394). -/
def State.holdLink (s : State) (p : Port) (n : Nat) : State :=
  let s := s.logFault 0x0035 (Port.code p) n 0
  let s := (s.linkState p 4 2).setLink p (fun l => { l with heard := false, waiting := l.waiting.filter (fun w => isSequenced w.frame) })
  match p with
  | .dn0 | .dn1 => s.detachChild p 4
  | _ => s

/-- More than V violations within 1 ms retrain the port; a third such retrain within 10 s holds the link (R393). -/
def State.judgeViolations (s : State) (p : Port) : State :=
  let l := s.link p
  let n := l.violations.length
  if n ≤ s.fabric.violations then s
  else
    let times := s.now :: l.retrains.filter (fun t => decide (s.now ≤ t + 10000000000))
    let s := (s.setLink p (fun l => { l with retrains := times, violations := [] })).countLink p 13
    if 3 ≤ times.length then s.holdLink p n else s.train p true

/-- A partner violation (R392): counted, logged at most once per port per second, and judged against V. -/
def State.violation (s : State) (p : Port) (reason streamId : Nat) : State :=
  let s := s.countLink p 7
  let s := if reason = 5 then s.countLink p 8 else s
  let s := if (s.link p).violLogAt.any (fun t => decide (s.now < t + 1000000000)) then s.withhold 0x0034
    else (s.setLink p (fun l => { l with violLogAt := some s.now })).logFault 0x0034 (Port.code p) reason streamId
  State.judgeViolations (s.setLink p (fun l => { l with violations := s.now :: l.violations.filter (fun t => decide (s.now ≤ t + 1000000)) })) p

/-! ## The checks of a receiver (R380, R391) -/

/-- Whether a frame's header is as the tables "Frame header" and "Frame types" give: a known type, reserved bits 0, a class that the type may have. -/
def headerOk (f : Frame) : Bool :=
  let c := frameClass f
  decide (f.flags.toNat < 16) && decide (f.target.toNat < 4096) && decide (f.source.toNat < 4096) && f.reserved == 0 &&
    (match f.type.toNat with
     | 1 => true
     | 2 | 3 | 4 | 5 | 7 | 8 | 10 => c == 1
     | 6 => c == 2 || c == 3
     | 9 => c == 3
     | _ => false)

/-- The payload length that a type fixes. -/
def fixedLength (type : Nat) : Option Nat :=
  match type with
  | 2 => some 0 | 3 => some 4 | 4 => some 16 | 5 => some 48 | 6 => some 8 | 7 => some 24 | 8 => some 24 | 9 => some 16 | 10 => some 4 | _ => none

/-- Whether a frame's length is within the link's limit, as received, and as its type has it. -/
def lengthOk (l : Link) (f : Frame) : Bool :=
  decide (f.payloadLength.toNat ≤ l.limit) && f.payloadLength.toNat == f.payload.length
    && (match fixedLength f.type.toNat with | some n => f.payload.length == n | none => true)

/-- Whether FIRST and LAST come in order, and the record stays within 32 KiB (R372). -/
def fragmentOk (l : Link) (f : Frame) : Bool :=
  match l.frags.lookup (frameClass f) with
  | some (b, _) => !frameFirst f && decide (b.length + f.payload.length ≤ 32768)
  | none => frameFirst f && decide (f.payload.length ≤ 32768)

/-- Whether a frame is a broadcast EVENT frame. -/
def broadcastEvent (f : Frame) : Bool := f.type == 1 && frameClass f == 2 && f.target == 0xFFF

/-- The reason for which a receiver refuses an intact sequenced frame, in the order of the table "NAK reasons"; 0 for none. (log 73: DEDUCED) -/
def State.nakReason (s : State) (p : Port) (f : Frame) : Nat :=
  let l := s.link p
  let c := frameClass f
  let zero := s.initialGrant p c == 0
  if f.linkSeq.toNat ≠ l.rxNext then 2
  else if !headerOk f then 3
  else if !lengthOk l f then 4
  else if !zero && decide (ahead (Tbl.get 0 l.given c) (Tbl.get 0 l.taken c) < frameCost f) then 5
  else if zero || (c == 3 && p == .up) then 6
  else if f.type == 1 && !fragmentOk l f then 7
  else if l.old && (f.type == 6 || broadcastEvent f) then 8
  else 0

/-- The partial record of a class is discarded: its units of credit are given back, and it is counted (R373, R392). -/
def State.dropPartial (s : State) (p : Port) (c : Nat) : State :=
  match (s.link p).frags.lookup c with
  | none => s
  | some (_, u) => ((s.setLink p (fun l => { l with frags := Tbl.erase l.frags c })).giveBack (Port.code p) c u).countLink p 9

/-- A refused frame (R391, R392): with consumed = 1 the receiver goes past it, and a record it belonged to is discarded whole. -/
def State.refuseFrame (s : State) (p : Port) (f : Frame) (reason : Nat) : State :=
  let consumed := reason == 3 || reason == 4 || 6 ≤ reason
  let c := frameClass f
  let s := if consumed then s.setLink p (fun l => { l with rxNext := (l.rxNext + 1) % 65536, taken := Tbl.modify 0 l.taken c (fun v => (v + frameCost f) % 2 ^ 32) }) else s
  let record := f.type == 1 && (c == 2 || c == 3)
  let s := if consumed && f.type == 1 then s.dropPartial p c else s
  let s := if reason = 8 ∧ broadcastEvent f then s.countLink p 12 else s
  let s := s.sendNak p reason (if consumed then 1 else 0) f.linkSeq.toNat
  if reason = 1 ∨ reason = 2 then s
  else s.violation p reason (if record && frameFirst f && decide (8 ≤ f.payload.length) then u32 f.payload 4 else 0)

/-- Whether a port receives: its lanes carry blocks, or are idle in the other direction. -/
def State.receives (s : State) (p : Port) : Bool := (s.port p).state == 3 || (s.port p).state == 4

/-- A frame reaches a port: it is counted, and shows that the partner is awake, so that loss of signal counts again (R361). -/
def State.gotFrame (s : State) (p : Port) : State := (s.setPort p (fun x => { x with wakeAt := none, lanes := x.lanes.map (fun (e : Nat × Lane) => (e.1, { e.2 with idle := false })) })).countLink p 1

/-- Takes a sequenced frame of a type at the link (R380, R381, R391): answers whether it is accepted. A frame of another row's type is left to that row, and one of no known type is judged as a PAYLOAD frame is. A duplicate is acknowledged again. (log 72: DEDUCED) -/
def State.acceptFrame (s : State) (p : Port) (f : Frame) (type : Nat) : Bool × State :=
  if !s.receives p ∨ !s.linkUp p ∨ (f.type.toNat ≠ type ∧ (type ≠ 1 ∨ (2 ≤ f.type.toNat ∧ f.type.toNat ≤ 10))) then (false, s)
  else
    let s := s.gotFrame p
    if !f.intact then (false, (s.countLink p 2).refuseFrame p f 1)
    else
      let s := s.takeAck p f.ack.toNat
      if 32768 ≤ (f.linkSeq.toNat + 65536 - (s.link p).rxNext) % 65536 then (false, s.sendAck p)
      else match s.nakReason p f with
        | 0 =>
          let s := s.setLink p (fun l => { l with rxNext := (l.rxNext + 1) % 65536, taken := Tbl.modify 0 l.taken (frameClass f) (fun v => (v + frameCost f) % 2 ^ 32) })
          (true, s.sendAck p)
        | r => (false, s.refuseFrame p f r)

/-- Takes an unsequenced link frame: one that fails reason 1, 3 or 4 is discarded without a NAK and counted (R391). (log 73: DEDUCED) -/
def State.acceptLinkFrame (s : State) (p : Port) (f : Frame) (type : Nat) : Bool × State :=
  if !s.receives p then (false, s)
  else
    let s := s.gotFrame p
    if !f.intact then (false, s.countLink p 2)
    else if f.type.toNat ≠ type ∨ !headerOk f ∨ !lengthOk (s.link p) f then (false, s.violation p (if headerOk f then 4 else 3) 0)
    else (true, s)

/-! ## TIME frames (R391, R403) -/

/-- The reason of the table "NAK reasons" for which a receiver discards a TIME frame; 0 for none (R391, R403). -/
def State.timeReason (s : State) (p : Port) (f : Frame) : Nat :=
  let l := s.link p
  if !f.intact then 1
  else if f.type ≠ 1 ∨ frameClass f ≠ 0 ∨ !headerOk f then 3
  else if !lengthOk l f ∨ f.payload.length ≠ 128 then 4
  else if ahead (Tbl.get 0 l.given 0) (Tbl.get 0 l.taken 0) < 3 then 5
  else if !frameFirst f ∨ !frameLast f then 7
  else 0

/-- Whether a TIME frame passes the checks, and its message is of a kind. -/
def State.timeFrameOk (s : State) (p : Port) (f : Frame) (kind : Nat) : Bool := s.timeReason p f == 0 && u8 f.payload 0 == kind

/-- A port takes a TIME frame: its count, its credit taken and given back, its ack. -/
def State.tookTime (s : State) (p : Port) (f : Frame) : State :=
  let s := (s.gotFrame p).setLink p (fun l => { l with taken := Tbl.modify 0 l.taken 0 (fun v => (v + 3) % 2 ^ 32) })
  (s.giveBack (Port.code p) 0 3).takeAck p f.ack.toNat

/-- A port discards a TIME frame without a NAK, and counts it (R391, R403). (log 73: DEDUCED) -/
def State.refuseTime (s : State) (p : Port) (reason : Nat) : State :=
  let s := s.gotFrame p
  if reason = 1 then s.countLink p 2 else s.violation p reason 0

/-- A frame of class TIME reaches a port: one that passes is taken and its message acted on, another is discarded with the exchange that it belongs to (R403). -/
def State.timeFrame (s : State) (p : Port) (f : Frame) (kind : Nat) (take lose : State → State) : State :=
  if !s.receives p ∨ !s.linkUp p then s
  else
    let r := s.timeReason p f
    if r ≠ 0 then lose (s.refuseTime p r)
    else if u8 f.payload 0 = kind then take (s.tookTime p f) else s.tookTime p f

/-- SYNC_RECEIVE. -/
def State.syncFrame (s : State) (p : Port) (f : Frame) (rx : Int) : State :=
  s.timeFrame p f 1 (fun s => s.syncTake p f rx) (fun s => if s.timeSource = some p ∧ s.sys.hub ≠ .discover then { s with time := { s.time with discarded := sat 32 (s.time.discarded + 1) } } else s)

/-- PDELAY_REQ_RECEIVE. -/
def State.delayAskFrame (s : State) (p : Port) (f : Frame) (t2 t3 : Int) : State :=
  s.timeFrame p f 2 (fun s => s.delayAnswer p f t2 t3) (fun s => s.lostDelay p)

/-- PDELAY_RESP_RECEIVE: the outstanding request of a lost exchange is outstanding no more. -/
def State.delayFrame (s : State) (p : Port) (f : Frame) (t4 : Int) : State :=
  s.timeFrame p f 3 (fun s => s.delayTake p f t4) (fun s => if s.timeSource = some p then (s.lostDelay p).setTimePort p (fun x => { x with asked := none }) else s)

/-! ## Acknowledgements, NAKs and replays (R381, R382) -/

/-- Resends what is held, or retrains the port when a frame has been sent 8 times without acknowledgement (R382); after a NAK with reason 5 not before the charged total fits the grant (R392). -/
def State.replayHeld (s : State) (p : Port) : State :=
  if (s.link p).creditHold then s
  else match (s.link p).replay.find? (fun r => decide (8 ≤ r.sends)) with
  | some r => (s.logFault 0x0031 (Port.code p) r.frame.linkSeq.toNat 0).train p true
  | none => s.resendAll p

/-- An ACK frame. -/
def State.ackFrame (s : State) (p : Port) (f : Frame) : State :=
  let (ok, s) := s.acceptLinkFrame p f 2
  if ok && s.linkUp p then s.takeAck p f.ack.toNat else s

/-- A NAK frame (R382, R392): with consumed = 0 the sender resends from its ack; after reason 5 only once its charged total fits the grant. -/
def State.nakFrame (s : State) (p : Port) (f : Frame) : State :=
  let (ok, s) := s.acceptLinkFrame p f 3
  if !(ok && s.linkUp p) then s
  else
    let s := (s.countLink p 6).takeAck p f.ack.toNat
    if u8 f.payload 1 ≠ 0 then s
    else if u8 f.payload 0 = 5 ∧ (List.range 4).any (fun c => decide ((s.link p).available c < 0)) then s.setLink p (fun l => { l with creditHold := true })
    else s.replayHeld p

/-- No ack has advanced for 10 µs while the port holds frames (R382). -/
def State.replayTimeout (s : State) (p : Port) : State :=
  let l := s.link p
  if l.replay.isEmpty ∨ !s.linkUp p ∨ s.now < l.ackAt + 10000 then s else s.replayHeld p

/-! ## Credits (R375, R376) -/

/-- A CREDIT frame: the partner's cumulative grants. A resend that waited for credit goes out once the charged total fits. -/
def State.creditFrame (s : State) (p : Port) (f : Frame) : State :=
  let (ok, s) := s.acceptLinkFrame p f 4
  if !(ok && s.linkUp p) then s
  else
    let s := s.takeAck p f.ack.toNat
    let s := s.setLink p (fun l => { l with granted := (List.range 4).map (fun c => (c, u32 f.payload (4 * c))) })
    let fits := (List.range 4).all (fun c => decide (0 ≤ (s.link p).available c))
    let s := if (s.link p).creditHold ∧ fits then (s.setLink p (fun l => { l with creditHold := false })).replayHeld p else s
    s.flush p

/-- CREDIT is due (R376): 16 units of growth in a class, 1 µs after any growth, or 100 µs after the last. -/
def State.creditTimer (s : State) (p : Port) : State :=
  let l := s.link p
  let grown := (List.range 4).any (fun c => decide (16 ≤ ahead (Tbl.get 0 l.given c) (Tbl.get 0 l.told c)))
  let late := l.grewAt.any (fun t => decide (t + 1000 ≤ s.now)) || decide (l.creditAt + 100000 ≤ s.now)
  if s.linkUp p ∧ (grown ∨ late) then s.sendCredit p else s

/-! ## HELLO (R383 to R388) -/

/-- HELLO falls due: every 10 µs on an active port, while its link is up too (R384). (log 71: DEDUCED) -/
def State.helloTimer (s : State) (p : Port) (linkId : BitVec 32) : State :=
  let l := s.link p
  let due : Bool := match l.helloAt with | some t => decide (t + 10000 ≤ s.now) | none => true
  if s.portActive p ∧ !s.sys.localMode ∧ s.sys.hub ≠ .reset ∧ s.sys.hub ≠ .boot ∧ due then s.sendHello p linkId else s

/-- Whether a version lies at or below another, the major version first. -/
def versionLe (a b : Nat × Nat) : Bool := decide (a.1 < b.1) || (a.1 == b.1 && decide (a.2 ≤ b.2))

/-- The version in use: the highest in both ranges; none where they do not meet (R385). -/
def commonVersion (offered : Nat × Nat) (hello : Bytes) : Option (Nat × Nat) :=
  let lo := (u8 hello 0, u8 hello 1)
  let hi := (u8 hello 2, u8 hello 3)
  let top := if versionLe hi offered then hi else offered
  if versionLe lo top && versionLe (1, 0) top then some top else none

/-- Sends ATTACH for the child of a DN port (R388). A hub without an address sends none. (log 74: DEDUCED) -/
def State.sendAttach (s : State) (p : Port) : State :=
  let l := s.link p
  if s.own = 0 ∨ !s.linkUp p then s
  else
    let b := slice l.peer 24 8 ++ slice l.peer 16 8 ++ slice l.peer 12 2 ++ le 1 (Port.code p) ++ zeros 5
    (s.setLink p (fun l => { l with attachSent := true })).queueFrame .up (frameOf 7 1 0 s.own 0 b) none

/-- Whether a port faces children. -/
def isDn (p : Port) : Bool := p == .dn0 || p == .dn1

/-- The link comes up (R383, R384, R387): it resumes where both ask for it and the partner and its link_id are those of before, and otherwise starts as a new link with the initial grants, where its partner counts as lost; on a 1.x link the same partner goes on (R387). -/
def State.linkComesUp (s : State) (p : Port) (v : Nat × Nat) (hello : Bytes) : State :=
  let l := s.link p
  let hub := u64 hello 24
  let id := u32 hello 36
  let resume := l.mayResume && bit (u8 hello 11) 1 && hub == l.peerHub && id == l.peerId && v.1 == 2
  let s := s.setLink p (fun l => { l with version := v, peerHub := hub, peerId := id, resumed := resume, mayResume := false })
  if resume then
    ((((s.linkState p 3 0).freeAcked p (u16 hello 34)).resendAll p).flush p)
  else
    let s := (s.setLink p (fun x => if l.mayResume then { x with ownId := none } else x)).restartLink p
    let lost := v.1 == 2 || hub != l.peerHub
    let s := if isDn p ∧ l.attached ∧ lost then s.detachChild p 1 else s
    let s : State := if p = .up ∧ lost then { s with fabric := { s.fabric with attached := false } } else s
    let s := (s.linkState p 3 0).setLink p (fun l => { l with creditAt := s.now })
    let s := s.sendCredit p
    if isDn p then s.sendAttach p else s.flush p

/-- A HELLO frame (R384, R385): the partner's ranges meet or the port holds in NEGOTIATE; with partner-heard set the link is up. On a link that is up, one that offers a previous address asks to attach again (FABRIC_REJOIN). (log 71: DEDUCED) -/
def State.helloFrame (s : State) (p : Port) (f : Frame) : State :=
  let (ok, s) := s.acceptLinkFrame p f 5
  if !ok ∨ s.sys.localMode ∨ s.sys.hub = .reset ∨ s.sys.hub = .boot then s
  else
    let b := f.payload
    let s := s.setLink p (fun l => { l with peer := b })
    let l := s.link p
    if l.state = 4 then s
    else if l.state = 3 then
      let s := s.setLink p (fun l => { l with peerId := u32 b 36 })
      if isDn p ∧ !l.attached ∧ !l.attachSent ∧ u16 b 12 ≠ 0 then s.sendAttach p else s
    else
      let s := s.setLink p (fun l => { l with heard := true })
      match commonVersion l.offered b with
      | none =>
        let s := s.linkState p 2 1
        if l.versionLogged then s
        else (s.setLink p (fun l => { l with versionLogged := true })).logFault 0x0033 (Port.code p) (u32 b 0) 0
      | some v =>
        if bit (u8 b 11) 0 then s.linkComesUp p v b
        else s.linkState p 1 0

/-! ## Routing (R388 to R390) -/

/-- The DN port against which an address is recorded. -/
def State.routeTo (s : State) (a : Nat) : Option Port := s.fabric.below.lookup a

/-- Where a frame of a target goes that arrived on a port (table "Routing"): whether the hub takes it, and the ports it leaves by. A broadcast from below goes on the other DN port too while its link trains; an address below a port whose partner is lost is a lost one (R397). (log 74: DEDUCED) -/
def State.route (s : State) (p : Port) (target : Nat) : Bool × List Port :=
  let others := [Port.up, .dn0, .dn1].filter (fun q => q != p && (q == .up || s.linkUp q || (isDn p && ((s.link q).attached || (s.link q).mayResume))))
  if s.own = 0 then (false, [])
  else if target = s.own then (true, [])
  else if target = 0xFFF then (true, others)
  else if isDn p then (false, [.up])
  else match (s.routeTo target).filter (fun q => (s.link q).attached) with
    | some q => (false, [q])
    | none => (false, [])

/-- Sends UNREACHABLE to the source of a CONTROL frame that could not be routed (R389). -/
def State.unreachable (s : State) (p : Port) (target source : Nat) : State :=
  (s.queueFrame p (frameOf 10 1 source s.own 0 (le 2 target ++ zeros 2)) none).countLink p 10

/-- Whether the hub forwards in its present state (R536): in `FAULT_HOLD` only after WATCHDOG_REPEATED or AFE_BOTH_LOST. -/
def State.forwards (s : State) : Bool := s.sys.hub != .faultHold || s.faults.fatal.any (fun c => c.1 == 0x00F0 || c.1 == 0x00F2)

/-- Forwards a complete message of a class on some ports; its hop count grows by one, and one that would reach 255 is discarded (R389). The first port's sending gives the credit back. A broadcast EVENT frame does not go to a 1.x partner (R387). (log 74: DEDUCED; 75: DEDUCED) -/
def State.forward (s : State) (from' : Port) (type cls target source hops : Nat) (payload : Bytes) (owe : Option (Nat × Nat × Nat)) (ports : List Port) : State :=
  if 254 ≤ hops then (s.payBack owe).countLink from' 11
  else
    let refused := fun (q : Port) => cls == 2 && target == 0xFFF && (s.link q).old
    let s := (ports.filter refused).foldl (fun (s : State) q => s.countLink q 12) s
    match ports.filter (fun q => !refused q) with
    | [] => s.payBack owe
    | q :: rest =>
      let send := fun (s : State) (q : Port) (owe : Option (Nat × Nat × Nat)) =>
        if type = 1 then s.queuePayload q cls target source (hops + 1) payload owe none
        else s.queueFrame q (frameOf type cls target source (hops + 1) payload) owe
      rest.foldl (fun (s : State) r => send s r none) (send s q owe)

/-- A CONTROL frame that is not a PAYLOAD is routed (R389): answers whether it is for this hub. -/
def State.routeControl (s : State) (p : Port) (f : Frame) : Bool × State :=
  let owe := some (Port.code p, 1, frameCost f)
  let (mine, ports) := s.route p f.target.toNat
  if mine then (true, s.payBack owe)
  else if ports.isEmpty then
    let s := s.payBack owe
    (false, if p = .up ∧ s.own ≠ 0 then s.unreachable p f.target.toNat f.source.toNat else s)
  else if !s.forwards ∧ isDn p then (false, s.payBack owe)
  else (false, s.forward p f.type.toNat 1 f.target.toNat f.source.toNat f.hops.toNat f.payload owe ports)

/-! ## ATTACH, DETACH, ABANDON, UNREACHABLE -/

/-- An ATTACH frame travels towards the root (R388). (log 74: DEDUCED) -/
def State.attachFrame (s : State) (p : Port) (f : Frame) : State :=
  let (ok, s) := s.acceptFrame p f 7
  if !ok then s
  else if isDn p then (s.routeControl p f).2 else s.payBack (some (Port.code p, 1, frameCost f))

/-- An UNREACHABLE frame is delivered or forwarded (R389). -/
def State.unreachableFrame (s : State) (p : Port) (f : Frame) : State :=
  let (ok, s) := s.acceptFrame p f 10
  if !ok then s else (s.routeControl p f).2

/-- An ABANDON frame: the fragments held of the record are discarded (R374). -/
def State.abandonFrame (s : State) (p : Port) (f : Frame) : State :=
  let (ok, s) := s.acceptFrame p f 6
  if !ok then s
  else
    let c := frameClass f
    let s := s.giveBack (Port.code p) c (frameCost f)
    match (s.link p).frags.lookup c with
    | some (b, _) => if u32 b 4 = u32 f.payload 0 ∧ u32 b 8 = u32 f.payload 4 then s.dropPartial p c else s
    | none => s

/-- Puts a forwarded record or DETACH frame in the outbound buffer in the order of arrival (R321, R373, R394). -/
def State.admitForwarded (s : State) (raw : Bytes) (target source hops : Nat) (owe : Option (Nat × Nat × Nat)) (detach event : Bool) : State :=
  let key := if detach then 1048576 * source else u32 raw 4
  let o : OutRecord := { body := { key, kind := 8 }, admission := s.streams.nextAdm, raw, source, target, hops := hops + 1, owe, detach, event }
  { s with streams := { s.streams with nextAdm := s.streams.nextAdm + 1, buffer := s.streams.buffer ++ [o], peak := max s.streams.peak (storeBytes s.streams.buffer + raw.length) } }

/-- A DETACH frame travels towards the root behind the records of its subtree; the parent of a hub that leaves treats its port as attached no more (R394, R397). (log 74: DEDUCED) -/
def State.detachFrame (s : State) (p : Port) (f : Frame) : State :=
  let (ok, s) := s.acceptFrame p f 9
  if !ok then s
  else
    let owe := some (Port.code p, 3, frameCost f)
    if !isDn p ∨ s.own = 0 then s.payBack owe
    else if 254 ≤ f.hops.toNat then (s.payBack owe).countLink p 11
    else
      let s := if u8 f.payload 3 = 3 ∧ u16 f.payload 0 = (s.link p).child then s.setLink p (fun l => { l with attached := false, attachSent := false }) else s
      s.admitForwarded f.payload f.target.toNat f.source.toNat f.hops.toNat owe true false

/-! ## ASSIGN, restart and attachment (R388, R396) -/

/-- Every stream that is open or has unsent records discards them and its pending gap, and awaits its restart watermark (R396). -/
def State.awaitRestart (s : State) : State :=
  let q := s.streams
  let mine := fun (o : OutRecord) => o.raw.isEmpty
  let lost := ((q.buffer ++ q.control ++ q.spill).filter mine).length + q.closed.length
  let unsent := fun (k : Nat) => (q.buffer ++ q.control ++ q.spill).any (fun o => mine o && o.body.key == k) || q.closed.any (fun r => r.key == k)
  let q := { q with buffer := q.buffer.filter (fun o => !mine o), control := q.control.filter (fun o => !mine o), spill := q.spill.filter (fun o => !mine o), closed := [],
                    table := q.table.map (fun (e : Nat × Stream) => (e.1, if e.2.isOpen ∨ unsent e.1 then { e.2 with awaiting := true, resume := e.2.isOpen, isOpen := false, ending := false, pending := none, current := none } else e.2)) }
  { s with streams := q, fabric := { s.fabric with discarded := sat 32 (s.fabric.discarded + lost) } }

/-- No more entries are due: every stream that still awaits one opens with its counter unchanged (R396 step 3). -/
def State.restartDone (s : State) : State :=
  { s with fabric := { s.fabric with restart := none }, streams := { s.streams with table := s.streams.table.map (fun (e : Nat × Stream) => (e.1, { e.2 with awaiting := false })) } }

/-- A RESTART with a number of acknowledgement entries to come begins (R396); without any, or under a new address, nothing is awaited. -/
def State.takeRestart (s : State) (n : Nat) (same : Bool) : State :=
  let s := s.awaitRestart
  if n = 0 ∨ !same then s.restartDone else { s with fabric := { s.fabric with restart := some (n, s.now, false), named := [] } }

/-- A gang lead whose streams go on through its partner's UP takes the RESTART that the partner passes on (R456): what it holds as its partner's streams is the partner's to restart. (log 88: DEDUCED) -/
def State.leadRestart (s : State) (b : Bytes) : State :=
  let close := fun (e : Nat × Stream) => (e.1, if partnerKey e.1 then { e.2 with isOpen := false, ending := false, pending := none, current := none, resume := false } else e.2)
  State.takeRestart { s with streams := { s.streams with table := s.streams.table.map close } } (u32 b 20) true

/-- The records of the lead that a gang partner holds for its UP go with the pair's RESTART (R456). (log 88: DEDUCED) -/
def State.dropLeads (s : State) : State :=
  let theirs := fun (o : OutRecord) => !o.raw.isEmpty && !o.detach && (o.owe.any (fun w => w.1 == Port.code .twin))
  let l := s.streams.buffer.filter theirs
  l.foldl (fun (s : State) o => s.payBack o.owe) { s with streams := { s.streams with buffer := s.streams.buffer.filter (fun o => !theirs o) } }

/-- The hub takes an ASSIGN whose HUB_ID is its own (R388, R396): address and hop count at once; with RESTART its streams await their watermarks; `DISCOVER` is over; ATTACH goes out for each child. A gang partner that stands for its lead has the lead's address, and passes a RESTART on to it (R455, R456). -/
def State.takeAssign (s : State) (b : Bytes) : State :=
  let restart := bit (u8 b 16) 0
  let stands := s.twin.asLead
  let before := if stands then s.own else s.fabric.previous.toNat
  let addr := u16 b 8
  let s := { s with fabric := { s.fabric with address := BitVec.ofNat 12 addr, previous := if stands then s.fabric.previous else BitVec.ofNat 12 addr, hops := u8 b 10, attached := true, rejoin := [] } }
  let s := s.setLink .up (fun l => { l with reason := 0, helloOwed := false })
  let s : State := if restart && !(s.twin.paired && s.twin.role == 2) then
      let s := if stands then s.dropLeads else s
      let s := s.takeRestart (u32 b 20) (addr == before)
      if stands ∧ s.linkUp .twin then s.queueFrame .twin (frameOf 8 1 (u16 (s.link .twin).peer 12) s.own 0 b) none else s
    else s
  let s := if s.sys.hub = .discover then s.waitAgain.go .timelock 0x0010 else s
  [Port.dn0, .dn1].foldl (fun (s : State) p => if s.linkUp p ∧ (restart ∨ !(s.link p).attached) then s.sendAttach p else s) s

/-- Records an address against a port (R388). -/
def State.recordRoute (s : State) (a : Nat) (p : Port) : State :=
  { s with fabric := { s.fabric with below := (a, p) :: s.fabric.below.filter (fun e => e.1 != a) } }

/-- An ASSIGN frame on UP is taken, recorded and passed to the child it names, or forwarded towards its target; it is never flooded (R388, R389). (log 74: DEDUCED; 77: DEDUCED) -/
def State.assignFrame (s : State) (p : Port) (f : Frame) : State :=
  let (ok, s) := s.acceptFrame p f 8
  if !ok then s
  else
    let owe := some (Port.code p, 1, frameCost f)
    let b := f.payload
    if p = .twin ∧ s.twin.mode = 2 ∧ s.twin.paired ∧ s.twin.role = 3 then
      let s := s.payBack owe
      if u64 b 0 = s.hubIdentity ∧ bit (u8 b 16) 0 then s.leadRestart b else s
    else if p ≠ .up then s.payBack owe
    else if f.target = 0xFFF then
      let s := s.payBack owe
      if u64 b 0 ≠ s.hubIdentity then s
      else
        let rejoin := s.fabric.rejoin
        let s := s.takeAssign b
        rejoin.foldl (fun (s : State) r => s.finish r stOk 0 (le 2 s.own ++ zeros 2)) s
    else if s.own = 0 then s.payBack owe
    else if f.target.toNat = s.own then
      let q := portOf (u8 b 11)
      if !isDn q then s.payBack owe
      else
        let s := (s.recordRoute (u16 b 8) q).setLink q (fun l => { l with attached := true, attachSent := false, child := u16 b 8 })
        s.forward p 8 1 0xFFF f.source.toNat f.hops.toNat b owe [q]
    else match s.routeTo f.target.toNat with
      | some q => (s.recordRoute (u16 b 8) q).forward p 8 1 f.target.toNat f.source.toNat f.hops.toNat b owe [q]
      | none => (s.payBack owe).unreachable p f.target.toNat f.source.toNat

/-- The restart entries have not all arrived within 1 s: a Correctable fault, and the hub goes on waiting (R396). The table "Fault codes" has no code for it, so the code and the island are free values. (log 76: DESIGN CHOICE) -/
def State.restartLate (s : State) : State :=
  match s.fabric.restart with
  | some (n, t, false) =>
    if t + 1000000000 ≤ s.now then
      let (c, s) := s.free
      let (i, s) := s.free
      State.logEntry { s with fabric := { s.fabric with restart := some (n, t, true) } } 0 (i.toNat % 12) (c.toNat % 65536) 0 0 0
    else s
  | _ => s

/-- A DN partner has not had its link up for T_det (R394). -/
def State.partnerLost (s : State) (p : Port) : State :=
  let l := s.link p
  if isDn p ∧ l.attached ∧ !s.linkUp p ∧ l.downAt + 1000000 * s.fabric.detectMs ≤ s.now then s.detachChild p 1 else s

/-- The UP link has not been up for T_det: the hub is detached and loses its time (R396, R416). -/
def State.upDetached (s : State) : State :=
  let l := s.link .up
  if !s.fabric.attached ∨ s.linkUp .up ∨ s.now < l.downAt + 1000000 * s.fabric.detectMs then s
  else
    let s := { s with fabric := { s.fabric with attached := false } }
    let s := s.setLink .up (fun l => { l with reason := 3, mayResume := false, ownId := if l.mayResume then none else l.ownId })
    if s.timeSource = some .up then s.loseTime 4 else s

/-! ## Fabric opcodes (R398) -/

/-- `FABRIC_GET_PORT`. -/
def State.portStatus (s : State) (p : Port) : Bytes :=
  let l := s.link p
  let h := fun (i : Nat) => u8 l.peer i
  le 1 l.state ++ le 1 l.reason ++ le 1 l.version.1 ++ le 1 l.version.2 ++ le 1 (h 5) ++ le 1 (h 7) ++ le 1 (h 9)
    ++ le 1 ((if bit (h 11) 2 then 1 else 0) + (if l.resumed then 2 else 0) + (if l.attached then 4 else 0)) ++ le 8 (u64 l.peer 24) ++ le 8 (u64 l.peer 16) ++ le 2 (u16 l.peer 12) ++ le 1 (h 14) ++ [0]
    ++ le 2 (if l.state = 3 then l.limit else 0) ++ zeros 2 ++ ((List.range 4).map (fun c => le 4 (l.available c).toNat)).flatten ++ le 4 l.replayBytes ++ zeros 4 ++ le 8 l.changedAt

/-- `FABRIC_GET_ROUTES`: 1 DN0, 2 DN1, 3 this hub. -/
def State.routeCode (s : State) (a : Nat) : Nat := if a = s.own then 3 else match s.routeTo a with | some .dn0 => 1 | some .dn1 => 2 | _ => 0

/-- `FABRIC_GET_CONFIG`. -/
def State.fabricConfig (s : State) : Bytes :=
  let f := s.fabric
  le 2 s.own ++ le 1 f.hops ++ le 1 (if f.attached then 1 else 0) ++ le 2 f.detectMs ++ le 2 f.violations ++ le 4 f.grants.1 ++ le 4 f.grants.2 ++ le 1 f.maxVersion.1 ++ le 1 f.maxVersion.2 ++ zeros 2 ++ le 8 capability

/-- A DN port's DATA grant changes (FABRIC_SET_CREDIT): what is raised is granted at once; what is lowered is withheld from the returns. -/
def State.changeGrant (s : State) (p : Port) (old new : Nat) : State :=
  if old ≤ new then
    let up := 16 * (new - old)
    s.setLink p (fun l => let w := min l.withheld up
      { l with withheld := l.withheld - w, given := Tbl.modify 0 l.given 3 (fun v => (v + (up - w)) % 2 ^ 32), grewAt := some (l.grewAt.getD s.now) })
  else s.setLink p (fun l => { l with withheld := l.withheld + 16 * (old - new) })

/-- The fabric operations 0x00 to 0x7F of group 0x09, but for `FABRIC_LEAVE`. -/
def fabricOps (n : Nat) : Option Op :=
  match n with
  | 0x01 => some (queryOp 4 (fun b => [(0, decide (u8 b 0 ≤ 3)), (1, zeroAt b 1 3)]) (fun b s => s.portStatus (portOf (u8 b 0))))
  | 0x02 => some
    { need := fun _ => 4, states := allStates,
      params := fun h _ => let b := h.cmd.params
        [(0, decide (u8 b 0 ≤ 3)), (2, zeroAt b 2 2)],
      run := fun h s => let p := portOf (u8 h.cmd.params 0)
        .done 0 (((List.range 15).map (fun i => le 4 (Tbl.get 0 (s.link p).counters i))).flatten) (if u8 h.cmd.params 1 = 1 then s.setLink p (fun l => { l with counters := [] }) else s) }
  | 0x03 => some (queryOp 4 (fun b => [(0, decide (1 ≤ u16 b 0 ∧ u16 b 0 ≤ 0xFFE)), (1, decide (1 ≤ u16 b 2 ∧ u16 b 2 ≤ 1020 ∧ u16 b 0 + u16 b 2 ≤ 0xFFF))]) (fun b s => (List.range (u16 b 2)).map (fun i => BitVec.ofNat 8 (s.routeCode (u16 b 0 + i)))))
  | 0x04 => some (queryOp 0 (fun _ => []) (fun _ s => s.fabricConfig))
  | 0x10 => some
    { need := fun _ => 8, states := fabricStates,
      params := fun h _ => let b := h.cmd.params
        [(0, decide (64 ≤ u32 b 0 ∧ u32 b 0 ≤ 4096)), (1, decide (64 ≤ u32 b 4 ∧ u32 b 4 ≤ 4096 ∧ u32 b 0 + u32 b 4 ≤ 4096))],
      run := fun h s => let b := h.cmd.params
        let s := (s.changeGrant .dn0 s.fabric.grants.1 (u32 b 0)).changeGrant .dn1 s.fabric.grants.2 (u32 b 4)
        .done 0 [] { s with fabric := { s.fabric with grants := (u32 b 0, u32 b 4) } } }
  | 0x11 => some
    { need := fun _ => 4, states := fabricStates, bcast := fun _ => true,
      params := fun h _ => let b := h.cmd.params
        [(0, decide (10 ≤ u16 b 0 ∧ u16 b 0 ≤ 1000)), (1, decide (1 ≤ u16 b 2 ∧ u16 b 2 ≤ 1024))],
      run := fun h s => .done 0 [] { s with fabric := { s.fabric with detectMs := u16 h.cmd.params 0, violations := u16 h.cmd.params 2 } } }
  | 0x13 => some
    { need := fun _ => 0, states := [.discover, .timelock, .ready],
      abort := fun h s => if s.fabric.rejoin.contains h.serial then
          some (State.setLink { s with fabric := { s.fabric with rejoin := s.fabric.rejoin.erase h.serial } } .up (fun l => { l with helloOwed := l.helloOwed && (s.fabric.rejoin.erase h.serial != []) })) else none,
      run := fun h s =>
        if s.fabric.attached then .done 0 [] s
        else .accepted [] (({ s with fabric := { s.fabric with rejoin := s.fabric.rejoin ++ [h.serial] } }).setLink .up (fun l => { l with helloOwed := true })) }
  | 0x14 => some
    { need := fun _ => 4, states := fabricStates,
      params := fun h _ => let b := h.cmd.params
        [(0, decide (u8 b 0 = 1 ∨ u8 b 0 = 2)), (1, u8 b 0 == 1 || u8 b 1 == 0), (2, zeroAt b 2 2)],
      run := fun h s => .done 0 [] { s with fabric := { s.fabric with maxVersion := (u8 h.cmd.params 0, u8 h.cmd.params 1) } } }
  | _ => none

end Sys2Proof.Machine
end

