-- ==== Sys2Proof/Machine/Twin.lean ====
section
/-! DEFINITION. Twinning (chapter 14): duty and its interlock, heartbeats, pairing, the twin cycle and its copies, mirrored commands, failover, the swap, the gang, and the operations of group 0x0B. -/
namespace Sys2Proof.Machine

open Sys2Proof

/-- Changes the twin's state. -/
def State.setTwin (s : State) (f : Twin → Twin) : State := { s with twin := f s.twin }

/-- Counts a word of `TWIN_GET_COUNTERS`, numbered from 0. -/
def State.countTwin (s : State) (i : Nat) : State := s.setTwin (fun w => { w with counters := Tbl.bump 32 w.counters i })

/-- Whether the hub holds duty in a twin mode (R431). -/
def State.holdsDuty (s : State) : Bool := s.twin.mode != 0 && s.mayIssue

/-- Whether the link heartbeat is alive: one within the last 30 µs (R433). -/
def State.linkBeats (s : State) : Bool := s.twin.linkAt.any (fun t => decide (s.now ≤ t + 30000))

/-- Whether the pin heartbeat is alive. -/
def State.pinBeats (s : State) : Bool := s.twin.pinAt.any (fun t => decide (s.now ≤ t + 30000))

/-- A TWIN-class EVENT entry (R439, R443). -/
def State.twinEvent (s : State) (code : Nat) (unsync : Bool) : State :=
  s.arise 2 code (s.own + 65536 * s.twin.partner) (s.twin.streamAddr + (if unsync then 65536 else 0)) 0 s.now16

/-- The role that a hub without duty has (R432, R437, R452). -/
def Twin.waits (w : Twin) : Nat := if !w.paired then 0 else if w.mode = 2 then 4 else 2

/-- The pair becomes unsynchronised (R440). (log 85: DEDUCED) -/
def State.desync (s : State) : State :=
  s.setTwin (fun w => { w with desynced := w.desynced || (w.synced && w.role == 1), synced := false, syncDue := false })

/-- INTERLOCK_FAULT (R432, R434), once for each time its conditions arise. -/
def State.interlockFault (s : State) : State :=
  if s.twin.faulted then s
  else ((s.setTwin (fun w => { w with faulted := true })).countTwin 4).logFault 0x0053 0 s.twin.role (if s.twin.dutyIn then 1 else 0)

/-! ## Claims (R432) -/

/-- The hub claims duty: `DUTY_OUT` goes high and the claim window opens. (log 83: DEDUCED) -/
def State.claim (s : State) : State :=
  s.setTwin (fun w => { w with dutyOut := true, windowAt := some s.now, sawHigh := w.dutyIn, role := 5, release := false, retreated := false, faulted := false })

/-- A claimant retreats (R432). -/
def State.retreat (s : State) : State :=
  (s.setTwin (fun w => { w with dutyOut := false, windowAt := none, retreated := true, role := w.waits })).countTwin 1

/-! ## Taking duty (R446, R448) -/

/-- Whether a sequence lies at or below another, modulo 2^32 (R313). -/
def seqLe (a b : BitVec 32) : Bool := decide (0 ≤ ahead b.toNat a.toNat)

/-- The GAP records that stand for retained records discarded (R446). -/
def State.droppedGaps (s : State) : List Record :=
  s.twin.dropped.map (fun (e : Nat × Nat × Nat × Nat) => { key := e.1, kind := 7, fixed := true, sequence := BitVec.ofNat 32 e.2.1, gen := s.sys.configGen, units := e.2.2.2, replaced := e.2.2.1, reason := 1, first := s.now, index := irregular, last := 65536 * s.now, unit := match e.1 / 65536 with | 4 => 1 | 2 | 5 | 6 => 2 | _ => 0, format := s.streams.format })

/-- What a synchronised standby retains goes out first, flagged RESENT and coded afresh, and each stream goes on with its own records (R446, R282); after a swap, whose duty hub has sent them, nothing is resent (R450). (log 90: DEDUCED) -/
def State.resendRetained (s : State) : State :=
  let swapped := s.twin.releaseSeen && s.twin.partnerFlags.getLsbD 3
  let kept := if swapped then [] else s.droppedGaps ++ s.twin.retained.map (fun o => { o.body with flags := o.body.flags ||| 0x200 })
  let code := fun (r : Record) => { r with toCode := decide (r.kind ≤ 3) && r.coding == 0 && s.coded r.key }
  let n := kept.length
  let s := { s with streams := { s.streams with closed := (kept ++ s.streams.closed).map code } }
  let s := { s with streams := { s.streams with table := s.streams.table.map (fun (e : Nat × Stream) => (e.1, { e.2 with claimSeq := some (match kept.find? (fun (r : Record) => r.key == e.1) with | some r => r.sequence | none => e.2.sequence) })) } }
  s.setTwin (fun w => { w with retained := [], dropped := [], counters := Tbl.modify 0 w.counters 9 (fun v => sat 32 (v + n)) })

/-- A standby that holds duty takes over (R446); one that is unsynchronised keeps its streams closed until their watermarks come (R448). (log 90: DEDUCED) -/
def State.failover (s : State) : State :=
  let lost := s.time.phase = 7 ∨ s.time.phase = 8 ∨ s.time.phase < 5
  let s := if s.sys.hub = .shadow then (if lost then s.go .holdover 0x0063 else s.go .run 0x0061) else s
  let unsync := !s.twin.synced
  let s := s.twinEvent 2 unsync
  let s : State :=
    let s := if unsync then (s.awaitRestart).setTwin (fun w => { w with unsync := true, retained := [], dropped := [] }) else s.resendRetained
    if s.twin.lockstep then s else s.setTwin (fun w => { w with startDue := true, startAsked := false })
  s.setTwin (fun w => { w with synced := false, syncDue := false, lockstep := false, copies := [], records := [], casks := [], coders := [], mismatches := 0, degraded := false, tookDuty := true, proven := [] })

/-- A gang partner stands for its lead on UP: it attaches under the lead's HUB_ID (R455, R456). -/
def State.standForLead (s : State) : State :=
  if s.twin.asLead then s
  else
    let s := s.setTwin (fun w => { w with asLead := true })
    let s := s.setLink .twin (fun l => { l with given := Tbl.modify 0 l.given 3 (fun v => (v + 16384) % 2 ^ 32), grewAt := some (l.grewAt.getD s.now) })
    { s with fabric := { s.fabric with attached := false } }.setLink .up (fun l => { l with helloOwed := true })

/-- The hub holds duty from now on (R432, R446, R452, R455). -/
def State.holdDuty (s : State) : State :=
  let partner := s.twin.paired && s.twin.mode == 2
  let s := (s.setTwin (fun w => { w with windowAt := none, changedAt := s.now, claimedAt := some s.now, faulted := false, role := if w.mode = 1 then 1 else if partner then 4 else 3 })).countTwin 0
  if partner then (s.twinEvent 2 false).standForLead
  else if s.twin.paired then s.failover
  else s

/-- The claim window ends (R432). -/
def State.claimEnd (s : State) : State :=
  match s.twin.windowAt with
  | none => s
  | some t =>
    if s.now < t + 2000 then s
    else if s.sys.straps.twinRole then (if s.twin.sawHigh ∨ s.twin.dutyIn then s.retreat else s.holdDuty)
    else if s.twin.dutyIn then (s.retreat).interlockFault
    else s.holdDuty

/-! ## The interlock (R434) -/

/-- Each path that has gone dead is logged once (R434); a dead link makes the pair unsynchronised. -/
def State.pathLosses (s : State) : State :=
  let s := if !s.linkBeats ∧ !s.twin.linkLost then (((s.setTwin (fun w => { w with linkLost := true })).countTwin 2).logFault 0x0050 0 s.twin.partner 0).desync else s
  if !s.pinBeats ∧ !s.twin.pinLost then ((s.setTwin (fun w => { w with pinLost := true })).countTwin 3).logFault 0x0051 0 s.twin.partner 0 else s

/-- Both paths are dead while the partner's `DUTY_OUT` is high: the partner cannot be reached (R434). -/
def State.unreachablePartner (s : State) : State :=
  if s.twin.bothLost then s
  else
    let s := if s.twin.linkLost then s else (s.setTwin (fun w => { w with linkLost := true })).countTwin 2
    let s := if s.twin.pinLost then s else (s.setTwin (fun w => { w with pinLost := true })).countTwin 3
    ((s.setTwin (fun w => { w with bothLost := true })).desync).logFault 0x0052 0 s.twin.partner 0

/-- A gang lead that has lost its partner ends the partner's streams (R455): a GAP for what is missing since the last record, then END. -/
def State.partnerGone (s : State) : State :=
  if s.twin.bothLost then s
  else
    let s := s.setTwin (fun w => { w with bothLost := true })
    (s.streams.table.filter (fun e => partnerKey e.1 && e.2.isOpen)).foldl (fun (s : State) e =>
      let st := e.2
      let n := if st.period = 0 then 0 else (s.now16 - st.lastUnit) / (65536 * st.period)
      let g : Gap := { count := n, index := if st.period = 0 then irregular else st.nextIndex, first := st.lastUnit / 65536 + st.period, last := st.lastUnit + n * (65536 * st.period), reason := 10, unit := match e.1 / 65536 with | 4 => 1 | 2 | 5 | 6 => 2 | _ => 0 }
      let s := if n = 0 then s else s.joinGap e.1 g
      s.endStream e.1 5 s.now) s

/-- The interlock truth table, applied in every cycle of the GRID island (R434): what the hub does by its role, the heartbeat paths, `DUTY_IN` and RELEASE. (log 83: DEDUCED) -/
def State.interlock (s : State) : State :=
  let w := s.twin
  if w.mode = 0 ∨ w.barred ∨ w.windowAt.isSome ∨ s.sys.hub = .reset ∨ s.sys.hub = .boot ∨ s.sys.hub = .faultHold then s
  else
    let low := !w.dutyIn && w.lowSince.any (fun t => decide (t + 500 ≤ s.now))
    let dead := !s.linkBeats && !s.pinBeats
    if s.holdsDuty then
      let s := if w.paired then s.pathLosses else s
      let s := if dead ∧ w.paired ∧ w.role = 3 then s.partnerGone else s
      if w.dutyIn then s.interlockFault else s.setTwin (fun w => { w with faulted := false })
    else if !w.paired ∧ !w.retreated then (if low then s.claim else s)
    else if w.dutyIn then
      let s := s.setTwin (fun w => { w with faulted := false })
      if !w.paired then s else if dead then s.unreachablePartner else s.pathLosses
    else if dead then (if low then s.claim else s)
    else if w.releaseSeen then (if low then s.claim else s)
    else s.interlockFault

/-- `DUTY_IN` changes (R432, R434): a claimant with `TWIN_ROLE` 1 that sees it high retreats. -/
def State.dutyInChange (s : State) (level : Bool) : State :=
  let s := s.setTwin (fun w => { w with dutyIn := level, dutyInAt := if !level then none else if w.dutyIn then w.dutyInAt else some s.now, lowSince := if level then none else (if w.dutyIn then some s.now else some (w.lowSince.getD s.now)), sawHigh := w.sawHigh || (level && w.windowAt.isSome) })
  let s := if s.twin.windowAt.isSome ∧ level ∧ s.sys.straps.twinRole then s.retreat else s
  s.interlock

/-- Duty is lost without a hand-over: the hub drops `DUTY_OUT` (R433, R535), and says so (R439). (log 87: DEDUCED) -/
def State.dropDuty (s : State) : State :=
  if s.twin.mode = 0 then s
  else
    let s := if s.holdsDuty ∧ s.twin.paired then s.twinEvent 2 false else s
    s.setTwin (fun w => { w with dutyOut := false, windowAt := none, startDue := false, role := w.waits, changedAt := if s.holdsDuty then s.now else w.changedAt, retreated := true })

/-- The duty keeper drops `DUTY_OUT` 20 µs after the generator's last heartbeat (R433), counted from the claim where none has been since. (log 83: DEDUCED) -/
def State.keeperDrop (s : State) : State :=
  let w := s.twin
  let last := max (max (w.beatAt.getD 0) (w.pinBeatAt.getD 0)) (max (w.windowAt.getD 0) (w.claimedAt.getD 0))
  if s.twin.dutyOut ∧ last + 20000 ≤ s.now then s.dropDuty else s

/-! ## Heartbeats (R433, table "HEARTBEAT message") -/

/-- Whether the heartbeat generator runs: the hub holds duty or stands by, which a claimant without a pair does not, in none of `RESET`, `BOOT` and `FAULT_HOLD` (R433). -/
def State.generates (s : State) : Bool :=
  s.twin.mode != 0 && s.twin.role != 0 && (s.twin.role != 5 || s.twin.paired) && s.sys.hub != .reset && s.sys.hub != .boot && s.sys.hub != .faultHold

/-- A HEARTBEAT message; a degraded standby shows it in bit 5 (R443). (log 85: DEDUCED) -/
def State.heartbeat (s : State) : Bytes :=
  let w := s.twin
  let fl := (if s.holdsDuty then 1 else 0) + (if w.release then 2 else 0) + (if w.synced then 4 else 0) + (if s.upAttached then 8 else 0) + (if s.timeLocked then 16 else 0) + (if w.degraded then 32 else 0)
  le 1 1 ++ le 1 fl ++ le 1 s.sys.hub.code ++ le 1 w.mode ++ le 4 (if w.role = 2 then w.aligned else w.cycle) ++ le 8 s.now

/-- A heartbeat falls due: every 10 µs on TWIN, an `HB_OUT` edge every 5 µs (R433). -/
def State.heartbeatSend (s : State) (path : HbPath) : State :=
  if !s.generates then s
  else match path with
    | .link =>
      if s.twin.beatAt.any (fun t => decide (s.now < t + 10000)) then s
      else (s.tellTwin s.heartbeat).setTwin (fun w => { w with beatAt := some s.now })
    | .pin =>
      if s.twin.pinBeatAt.any (fun t => decide (s.now < t + 5000)) then s
      else s.setTwin (fun w => { w with pinBeatAt := some s.now, pinLevel := !w.pinLevel })

/-- The result of a completed swap (table of `TWIN_SWAP`): the new duty hub's address and when it claimed, which its `DUTY_OUT` has shown. (log 87: DEDUCED) -/
def swapNotice (partner now : Nat) : Bytes := le 2 partner ++ zeros 2 ++ le 8 now

/-- A HEARTBEAT message arrives (R433, R434, R440): the partner's flags, state and mode; the pair is synchronised while the standby says so; a duty hub that has given up duty sees it taken. (log 85: DEDUCED; 87: DEDUCED) -/
def State.takeHeartbeat (s : State) (m : Bytes) : State :=
  let fl := u8 m 1
  let before := s.twin.partnerFlags
  let s := s.setTwin (fun w => { w with linkAt := some s.now, linkLost := false, bothLost := false, partnerFlags := BitVec.ofNat 8 fl, partnerState := u8 m 2, partnerMode := u8 m 3, releaseSeen := bit fl 1 })
  let w := s.twin
  let s : State :=
    if w.role = 1 then
      (if !bit fl 2 then s.setTwin (fun w => { w with synced := false, desynced := false })
       else if w.desynced then s else s.setTwin (fun w => { w with synced := w.paired && w.mode == 1 }))
    else if w.role = 2 ∧ before.getLsbD 2 ∧ !bit fl 2 ∧ bit fl 0 then s.desync
    else s
  let s : State := if bit fl 0 ∧ s.twin.release then
      let s := s.setTwin (fun w => { w with release := false })
      match s.twin.swap with
      | some (r, _) => (s.setTwin (fun w => { w with swap := none, swapStage := 0 })).finish r stOk 0 (swapNotice s.twin.partner (s.twin.dutyInAt.getD s.now))
      | none => s
    else s
  if s.twin.role = 4 ∧ !s.twin.asLead ∧ !bit fl 3 ∧ bit fl 0 ∧ s.linkUp .up then s.standForLead else s

/-- A heartbeat arrives on a path. -/
def State.heartbeatTake (s : State) (path : HbPath) (m : Bytes) : State :=
  if s.twin.mode = 0 then s
  else match path with
    | .link => if u8 m 0 = 1 ∧ 16 ≤ m.length then (s.takeHeartbeat m).interlock else s
    | .pin => (s.setTwin (fun w => { w with pinAt := some s.now, pinLost := false, bothLost := false })).interlock

/-- HEARTBEAT_PATH_DEAD: a path over which nothing has come in time is dead, and the truth table acts on it (R434). (log 83: DEDUCED) -/
def State.pathDead (s : State) (path : HbPath) : State :=
  if (match path with | .link => s.linkBeats | .pin => s.pinBeats) then s else s.interlock

/-! ## Giving up duty (R449, R450) -/

/-- Whether the hub is in a state that leads to `SHADOW` (R73). -/
def State.mayShadow (s : State) : Bool := [HubState.ready, .run, .reconfigure, .holdover].contains s.sys.hub

/-- The duty hub gives up duty to its standby: RELEASE set, `DUTY_OUT` low, `SHADOW` (R449, R450). What it held unsent it retains as a standby does, plain (R445, R449). (log 87: DEDUCED) -/
def State.giveUpDuty (s : State) : State :=
  let s := s.twinEvent 2 false
  let q := s.streams
  let mine := fun (o : OutRecord) => o.raw.isEmpty && o.body.key / 65536 != 6
  let kept := ((q.buffer ++ q.control ++ q.spill).filter mine).foldl (fun l o => insertRecord { o with sent := none, body := { o.body.plainly with fixed := true } } l) []
  let s : State := { s with streams := { q with buffer := q.buffer.filter (fun o => !mine o), control := q.control.filter (fun o => !mine o), spill := q.spill.filter (fun o => !mine o), closed := q.closed.map (fun (r : Record) => ({ r with toCode := false } : Record)) } }
  let s := s.setTwin (fun w => { w with release := true, dutyOut := false, role := 2, changedAt := s.now, lockstep := s.base.streaming, retained := w.retained ++ kept, synced := false, desynced := false, syncDue := false, copies := [], records := [], casks := [], coders := [], releaseSeen := false })
  if s.mayShadow then s.go .shadow 0x0060 else s

/-- The duty hub yields when its UP link has not been attached for T_yield and the standby's is (R449). -/
def State.yieldDuty (s : State) : State :=
  let w := s.twin
  if w.mode = 1 ∧ w.paired ∧ w.role = 1 ∧ w.yieldUs ≠ 0 ∧ !s.upAttached ∧ s.fabric.lostAt + 1000 * w.yieldUs ≤ s.now ∧ w.partnerFlags.getLsbD 3 ∧ s.linkBeats
  then s.giveUpDuty else s

/-! ## The twin cycle (R441 to R445) -/

/-- One bit of CRC-64 (R442). -/
def crc64Bit (c : Nat) : Nat := if 2 ^ 63 ≤ c then (2 * c % 2 ^ 64) ^^^ 0x42F0E1EBA9EA3693 else 2 * c

/-- One byte of CRC-64. -/
def crc64Byte (c : Nat) (b : Byte) : Nat :=
  let c := c ^^^ (b.toNat * 2 ^ 56)
  crc64Bit (crc64Bit (crc64Bit (crc64Bit (crc64Bit (crc64Bit (crc64Bit (crc64Bit c)))))))

/-- CRC-64: polynomial 0x42F0_E1EB_A9EA_3693, initial value 0, no reflection, no final XOR (R442). -/
def crc64 (b : Bytes) : Nat := b.foldl crc64Byte 0

/-- What of a stream's coder a COPY watches (R441): its block count and flags, as its blob has them. -/
def State.coderMark (s : State) (key : Nat) : Nat × Nat := (u16 (s.coderBlob key) 24, u8 (s.coderBlob key) 26)

/-- The streams whose block count or flags have changed since a COPY last showed them (R441), and what they are now; one that no COPY has shown counts as a fresh coder. (log 84: DEDUCED) -/
def State.coderNews (s : State) : Tbl (Nat × Nat) :=
  (s.kiln.coders.map (fun e => (e.1, s.coderMark e.1))).filter (fun e => (s.streams.table.lookup e.1).isSome && Tbl.get (0, 2) s.twin.coders e.1 != e.2)

/-- A COPY message: the numbers of entries of its sections, then the sections (table "State copy sections"). The header's flag bit 0 carries the standby's time source (TWIN_SET_TIMING). -/
def State.copyMessage (s : State) (cycle : Nat) : Bytes :=
  let w := s.twin
  let blobs := s.coderNews.map (fun e => s.coderBlob e.1)
  [2, 0] ++ le 2 w.records.length ++ le 2 w.casks.length ++ le 2 blobs.length
    ++ le 4 cycle ++ le 2 s.sys.configGen.toNat ++ le 1 s.sys.hub.code ++ le 1 w.timeSrc ++ le 8 s.now
    ++ w.records.flatten ++ w.casks.flatten ++ le 8 s.time.inc ++ leInt 8 s.time.offset ++ le 8 s.time.held ++ blobs.flatten ++ le 8 (crc64 w.records.flatten)

/-- The duty hub sends the COPY of a cycle (R441). -/
def State.sendCopy (s : State) : State :=
  let c := (s.twin.cycle + 1) % 2 ^ 32
  (s.tellTwin (s.copyMessage c)).setTwin (fun w => { w with cycle := c, copies := w.copies ++ [{ cycle := c, upTo := s.streams.nextAdm, sentAt := s.now }], records := [], casks := [], coders := s.coderNews.foldl (fun t e => Tbl.set t e.1 e.2) w.coders })

/-- A twin cycle ends at a multiple of T_c (R441); a new T_c applies from the first cycle end that is a multiple of it. -/
def State.twinCycle (s : State) : State :=
  let w := s.twin
  if w.mode ≠ 1 ∨ !w.paired ∨ w.role ≠ 1 ∨ !s.linkUp .twin ∨ s.now % (1000 * w.cycleUs) ≠ 0 then s
  else
    let s := match w.nextUs with
      | some n => if s.now % (1000 * n) = 0 then s.setTwin (fun w => { w with cycleUs := n, nextUs := none }) else s
      | none => s
    s.sendCopy

/-- A COPY_ACK arrives: the records that the copy lists are released (R444). -/
def State.copyAck (s : State) (m : Bytes) : State :=
  let c := u32 m 1
  match s.twin.copies.find? (fun x => x.cycle == c) with
  | none => s
  | some x => s.setTwin (fun w => { w with copies := w.copies.filter (fun y => decide (x.upTo < y.upTo)), released := max w.released x.upTo })

/-- A COPY is not acknowledged in time (R441). (log 91: DEDUCED) -/
def State.copyLate (s : State) : State :=
  match s.twin.copies.find? (fun x => x.sentAt != 0 && decide (x.sentAt + 5000 ≤ s.now)) with
  | none => s
  | some x => (s.setTwin (fun w => { w with copies := w.copies.map (fun (y : Copy) => if y.cycle = x.cycle then { y with sentAt := 0 } else y) })).countTwin 6

/-- Whether an own record may leave while the pair is synchronised (R444). -/
def State.copyReleases (s : State) (o : OutRecord) : Bool :=
  !(s.twin.mode == 1 && s.twin.role == 1 && s.twin.synced) || decide (o.admission < s.twin.released)

/-! ## The standby's records (R443, R445) -/

/-- The units a to a + n − 1 of a record. -/
def Record.cut (r : Record) (a n : Nat) : Record :=
  let e := if r.kind = 3 ∨ r.units = 0 then 0 else r.payload.length / r.units
  { r with index := if r.index = irregular then irregular else r.index + a, units := n, samples := (r.samples.drop a).take n, payload := if r.kind = 3 then r.payload else (r.payload.drop (a * e)).take (n * e), first := r.first + a * r.period, last := if a + n = r.units then r.last else 65536 * (r.first + (a + n - 1) * r.period) }

/-- Joins two pieces of a stream. -/
def Record.join (a b : Record) : Record :=
  { a with units := a.units + b.units, samples := a.samples ++ b.samples, payload := if a.kind = 3 then a.payload else a.payload ++ b.payload, flags := a.flags ||| b.flags, last := b.last }

/-- What a standby takes out of its own records for an entry of the copy: the pieces, what stays, and the reason of what it lacks. -/
structure Carving where
  piece  : Option Record := none
  rest   : List Record := []
  lacks  : Option Nat := none

/-- Adds a piece. -/
def Carving.add (c : Carving) (r : Record) : Carving := { c with piece := some (match c.piece with | some p => r.join p | none => r) }

/-- Takes `n` units of a stream from source index `idx` on out of records that the standby has formed, in order (R443): what it lacks carries the reason of its own loss, CONVERTER where it has no marker. (log 84: DEDUCED) -/
def carve (key : Nat) : List Record → (idx n : Nat) → Carving
  | [], _, n => if n = 0 then {} else { lacks := some 2 }
  | r :: rs, idx, n =>
    let keep := fun (c : Carving) => { c with rest := r :: c.rest }
    if r.key ≠ key ∨ n = 0 then keep (carve key rs idx n)
    else if 8 ≤ r.kind then { rest := r :: rs, lacks := some 2 }
    else
      let irr := r.index == irregular || idx == irregular
      let skip := if irr then 0 else idx - r.index
      let miss := if irr then 0 else min n (r.index - idx)
      if r.units ≤ skip then carve key rs idx n
      else
        let m := min (n - miss) (r.units - skip)
        let tail := if skip + m < r.units then [r.cut (skip + m) (r.units - skip - m)] else []
        let c := carve key rs (if irr then idx else idx + miss + m) (n - miss - m)
        let c := { c with rest := tail ++ c.rest }
        let c := if miss = 0 then c else { c with lacks := some (c.lacks.getD 2) }
        if m = 0 then c
        else if r.kind = 7 then { c with lacks := some r.reason }
        else c.add (r.cut skip m)

/-- Takes the first START or END of a stream out of the standby's records. -/
def takeControl (key kind : Nat) (l : List Record) : Option Record × List Record :=
  match l.find? (fun r => r.key == key && r.kind == kind) with
  | some r => (some r, l.erase r)
  | none => (none, l)

/-- The record open at the end of a stream's own ones stays open across a carving. -/
def State.reopenTail (s : State) (key : Nat) (was : Option Record) : State :=
  match was, (s.streams.closed.filter (·.key == key)).getLast? with
  | some w, some r =>
    if r.kind = w.kind ∧ r.last = w.last ∧ r.kind < 7 then
      State.setStream { s with streams := { s.streams with closed := s.streams.closed.erase r } } key (fun x => { x with current := some r })
    else s
  | _, _ => s

/-- The standby forms its record for one entry of a copy: the same stream, sequence, first index and units, from its own conversions, or a GAP record (R443). Answers the record. (log 84: DEDUCED) -/
def State.formEntry (s : State) (b : Bytes) : Record × State :=
  let key := u32 b 0 % 1048576
  let seq := BitVec.ofNat 32 (u32 b 4)
  let idx := u64 b 8
  let n := u32 b 16
  let kind := u8 b 20
  let was := (s.stream key).current
  let s := s.closeRecord key
  let base : Record := { key, kind, sequence := seq, fixed := true, gen := s.sys.configGen, units := n, index := idx, first := s.now, last := s.now16, period := (s.stream key).period, format := s.streams.format, unit := match key / 65536 with | 4 => 1 | 2 | 5 | 6 => 2 | _ => 0 }
  let (r, l) : Record × List Record :=
    if 8 ≤ kind then
      let (o, l) := takeControl key kind s.streams.closed
      (match o with | some r => { r with sequence := seq, fixed := true, payload := if kind = 9 then endPayload (s.stream key) r.reason else r.payload } | none => { base with payload := zeros 32 }, l)
    else
      let c := carve key s.streams.closed idx n
      match kind, c.lacks, c.piece with
      | 7, l, p => ({ base with reason := l.getD 1, first := match p with | some p => p.first | none => base.first }, c.rest)
      | _, none, some p => ({ p with sequence := seq, fixed := true, units := n, index := idx, toCode := false }, c.rest)
      | _, l, _ => ({ base with kind := 7, reason := l.getD 2 }, c.rest)
  let s := { s with streams := { s.streams with closed := l } }
  let s := (s.reopenTail key was).setStream key (fun x => { x with sequence := seq + 1 })
  (r, s)

/-- Forms the records of every entry, in order. (log 90: DEDUCED) -/
def State.formEntries (s : State) : List Bytes → List Record × State
  | [] => ([], s)
  | b :: rest =>
    let (r, s) := s.formEntry b
    let (l, s) := s.formEntries rest
    (r :: l, s)

/-- Cuts a section into entries of `n` bytes. -/
def entriesOf (n : Nat) (b : Bytes) (count : Nat) : List Bytes := (List.range count).map (fun i => slice b (n * i) n)

/-- Discards the oldest retained record and counts it (R445). -/
def State.dropRetained (s : State) : State :=
  match s.twin.retained with
  | [] => s
  | o :: rest =>
    let k := o.body.key
    let old := s.twin.dropped.lookup k
    let d := match old with | some (q, n, u) => (q, n + 1, u + o.body.units) | none => (o.body.sequence.toNat, 1, o.body.units)
    (s.setTwin (fun w => { w with retained := rest, dropped := Tbl.set w.dropped k d })).countTwin 8

/-- Discards retained records until the rest fit the outbound buffer and the spill pages (R445). -/
def State.fitRetained : (fuel : Nat) → State → State
  | 0, s => s
  | fuel + 1, s => if storeBytes s.twin.retained ≤ s.bufferRoom + 4032 * s.spillRoom then s else State.fitRetained fuel s.dropRetained

/-- Retains the records that lie above the root's watermark (R445). -/
def State.retain (s : State) (l : List Record) : State :=
  let above := l.filter (fun r => match (s.stream r.key).ack with | some a => !seqLe r.sequence a | none => true)
  let s := s.setTwin (fun w => { w with retained := w.retained ++ above.map (fun r => ({ body := r, admission := 0 } : OutRecord)) })
  State.fitRetained s.twin.retained.length s

/-- The root's watermark for a stream advances: the standby frees what it retains at or below it (R445). -/
def State.freeRetained (s : State) (key : Nat) (a : BitVec 32) : State :=
  s.setTwin (fun w => { w with
    retained := w.retained.filter (fun o => !(o.body.key == key && seqLe o.body.sequence a)),
    dropped := w.dropped.filter (fun (e : Nat × Nat × Nat × Nat) => !(e.1 == key && seqLe (BitVec.ofNat 32 (e.2.1 + e.2.2.1 - 1)) a)) })

/-- A COPY arrives at the standby (R438, R440 to R443): it forms its records, compares the digest and config_gen, and answers COPY_ACK. One that has yet to align takes the duty hub's counters. (log 84: DEDUCED) -/
def State.copyTake (s : State) (m : Bytes) : State :=
  let w := s.twin
  if w.mode ≠ 1 ∨ !w.paired ∨ w.role ≠ 2 ∨ m.length < 56 then s
  else
    let nr := u16 m 2
    let nc := u16 m 4
    let nb := u16 m 6
    let cycle := u32 m 8
    let recs := slice m 24 (24 * nr)
    let casks := entriesOf 24 (slice m (24 + 24 * nr) (24 * nc)) nc
    let blobs := entriesOf 32 (slice m (48 + 24 * (nr + nc)) (32 * nb)) nb
    let digest := u64 m (48 + 24 * (nr + nc) + 32 * nb)
    let s := s.setTwin (fun w => { w with partnerState := u8 m 14, timeSrc := u8 m 15 % 2 })
    let (own, s) := s.formEntries (entriesOf 24 recs nr)
    let s := casks.foldl (fun (s : State) c => s.setGroup (u8 c 0) (fun x => { x with serial := (u32 c 4 + 1) % 2 ^ 32 })) s
    let s := blobs.foldl (fun (s : State) b => (s.setCoder (u32 b 0 % 1048576) (fun c => { c with lastSeq := BitVec.ofNat 32 (u32 b 4) })).loadBlob (u32 b 0 % 1048576) b) s
    let same := crc64 ((own.map s.copyEntry).flatten) == digest && u16 m 12 == s.sys.configGen.toNat
    let joining := !w.synced && !w.syncDue
    let s := if joining then { s with sys := { s.sys with configGen := BitVec.ofNat 16 (u16 m 12) } } else s
    let result := if same then 0 else if joining then 2 else 1
    let s : State := match result with
      | 0 => s.setTwin (fun w => { w with aligned := cycle, mismatches := 0, syncDue := w.syncDue || joining })
      | 1 =>
        let s := (s.setTwin (fun w => { w with aligned := cycle, mismatches := w.mismatches + 1 })).countTwin 5
        if s.twin.mismatches = 3 ∧ !s.twin.degraded then ((s.setTwin (fun w => { w with degraded := true })).logFault 0x0054 0 cycle 0).twinEvent 4 false else s
      | _ => s
    let s := if result = 2 then s else s.retain own
    s.tellTwin (3 :: le 4 cycle ++ le 1 result)

/-- SYNCED is set at the first grid epoch after the first COPY_ACK with result 0 (R438). (log 84: DEDUCED) -/
def State.twinEpoch (s : State) : State := if s.twin.syncDue then s.setTwin (fun w => { w with synced := true, syncDue := false, degraded := false, mismatches := 0 }) else s

/-! ## Mirrored commands (R440) -/

/-- The opcodes that the duty hub mirrors: the settings of groups 0x02 to 0x08, `STATE_RUN` and `STATE_STOP`. A spot conversion, kiln workspace and job, acknowledgement and DROP_REST are the hub's own. (log 86: DEDUCED) -/
def isMirrored (op : Nat) : Bool :=
  op == 0x0110 || op == 0x0111 ||
  (decide (0x0200 ≤ op) && decide (op < 0x0900) && !isQuery op && !([0x0214, 0x0713, 0x0714, 0x0715, 0x0716, 0x0812, 0x0813].contains op))

/-- Whether the duty hub mirrors now. -/
def State.mirrors (s : State) : Bool := s.twin.mode == 1 && s.twin.paired && s.twin.role == 1 && s.linkUp .twin

/-- Sends a MIRROR of a packet (R440), whose reply is held when its own status and result are given. (log 86: DEDUCED) -/
def State.sendMirror (s : State) (p : Packet) (ref status detail : Nat) (result : Bytes) (holds : Bool) : State :=
  let n := s.twin.mirrorNo
  (s.tellTwin (4 :: le 4 n ++ packetBytes p)).setTwin (fun w => { w with mirrorNo := (n + 1) % 2 ^ 32, mirrors := w.mirrors ++ [{ number := n, ref, status, detail, result, holds, sentAt := s.now }] })

/-- A mirror is settled: a reply that it held goes out with the hub's own status. -/
def State.settleMirror (s : State) (x : Mirror) : State :=
  let s := s.setTwin (fun w => { w with mirrors := w.mirrors.filter (fun y => y.number != x.number) })
  if x.holds then s.finish x.ref x.status x.detail x.result else s

/-- MIRROR_DONE arrives; a status other than the hub's own makes the pair unsynchronised (R440). (log 86: DEDUCED) -/
def State.mirrorDone (s : State) (m : Bytes) : State :=
  match s.twin.mirrors.find? (fun x => x.number == u32 m 1) with
  | none => s
  | some x =>
    let s := if u8 m 5 = x.status then s else (s.countTwin 7).desync
    s.settleMirror x

/-- MIRROR_DONE has not come within 1 ms (R440). -/
def State.mirrorTimeout (s : State) (number : Nat) : State :=
  match s.twin.mirrors.find? (fun x => x.number == number) with
  | none => s
  | some x => if s.now < x.sentAt + 1000000 then s else ((s.countTwin 7).desync).settleMirror x

/-! ## The swap (R450) -/

/-- The effect of `TWIN_SWAP` at its epoch: every open record closes, and the cycle ends early once all are admitted. -/
def effTwinSwap (ref : Nat) (_ : Bytes) (s : State) : State × Option (Nat × Nat × Bytes) :=
  ((s.closeRecords (fun _ => true)).setTwin (fun w => { w with swap := some (ref, s.now), swapStage := 1 }), none)

/-- The swap goes on as its steps complete: the last COPY, its acknowledgement, the released records sent, then RELEASE (R450). (log 87: DEDUCED) -/
def State.swapStep (s : State) : State :=
  let mine := fun (o : OutRecord) => o.raw.isEmpty
  if s.twin.role ≠ 1 then s
  else match s.twin.swapStage with
    | 1 => if s.streams.closed.isEmpty then (s.sendCopy).setTwin (fun w => { w with swapStage := 2 }) else s
    | 2 =>
      if s.twin.copies.isEmpty ∧ !(s.streams.buffer.any mine) ∧ !(s.streams.control.any mine) ∧ !(s.streams.spill.any mine) then (s.giveUpDuty).setTwin (fun w => { w with swapStage := 3 }) else s
    | _ => s

/-! ## Pairing and dissolution (R437, R438, R452, R458) -/

/-- The hub forgets its twin: mode none. A pairing command under way waits on, for its pair or its 10 s (R458). (log 89: DEDUCED) -/
def State.twinNone (s : State) : State :=
  { s with twin := { ({} : Twin) with counters := s.twin.counters, cycleUs := s.twin.cycleUs, nextUs := s.twin.nextUs, yieldUs := s.twin.yieldUs, timeSrc := s.twin.timeSrc, dutyIn := s.twin.dutyIn, dutyInAt := s.twin.dutyInAt, lowSince := s.twin.lowSince, changedAt := s.twin.changedAt, outbox := s.twin.outbox, pairRefs := s.twin.pairRefs } }

/-- The pair forms (R437, R452), or forms again for a hub that has left `FAULT_HOLD` (R539). The hub without duty of a redundant pair becomes the standby in `SHADOW`, so it pairs only in a state that leads there (R73). The partner of a gang shares its lead's address, and its UP is attached no more; the lead grants DATA credit on TWIN (R1, R436, R452). -/
def State.pairFormed (s : State) : State :=
  let w := s.twin
  let mine := s.holdsDuty
  if w.mode = 0 ∨ !s.linkUp .twin ∨ w.windowAt.isSome ∨ !(mine ∨ w.dutyIn) ∨ (w.paired ∧ !w.barred ∧ (w.synced ∨ !mine)) ∨ (!mine ∧ w.mode = 1 ∧ !s.mayShadow ∧ s.sys.hub ≠ .shadow) then s
  else
    let peer := u16 (s.link .twin).peer 12
    let role := if mine then (if w.mode = 1 then 1 else 3) else if w.mode = 1 then 2 else 4
    let s := s.setTwin (fun w => { w with paired := true, partner := peer, role, streamAddr := if w.mode = 2 then (if mine then s.own else peer) else w.streamAddr, synced := false, desynced := false, syncDue := false, degraded := false, mismatches := 0, linkLost := !s.linkBeats, pinLost := !s.pinBeats, bothLost := false, faulted := false, copies := [], records := [], casks := [], coders := [], retained := if w.barred then w.retained else [], dropped := [], lockstep := false, barred := false, tookDuty := w.tookDuty && role != 2, relayTag := 128 })
    let s := s.twinEvent 1 false
    let s : State :=
      if role = 2 then
        let s := s.setTwin (fun w => { w with lockstep := s.base.streaming })
        (if s.mayShadow then s.go .shadow 0x0060 else s)
      else if role = 4 then { s with fabric := { s.fabric with address := BitVec.ofNat 12 peer, attached := false } }
      else if role = 3 ∧ !w.paired then s.setLink .twin (fun l => { l with given := Tbl.modify 0 l.given 3 (fun v => (v + (16384 - min 16384 v)) % 2 ^ 32), grewAt := some (l.grewAt.getD s.now) })
      else s
    s

/-- Every pairing command completes with the role once the pair stands (R458). -/
def State.settlePair (s : State) : State :=
  if s.twin.paired && !s.twin.barred && s.twin.role != 5 then
    s.twin.pairRefs.foldl (fun (s : State) e => s.finish e.1 stOk 0 (le 1 s.twin.role ++ zeros 3)) (s.setTwin (fun w => { w with pairRefs := [] }))
  else s

/-- The hub gives up a pairing that stands for no command any more: mode none (R458). (log 112: DESIGN CHOICE) -/
def State.unpair (s : State) : State := if s.twin.pairRefs.isEmpty ∧ !s.twin.paired then s.twinNone else s

/-- The pair has not formed within 10 s of a pairing command (R458). (log 112: DESIGN CHOICE) -/
def State.pairingTimeout (s : State) : State :=
  let late := s.twin.pairRefs.filter (fun e => decide (e.2 + 10000000000 ≤ s.now))
  if late.isEmpty then s
  else late.foldl (fun (s : State) e => s.finish e.1 stInternal 0 []) (State.unpair (s.setTwin (fun w => { w with pairRefs := w.pairRefs.filter (fun e => !decide (e.2 + 10000000000 ≤ s.now)) })))

/-- The pair dissolves (R439, R458): a standby discards what it retains and returns to `READY`; a duty hub that sent under another address ends its streams, to reopen under its own; a gang partner gives back its lead's address and asks for one of its own. (log 89: DEDUCED) -/
def State.dissolve (s : State) : State :=
  let w := s.twin
  let s := if w.paired then s.twinEvent 3 false else s
  if w.paired ∧ w.role = 2 then
    let s := { s with streams := { s.streams with closed := s.streams.closed.filter (fun r => !isData r.key), table := s.streams.table.map (fun (e : Nat × Stream) => (e.1, if isData e.1 then { e.2 with isOpen := false, ending := false, current := none, pending := none } else e.2)) } }
    let s := s.twinNone
    if s.sys.hub = .shadow then s.go .ready 0x0062 else s
  else if w.paired ∧ w.role = 1 ∧ w.streamAddr ≠ s.own then
    let keys := (s.streams.table.filter (·.2.isOpen)).map (·.1)
    let s := s.endStreams (fun _ => true) 2 s.now
    let stamp := fun (r : Record) => { r with address := some w.streamAddr }
    let out := fun (o : OutRecord) => if o.raw.isEmpty then { o with body := stamp o.body } else o
    let q := s.streams
    let s := { s with streams := { q with closed := q.closed.map stamp, buffer := q.buffer.map out, control := q.control.map out, spill := q.spill.map out } }
    (keys.foldl (fun (s : State) k => s.setStream k (fun x => { x with resume := true })) s).twinNone
  else if w.paired ∧ w.role = 4 ∧ !s.sys.localMode then
    State.setLink { s.twinNone with fabric := { s.fabric with address := 0, attached := false, hops := 255 } } .up (fun l => { l with helloOwed := true })
  else s.twinNone

/-- The effect of `TWIN_SET_MODE` with mode none. -/
def effTwinSetMode (_ : Nat) (_ : Bytes) (s : State) : State × Option (Nat × Nat × Bytes) := (s.dissolve, some (0, 0, []))

/-! ## The gang (R452 to R456) -/

/-- The number of a relay that waits for its reply: by opcode and tag. (log 88: DEDUCED) -/
def relayKey (p : Packet) : Nat := p.opcode.toNat * 256 + p.cmd.tag.toNat

/-- The result of `TWIN_RELAY`: whether the inner packet was truncated, then the packet. -/
def relayResult (m : Bytes) : Bytes := le 1 (if 1016 < m.length then 1 else 0) ++ zeros 3 ++ m.take 1016

/-- Sends a packet to the gang partner in place of a command here, whose replies come back to it (R452, R453). -/
def State.sendRelay (s : State) (p : Packet) (ref : Nat) (tail : Bytes) : State :=
  let live := fun (e : Relay) => e.key != relayKey p || (s.heldOf e.ref).isSome
  (s.tellTwin (6 :: packetBytes p)).setTwin (fun w => { w with relays := w.relays.filter live ++ [{ key := relayKey p, ref, tail }] })

/-- The result of a `CMD_ABORT` that the partner has answered (R67): its outcome, and the queue and opcode of the command named here. What the partner could not stop goes on. (log 17: DEDUCED) -/
def relayedAbort (status outcome : Nat) (tail : Bytes) : Bytes := le 1 (if status = stOk ∧ outcome < 3 then outcome else 2) ++ tail

/-- RELAY_REPLY arrives at the lead (R453): the partner's reply gives the command's reply, its completion notice that command's notice; TWIN_RELAY carries them whole, a command that the lead passed on carries their results. (log 88: DEDUCED) -/
def State.relayReply (s : State) (m : Bytes) : State :=
  let b := m.drop 1
  match packetOf b with
  | none => s
  | some p =>
    let notice := decide (128 ≤ p.cmd.tag.toNat)
    let key := if notice then p.opcode.toNat * 256 + u8 b 20 else relayKey p
    match s.twin.relays.find? (fun e => e.key == key) with
    | none => s
    | some x =>
      let r := x.ref
      let isOp := fun (n : BitVec 16) => (s.heldOf r).any (fun h => h.opcode == n)
      let dry := (s.heldOf r).any (fun h => cmdDryRun h.cmd)
      let result := if dry then [] else if isOp 0x0B13 then relayResult b else b.drop (if notice then 24 else 20)
      let done := s.setTwin (fun w => { w with relays := w.relays.filter (fun e => e.ref != r) })
      if isOp 0x0005 then done.finish r stOk 0 (if dry then [] else relayedAbort (u8 b 16) (u8 b 20) x.tail)
      else if u8 b 16 = stAccepted ∧ !notice then s.accept r result
      else done.finish r (u8 b 16) (u8 b 17) result

/-- A linked group's commit on the partner comes as a timed trigger to the group of the same number (R454). -/
def State.linkedTrigger (s : State) (m : Bytes) : State :=
  if s.twin.mode ≠ 2 ∨ !s.twin.paired then s
  else
    let g := u8 m 1 % 64
    let t := 65536 * u64 m 9 + u16 m 5
    let s := s.setTwin (fun w => { w with heardTrig := ((g, t) :: w.heardTrig).take 16 })
    if 16 ≤ g ∨ !(s.group g).active then s
    else
      let (s, v) := s.decideTrigger g 4 4 t {}
      match v with
      | .waits =>
        if s.timedCount < 16 ∧ (s.group g).near t s.now then s.setTimed (· ++ [{ time := t, source := 4, place := 4, groups := [g] }])
        else s.setGroup g (·.miss t)
      | _ => s

/-- Tells the partner of commits in linked groups, but for those that its own triggers made (R454). -/
def State.tellCommits (s : State) : State :=
  if s.capture.linked.isEmpty then s
  else
    let l := s.capture.linked.filter (fun e => !s.twin.heardTrig.contains e)
    let s := { s with capture := { s.capture with linked := [] } }
    if s.twin.mode ≠ 2 ∨ !s.twin.paired then s
    else l.foldl (fun (s : State) e => s.tellTwin ([8] ++ le 1 e.1 ++ [0] ++ le 2 s.own ++ le 2 (e.2 % 65536) ++ zeros 2 ++ le 8 (e.2 / 65536))) s

/-- Two's complement samples out of a plain payload (R306). -/
def unpackSamples (wide : Bool) (b : Bytes) (n : Nat) : List Int :=
  let w := if wide then 24 else 18
  let v := b.foldr (fun x acc => x.toNat + 256 * acc) 0
  (List.range n).map (fun i => signed w (v / 2 ^ (w * i) % 2 ^ w))

/-- A record of the gang partner, read out of its bytes (table "Record header"); what its reserved flag bits hold is ignored (R9). -/
def readRecord (b : Bytes) : Record :=
  let kind := u8 b 1 % 16
  let key := u32 b 4 % 1048576
  let n := u16 b 14
  let p := slice b 32 (u32 b 28)
  let lead := if kind = 3 then 32 else 0
  let wide := if kind = 3 then (u16 p 30).testBit 4 else kind == 1
  let plain := kind == 0 || kind == 1 || kind == 3
  let old := u8 b 0 == 1
  let samples := if plain then unpackSamples wide (p.drop lead) n else []
  let first := u64 b 16
  let period := u32 b 24
  { key, kind, coding := 0, flags := BitVec.ofNat 16 (u16 b 2) &&& 0x07FF, sequence := BitVec.ofNat 32 (u32 b 8), gen := BitVec.ofNat 16 (u16 b 12),
    units := if kind = 7 then u64 p 0 else n, index := if kind = 7 then (if old then irregular else u64 p 8) else if period = 0 then irregular else first / period, first, period,
    payload := if plain then p.take lead else if kind = 7 then [] else p, samples, wide, reason := u8 p (if old then 8 else 26), unit := u8 p 27,
    last := if kind = 7 then (if old then 65536 * first else 65536 * u64 p 16 + u16 p 24) else 65536 * (first + (n - 1) * period), replaced := if kind = 7 then u32 p 28 else 0, format := u8 b 0, fixed := true }

/-- The source index of a record of the gang partner (R278): that of a START or GAP record stands in it; a data record goes on from the one before, and where its period is new an analogue channel's stands on the common grid (R452). (log 86: DEDUCED) -/
def State.sourceIndex (s : State) (r : Record) : Nat :=
  let x := s.stream r.key
  let g := s.grid
  match r.kind with
  | 7 => r.index
  | 8 => u64 r.payload 8
  | _ =>
    if r.period = 0 then irregular
    else if r.kind ≠ 3 ∧ r.period = x.period ∧ x.nextTime ≤ r.first ∧ x.nextIndex ≠ irregular then x.nextIndex + (r.first - x.nextTime) / r.period
    else if r.key % 512 < 256 ∧ g.2 ≤ r.first then (r.first - g.2) / r.period
    else r.first / r.period

/-- The lead notes where a stream of its partner stands once a record of it has come: its next source index and time, its period, and that it is open. -/
def State.notePartner (s : State) (r : Record) : State :=
  s.setStream r.key (fun x =>
    match r.kind with
    | 7 => if r.index = irregular then x else { x with nextIndex := r.index + r.units, nextTime := r.first + r.units * r.period }
    | 8 => { x with isOpen := true, nextIndex := r.index, nextTime := r.first, period := r.period }
    | 9 => x
    | _ => { x with nextIndex := r.index + r.units, nextTime := r.first + r.units * r.period, period := r.period })

/-- The lead takes a record of its partner over TWIN, to be coded where the lead codes it, and admits it under its own sequence (R271, R453), with the loads judged again as a stream opens (R287); a partner that stands for its lead passes the lead's on (R456). -/
def State.gangRecord (s : State) (b : Bytes) (owe : Option (Nat × Nat × Nat)) : State :=
  if s.twin.mode ≠ 2 ∨ !s.twin.paired ∨ b.length < 32 then s.payBack owe
  else if s.twin.role = 3 then
    let r := readRecord b
    let r := { r with index := s.sourceIndex r }
    let s := s.notePartner r
    let s := if r.kind = 8 then s.plainDown 8192 else s
    State.payBack { s with streams := { s.streams with closed := s.streams.closed ++ [{ r with toCode := decide (r.kind ≤ 3) && s.coded r.key }] } } owe
  else if s.twin.asLead then s.admitForwarded b 0 s.twin.partner 0 owe false (u32 b 4 % 1048576 / 65536 == 6)
  else s.payBack owe

/-! ## Messages (R435) -/

/-- Sends what waits for the partner in CONTROL frames on TWIN (R435). -/
def State.sendOutbox (s : State) : State :=
  if s.twin.outbox.isEmpty then s
  else
    let l := s.twin.outbox
    let s := s.setTwin (fun w => { w with outbox := [] })
    if !s.linkUp .twin then s
    else
      l.foldl (fun (s : State) m => s.queuePayload .twin 1 (s.recordTarget .twin) s.own 0 m none none) s

/-! ## Twin opcodes (R457) -/

/-- Whether a command that only the duty hub may take comes to a standby (R457). -/
def State.notDuty (s : State) : Option Nat := if s.twin.role = 2 ∨ s.twin.role = 4 then some 1 else none

/-- `TWIN_GET_STATUS` (0x0B01). -/
def State.twinStatus (s : State) : Bytes :=
  let w := s.twin
  le 1 w.mode ++ le 1 w.role ++ le 1 ((if w.synced then 1 else 0) + (if w.degraded then 2 else 0) + (if s.linkBeats then 4 else 0) + (if s.pinBeats then 8 else 0) + (if w.dutyIn then 16 else 0) + (if s.sys.straps.twinRole then 32 else 0))
    ++ le 1 w.partnerState ++ le 2 w.streamAddr ++ le 2 w.partner ++ le 4 w.cycleUs ++ le 4 w.yieldUs ++ le 4 w.aligned ++ le 4 w.retained.length ++ le 8 w.changedAt

/-- The meaning of `TWIN_SET_MODE` (R437, R458): pairing begins with the claim of R432, and mode none dissolves the pair, at its epoch or, where the hub does not sample, once the reply has been formed. One that names the pair that stands completes as a pairing does. (log 87: DEDUCED) -/
def runTwinSetMode (h : Held) (s : State) : Answer :=
  let b := h.cmd.params
  let mode := u8 b 0
  if mode = 0 then
    .accepted [] (s.addChange h (if s.live ∧ s.sys.hub ≠ .shadow then s.epochOf (u64 b 8) else s.now))
  else if s.twin.paired then
    (if s.twin.mode = mode ∧ (mode = 2 ∨ s.twin.streamAddr = u16 b 2) then .accepted [] (s.setTwin (fun w => { w with pairRefs := w.pairRefs ++ [(h.serial, s.now)] })) else .fail stBadState 0)
  else
    let s := s.setTwin (fun w => { w with mode, streamAddr := u16 b 2, pairRefs := w.pairRefs ++ [(h.serial, s.now)], linkLost := true, pinLost := true, role := if w.dutyOut then (if mode = 1 then 1 else 3) else 0, retreated := false, lowSince := if w.dutyIn then none else some (w.lowSince.getD s.now) })
    .accepted [] s

/-- The twin operations of group 0x0B. -/
def twinOps (n : Nat) : Option Op :=
  match n with
  | 0x01 => some (queryOp 0 (fun _ => []) (fun _ s => s.twinStatus))
  | 0x02 => some
    { need := fun _ => 4, states := allStates,
      params := fun h _ => [(1, zeroAt h.cmd.params 1 3)],
      run := fun h s => .done 0 (((List.range 10).map (fun i => le 4 (Tbl.get 0 s.twin.counters i))).flatten) (if u8 h.cmd.params 0 = 1 then s.setTwin (fun w => { w with counters := [] }) else s) }
  | 0x10 => some
    { need := fun _ => 16, states := [.ready, .run, .reconfigure, .holdover, .shadow],
      params := fun h s => let b := h.cmd.params
        [(0, decide (u8 b 0 ≤ 2)), (1, zeroAt b 1 1), (2, if u8 b 0 = 1 then u16 b 2 == s.own || u16 b 2 == u16 (s.link .twin).peer 12 else u16 b 2 == 0), (3, zeroAt b 4 4),
         (4, if u8 b 0 = 0 ∧ s.live ∧ s.sys.hub ≠ .shadow then timeOk h s (u64 b 8) else u64 b 8 == 0)],
      allow := fun h s => u8 h.cmd.params 0 == 0 || s.sys.hub != .shadow,
      abort := fun h s => if s.twin.pairRefs.any (fun e => e.1 == h.serial) then some (State.unpair (s.setTwin (fun w => { w with pairRefs := w.pairRefs.filter (fun e => e.1 != h.serial) }))) else abortChange h s,
      epoch := fun h s => if u8 h.cmd.params 0 = 0 ∧ s.live ∧ s.sys.hub ≠ .shadow then some (s.epochOf (u64 h.cmd.params 8)) else none,
      ownGen := true, effect := effTwinSetMode, run := runTwinSetMode }
  | 0x11 => some
    { need := fun _ => 12, states := fabricStates, deny := fun _ s => s.notDuty,
      params := fun h _ => let b := h.cmd.params
        [(0, decide (10 ≤ u32 b 0 ∧ u32 b 0 ≤ 10000)), (1, u32 b 4 == 0 || decide (100 ≤ u32 b 4 ∧ u32 b 4 ≤ 10000)), (2, decide (u8 b 8 ≤ 1)), (3, zeroAt b 9 3)],
      run := fun h s => let b := h.cmd.params
        .done 0 [] (s.setTwin (fun w => { w with nextUs := if u32 b 0 = w.cycleUs then none else some (u32 b 0), yieldUs := u32 b 4, timeSrc := u8 b 8 })) }
  | 0x12 => some
    { need := fun _ => 8, states := [.run, .reconfigure, .holdover], deny := fun _ s => s.notDuty,
      params := fun h s => [(0, timeOk h s (u64 h.cmd.params 0))],
      allow := fun _ s => s.twin.mode == 1 && s.twin.role == 1 && s.twin.synced,
      abort := abortChange, epoch := fun h s => some (s.epochOf (u64 h.cmd.params 0)), ownGen := true, effect := effTwinSwap,
      run := fun h s => .accepted [] (s.addChange h (s.epochOf (u64 h.cmd.params 0))) }
  | 0x13 => some
    { need := fun b => max 16 (min 1008 b.length), states := allStates, deny := fun _ s => s.notDuty,
      allow := fun _ s => s.twin.mode == 2 && (s.twin.role == 3 || s.twin.role == 4) && s.linkUp .twin,
      run := fun h s =>
        match packetOf h.cmd.params with
        | none => .fail stMalformed 0
        | some p => .asks (s.sendRelay { p with cmd := { p.cmd with sessionId := if cmdDryRun h.cmd then 1 else 0 } } h.serial []) }
  | _ => none

end Sys2Proof.Machine
end

