-- ==== Sys2Proof/Machine/Grid.lean ====
section
/-! DEFINITION. Grid changes (chapter 05, R154 to R162) and the operations of group 0x03. -/
namespace Sys2Proof.Machine

open Sys2Proof

/-- Before a change of a channel's sample period (R155): its open blocks leave as partial and its open records close. -/
def State.cutChannel (s : State) (ch : Nat) : State := (s.asBefore (fun s => s.cutBlocks ch (fun _ => true))).closeRecords (ofChannel ch)

/-- After it: a synchronising reset, and the stream periods anew. -/
def State.renewChannel (s : State) (ch : Nat) : State :=
  (s.setMchan ch (fun c => { c with resetDue := true, brineNew := true })).setPeriods ch

/-- The analogue channels whose streams or chains stand in the state. -/
def State.analogueChannels (s : State) (pans : List Nat) : List Nat :=
  ((s.mash.chans.map (fun (e : Nat × MashChan) => e.1)) ++ (s.streams.table.filterMap (fun (e : Nat × Stream) => if (List.range 256).any (fun c => ofChannel c e.1) then some (if e.1 / 65536 = 2 then e.1 % 65536 / 4 else e.1 % 65536) else none))).eraseDups.filter (fun ch => decide (ch < 256) && pans.contains (panOf ch))

/-- Changes the sample period of the channels of some pans (R155, R216). -/
def State.retime (s : State) (pans : List Nat) (change : State → State) : State :=
  let chs := s.analogueChannels pans
  let s := chs.foldl (fun (s : State) ch => s.cutChannel ch) s
  let s := change s
  let s := chs.foldl (fun (s : State) ch => s.renewChannel ch) s
  s.captureChange (fun _ x => x.channels.any (fun ch => decide (ch < 256) && pans.contains (panOf ch))) true

/-- A strobe message against the grid and divisor that are in force at its instant: it stands where that instant is a strobe of the pan there, and counts on that grid (R154, R158). (log 44: DEDUCED) -/
def State.standing (s : State) (p : Nat) (m : Strobe) : Option Strobe :=
  let g := s.gridAt m.time
  let k := (m.time - g.2) / g.period
  if m.time < s.now then some m
  else if g.2 ≤ m.time ∧ (m.time - g.2) % g.period = 0 ∧ k % 2 ^ s.divisorAt p m.time = 0 then some { m with k } else none

/-- The strobe messages of every pan are held against the grids accepted. -/
def State.judgeStrobes (s : State) : State :=
  { s with front := { s.front with pans := s.front.pans.map (fun (e : Nat × Pan) => (e.1, { e.2 with armed := e.2.armed.filterMap (s.standing e.1), strobes := e.2.strobes.filterMap (s.standing e.1) })) } }

/-- The strobes after an instant are to be sent anew, but for those whose messages stand. (log 44: DEDUCED) -/
def State.resend (s : State) (t : Nat) : State :=
  { s with front := { s.front with pans := s.front.pans.map (fun (e : Nat × Pan) => (e.1, { e.2 with sentTo := min e.2.sentTo t })) } }

/-- The grid takes N and G0 from the present epoch (R154, R162): it strikes no instant before the epoch, and the strobes sent for instants that are not the new grid's are void. -/
def State.setGrid (s : State) (n g0 : Nat) : State :=
  ({ s with front := { s.front with gridN := n, gridG0 := g0, strikeFrom := s.now } } : State).judgeStrobes

/-- The effect of `GRID_SET_ORIGIN`. -/
def effGridSetOrigin (_ : Nat) (p : Bytes) (s : State) : State × Option (Nat × Nat × Bytes) :=
  (s.retime (List.range 32) (fun s => s.setGrid (u16 p 0) (u64 p 8)), some (0, 0, []))

/-- The effect of `GRID_SET_PERIOD`: the epoch is the new origin; a change to the N in force changes nothing else. -/
def effGridSetPeriod (_ : Nat) (p : Bytes) (s : State) : State × Option (Nat × Nat × Bytes) :=
  (if u16 p 0 = s.front.gridN then s else s.retime (List.range 32) (fun s => s.setGrid (u16 p 0) s.now), some (0, 0, []))

/-- The effect of `GRID_SET_DIVISOR` on the pans whose divisor it alters. -/
def effGridSetDivisor (_ : Nat) (p : Bytes) (s : State) : State × Option (Nat × Nat × Bytes) :=
  let pans := (maskPans (u32 p 0)).filter (fun q => (s.pan q).log2D != u8 p 4)
  let set := fun (s : State) => (pans.foldl (fun (s : State) q => s.setPan q (fun x => { x with log2D := u8 p 4 })) s).judgeStrobes
  (if pans.isEmpty then s else s.retime pans set, some (0, 0, []))

/-- The effect of `GRID_SET_DELAY`: its first samples carry the settling flag for one sample period (R155). -/
def effGridSetDelay (_ : Nat) (p : Bytes) (s : State) : State × Option (Nat × Nat × Bytes) :=
  ((List.range (u16 p 2)).foldl (fun (s : State) i =>
    let ch := u16 p 0 + i
    let d := i8 p (12 + i)
    if (s.chan ch).userDelay = d then s else s.setChan ch (fun c => ({ c with userDelay := d }).unsettle (s.inPeriod ch))) s, some (0, 0, []))

/-- The bound B of R151 in ps. (log 44: DEDUCED) -/
def State.alignBound (s : State) : Nat := sat 16 (150 * s.hopCount + 77 + (roundDiv (3 * s.deltaT) 200).toNat)

/-- `GRID_GET_STATUS` (0x0302). -/
def State.gridStatus (s : State) : Bytes :=
  let f := s.front
  le 8 f.lastK ++ le 8 f.lastTime ++ le 4 f.missed ++ le 4 f.skipped ++ le 2 s.lead ++ le 1 f.lastResid ++ le 1 s.hopCount
    ++ le 2 (sat 15 s.deltaT) ++ le 2 s.alignBound
    ++ le 1 ((if s.timeLocked then 1 else 0) + (if s.sys.hub = .holdover then 2 else 0) + (if s.cmds.changes.any (fun c => c.opcode.toNat / 256 == 3) then 4 else 0)) ++ zeros 3

/-- A setting of the grid: always accepted for a grid epoch boundary (R161). The strobes beyond that boundary are those of the grid in force there: they are sent anew when the change is accepted, and again when it is aborted. -/
def gridSetting (need : Bytes → Nat) (states : List HubState) (at' : Bytes → Nat) (params : Bytes → List (Nat × Bool)) (timeIndex : Nat) (effect : Nat → Bytes → State → State × Option (Nat × Nat × Bytes)) (bcast : Bool) : Op :=
  { need, states, bcast := fun _ => bcast
    params := fun h s => (params h.cmd.params).filter (fun e => decide (e.1 < timeIndex)) ++ [(timeIndex, timeOk h s (at' h.cmd.params))] ++ (params h.cmd.params).filter (fun e => decide (timeIndex < e.1))
    abort := fun h s => (abortChange h s).map (fun t => (t.resend ((s.cmds.changes.find? (·.ref == h.serial)).elim 0 (·.epoch))).judgeStrobes), epoch := fun h s => some (s.epochOf (at' h.cmd.params)), effect
    run := fun h s => .accepted [] ((s.addChange h (s.epochOf (at' h.cmd.params))).resend (s.epochOf (at' h.cmd.params))) }

/-- The legal states of the grid changes but for `GRID_SET_ORIGIN` (R160). -/
def gridStates : List HubState := [.ready, .run, .reconfigure]

/-- The grid operations of group 0x03. -/
def gridOps (n : Nat) : Option Op :=
  match n with
  | 0x01 => some (queryOp 0 (fun _ => []) (fun _ s => le 2 s.front.gridN ++ zeros 2 ++ le 4 s.grid.period ++ le 8 s.front.gridG0 ++ le 8 (s.grid.next s.now) ++ (List.range 32).map (fun p => BitVec.ofNat 8 (s.pan p).log2D)))
  | 0x02 => some (queryOp 0 (fun _ => []) (fun _ s => s.gridStatus))
  | 0x03 => some (queryOp 4 (fun b => [(0, decide (u16 b 0 < 256)), (1, decide (1 ≤ u16 b 2 ∧ u16 b 2 ≤ 128 ∧ u16 b 0 + u16 b 2 ≤ 256))])
      (fun b s => ((List.range (u16 b 2)).map (fun i => let ch := u16 b 0 + i; le 1 (s.tCal ch) ++ leInt 1 (s.chan ch).userDelay ++ le 2 (s.chan ch).lastTap)).flatten))
  | 0x10 => some (gridSetting (fun _ => 24) [.ready] (fun b => u64 b 16) (fun b => [(0, decide (10 ≤ u16 b 0 ∧ u16 b 0 ≤ 25000)), (1, zeroAt b 2 2), (2, zeroAt b 4 4)]) 4 effGridSetOrigin true)
  | 0x11 => some (gridSetting (fun _ => 16) gridStates (fun b => u64 b 8) (fun b => [(0, decide (10 ≤ u16 b 0 ∧ u16 b 0 ≤ 25000)), (1, zeroAt b 2 2), (2, zeroAt b 4 4)]) 3 effGridSetPeriod true)
  | 0x12 => some (gridSetting (fun _ => 16) gridStates (fun b => u64 b 8) (fun b => [(0, u32 b 0 != 0), (1, decide (u8 b 4 ≤ 10)), (2, zeroAt b 5 3)]) 3 effGridSetDivisor false)
  | 0x13 => some (gridSetting (fun b => 12 + u16 b 2) gridStates (fun b => u64 b 4)
      (fun b => [(0, decide (u16 b 0 < 256)), (1, decide (1 ≤ u16 b 2 ∧ u16 b 0 + u16 b 2 ≤ 256)), (3, (List.range (u16 b 2)).all (fun i => decide (-128 ≤ i8 b (12 + i)) && decide (i8 b (12 + i) ≤ 63)))]) 2 effGridSetDelay false)
  | _ => none

end Sys2Proof.Machine
end

