-- ==== Sys2Proof/Machine/StreamOps.lean ====
section
/-! DEFINITION. The streams as commands and the root see them (chapter 10): their status, settings, acknowledgement, dropping the rest, and the operations of group 0x08 on streams. -/
namespace Sys2Proof.Machine

open Sys2Proof

/-! ## Status -/

/-- Whether a stream kind and index name a stream of a hub (table "Record kinds"). -/
def validStream (kind i : Nat) : Bool :=
  match kind with
  | 0 | 1 => decide (i < 320)
  | 2 => decide (i < 1280)
  | 3 => decide (i < 8192) && decide (i % 512 < 320)
  | 4 | 6 => decide (i < 16)
  | 5 => decide (i < 16) || (decide (256 ≤ i) && decide (i < 264))
  | _ => false

/-- Whether a stream_id names a stream of this hub: on a gang lead also one of its partner's (R453). -/
def State.ownStream (s : State) (id : Nat) : Bool :=
  let i := id % 65536
  id / 1048576 == s.streamAddress && (validStream (id / 65536 % 16) i || (s.twin.role == 3 && decide (32768 ≤ i) && validStream (id / 65536 % 16) (i - 32768)))

/-- `STREAM_GET` (0x0801). -/
def State.streamStatus (s : State) (id : Nat) : Bytes :=
  let key := id % 1048576
  let x := s.stream key
  let (u, l) := s.sizes key
  le 1 (if x.isOpen then 1 else if s.endPending key then 2 else 0) ++ le 1 (if s.coded key then 1 else 0) ++ zeros 2 ++ le 4 x.sequence.toNat
    ++ le 4 (match x.ack with | some a => a.toNat | none => 0xFFFFFFFF) ++ le 4 (sat 32 x.records) ++ le 8 x.units ++ le 8 x.gapUnits
    ++ le 8 (match x.pending with | some g => g.count | none => 0) ++ le 4 u ++ le 4 l ++ le 8 x.lastFirst

/-- The ride-through of R325 in µs at the record rate measured over the last completed ms. (log 59: DEDUCED) -/
def State.rideThrough (s : State) : Nat :=
  let r := s.streams.ratePrev * 1000
  if r = 0 then 0xFFFFFFFF else sat 32 (8000000 * (s.bufferRoom + 4032 * s.spillRoom) / r)

/-- Bytes of the outbound buffer in use, with the records that a standby retains there (R445). -/
def State.bufferUsed (s : State) : Nat := storeBytes s.streams.buffer + min (storeBytes s.twin.retained) (8388608 - s.dnReserved)

/-- `STREAM_GET_OUTBOUND` (0x0802). -/
def State.outboundStatus (s : State) : Bytes :=
  let q := s.streams
  le 4 s.bufferUsed ++ le 4 q.peak ++ le 4 s.spillPages ++ le 4 q.spillLimit ++ le 4 s.spillRoom ++ le 4 s.dnReserved
    ++ le 4 (storeBytes q.control) ++ le 4 s.openStreams ++ le 4 q.refused ++ le 4 q.gapsAdm ++ le 8 q.gapUnits ++ le 4 q.eventsDropped ++ le 4 q.acksIgnored
    ++ le 1 q.format ++ zeros 3 ++ le 4 s.rideThrough

/-- `STREAM_GET_OUTBOUND` zeroes its counters and the peak. -/
def State.clearOutbound (s : State) : State :=
  { s with streams := { s.streams with peak := 0, refused := 0, gapsAdm := 0, gapUnits := 0, eventsDropped := 0, eventDrops := [], acksIgnored := 0 } }

/-- `STREAM_LIST` (0x0803). -/
def State.streamList (s : State) (kind first count : Nat) : Bytes :=
  let l := ((s.streams.table.filter (fun e => e.2.isOpen && (kind == 255 || e.1 / 65536 == kind) && decide (first ≤ e.1 % 65536))).map (fun e => s.streamId e.1)).take count
  le 2 l.length ++ zeros 2 ++ (l.map (le 4)).flatten

/-! ## Settings -/

/-- The effect of `STREAM_SET_ENABLE`. -/
def effStreamSetEnable (_ : Nat) (p : Bytes) (s : State) : State × Option (Nat × Nat × Bytes) :=
  let kind := u8 p 0
  let on := u8 p 1 == 1
  ((List.range (u16 p 4)).foldl (fun (s : State) i =>
    let ch := u16 p 2 + i
    let s : State := { s with streams := { s.streams with enabled := Tbl.set s.streams.enabled (streamKey kind ch) on } }
    if on then s.openChannel kind ch 2 else s.endStream (streamKey kind ch) 2 s.now) s, some (0, 0, []))

/-- The effect of `STREAM_SET_RECORD`: it closes the open records of the streams named. -/
def effStreamSetRecord (_ : Nat) (p : Bytes) (s : State) : State × Option (Nat × Nat × Bytes) :=
  let kind := u8 p 0
  ((List.range (u16 p 4)).foldl (fun (s : State) i =>
    let j := u16 p 2 + i
    let s := s.closeRecords (fun k => decide (k / 65536 = kind) && (if kind = 2 then k % 65536 / 4 == j && decide (k % 65536 < 32768) else k % 65536 == j))
    { s with streams := { s.streams with sizes := Tbl.set s.streams.sizes (streamKey kind j) (u16 p 6, u32 p 8) } }) s, some (0, 0, []))

/-- Units that a record of a kind may hold. -/
def maxUnits (kind : Nat) : Nat := match kind with | 0 | 1 => 4096 | 2 => 128 | _ => 32

/-- The effect of `STREAM_SET_FORMAT`: every open record closes, and later ones take the format. -/
def effStreamSetFormat (_ : Nat) (p : Bytes) (s : State) : State × Option (Nat × Nat × Bytes) :=
  let s := s.closeRecords (fun _ => true)
  ({ s with streams := { s.streams with format := u8 p 0 } }, some (0, 0, []))

/-! ## Acknowledgement (R327, R396, R448) -/

/-- A stream that awaited its restart watermark has it: it goes on after it, and opens again at the next epoch if it was open (R396, R448). -/
def State.restartStream (s : State) (key : Nat) (w : BitVec 32) : State :=
  s.setStream key (fun x => { x with sequence := w + 1, ack := some w, awaiting := false, claimSeq := if s.twin.tookDuty then some (w + 1) else none })

/-- One of the entries that a restart waits for has come: the last lets every stream that still awaits go on (R396 step 3). -/
def State.countEntry (s : State) (key : Nat) : State :=
  match s.fabric.restart with
  | some (n, t, l) => if n ≤ 1 then s.restartDone else { s with fabric := { s.fabric with restart := some (n - 1, t, l), named := s.fabric.named ++ [key] } }
  | none => s

/-- Takes one entry for this hub: whether it was applied (R327). The first entry of a stream after an ASSIGN with RESTART is one of those that it announced, and sets the counter of a stream that is not open again (R396 step 2). (log 76: DESIGN CHOICE) -/
def State.ackEntry (s : State) (key : Nat) (w : BitVec 32) : State × Bool :=
  let x := s.stream key
  let first := s.fabric.restart.isSome && !s.fabric.named.contains key
  if x.awaiting ∨ (first ∧ !x.isOpen) then (if first then (s.restartStream key w).countEntry key else s.restartStream key w, true)
  else
  let s := if first then s.countEntry key else s
  if !seqLe w (x.sequence - 1) ∨ (x.ack.isNone && x.startSeq == 0 && x.sequence == 0 && x.records == 0) then ({ s with streams := { s.streams with acksIgnored := sat 32 (s.streams.acksIgnored + 1) } }, false)
  else if x.ack.any (fun a => !seqLe a w) then (s, false)
  else
    let own := x.claimSeq.all (fun c => seqLe c w)
    let s := s.setStream key (fun x => { x with ack := some w, claimSeq := if own then none else x.claimSeq })
    let s := if own && s.twin.tookDuty && !s.twin.proven.contains key then { s with twin := { s.twin with proven := s.twin.proven ++ [key] } } else s
    (if s.twin.role = 2 then s.freeRetained key w else s, true)

/-- Takes the entries of a `STREAM_ACK`: applied, not applied, and for other addresses. On a gang partner the entries of its own streams carry 0x8000 (R453); one that stands for its lead counts the lead's among those that a RESTART announced (R455). -/
def takeAcks : List Bytes → State → State × Nat × Nat × Nat
  | [], s => (s, 0, 0, 0)
  | b :: r, s =>
    let id := u32 b 0
    let key := id % 1048576
    if id / 1048576 ≠ s.streamAddress ∨ (s.twin.role = 4 ∧ !partnerKey key) then
      let k := key + 1048576
      let s := if id / 1048576 = s.streamAddress ∧ s.twin.asLead ∧ s.fabric.restart.isSome ∧ !s.fabric.named.contains k then s.countEntry k else s
      let (s, a, n, o) := takeAcks r s
      (s, a, n, o + 1)
    else
      let key := if s.twin.role = 4 ∧ partnerKey key then key - 32768 else key
      let (s, ok) := s.ackEntry key (BitVec.ofNat 32 (u32 b 4))
      let (s, a, n, o) := takeAcks r s
      if ok then (s, a + 1, n, o) else (s, a, n + 1, o)

/-! ## Dropping the rest (R328) -/

/-- `STREAM_DROP_REST` (R328, R374): the records dropped, the first sequence dropped and the units counted. On a 1.x link the record under way is none that qualifies (R387). (log 61: DEDUCED) -/
def State.dropRest (s : State) (key : Nat) (all : Bool) : State × Nat × Nat × Nat :=
  let q := s.streams
  let mine := (q.buffer ++ q.control ++ q.spill).filter (fun o => o.raw.isEmpty && o.body.key == key && decide (o.body.kind ≤ 6) && (if o.sent.isSome then !(s.link o.via).old else all))
  let l := mine.foldl (fun acc o => insertRecord o acc) []
  match l with
  | [] => (s, 0, 0, 0)
  | o :: _ =>
    let id := s.streamId (s.outKey key)
    let s := (s.dropAdmitted l 6).dropUsers (l.map (·.body.span))
    let s := (l.filter (fun d => d.sent.isSome)).foldl (fun (s : State) d => s.queueFrame d.via (frameOf 6 (d.clsOn d.via) (s.recordTarget d.via) s.own 0 (le 4 id ++ le 4 d.body.sequence.toNat)) none) s
    (s, l.length, o.body.sequence.toNat, (l.map (fun d => d.body.units)).sum)

/-! ## Operations -/

/-- The states of `STREAM_DROP_REST`. -/
def dropStates : List HubState := [.calibrate, .run, .reconfigure, .holdover]

/-- A setting of group 0x08 with its time_ns (R341). -/
def streamSetting (need : Nat) (params : Bytes → List (Nat × Bool)) (at' timeIndex : Nat) (bcast : Bool) (effect : Nat → Bytes → State → State × Option (Nat × Nat × Bytes)) : Op :=
  { need := fun _ => need, states := settingStates,
    params := fun h s => params h.cmd.params ++ [(timeIndex, timeRule h s (u64 h.cmd.params at') && !(h.isBroadcast && u64 h.cmd.params at' == 0))],
    bcast := fun _ => bcast, abort := abortChange,
    epoch := fun h s => some (s.effectTime (u64 h.cmd.params at')),
    effect, run := fun h s => configRun effect (s.changeEpoch (u64 h.cmd.params at')) h s }

/-- `STREAM_ACK` (0x0812). A gang partner that stands for its lead passes it on, for the lead's streams (R456). (log 88: DEDUCED) -/
def opStreamAck : Op :=
  { need := fun b => 4 + 8 * u16 b 0, states := .shadow :: settingStates, bcast := fun _ => true, lockExempt := true,
    params := fun h _ => let b := h.cmd.params; [(0, decide (1 ≤ u16 b 0 ∧ u16 b 0 ≤ 127)), (1, zeroAt b 2 2)],
    run := fun h s =>
      let b := h.cmd.params
      let l := (List.range (u16 b 0)).map (fun i => slice b (4 + 8 * i) 8)
      let (s, a, n, o) := takeAcks l s
      let s := if s.twin.asLead ∧ s.linkUp .twin ∧ h.owner ≠ .relay ∧ l.any (fun e => !partnerKey (u32 e 0)) then s.tellTwin (6 :: packetBytes { opcode := h.opcode, cmd := { h.cmd with sessionId := 0 } }) else s
      .done 0 (le 2 a ++ le 2 n ++ le 2 o ++ zeros 2) s }

/-- `STREAM_DROP_REST` (0x0813). -/
def opStreamDropRest : Op :=
  { need := fun _ => 8, states := dropStates, lockExempt := true,
    params := fun h _ => let b := h.cmd.params; [(1, decide (u8 b 4 ≤ 1)), (2, zeroAt b 5 3)],
    run := fun h s =>
      let id := u32 h.cmd.params 0
      let (s, n, q, u) := if id / 1048576 = s.streamAddress then s.dropRest (id % 1048576) (u8 h.cmd.params 4 == 1) else (s, 0, 0, 0)
      .done 0 (le 4 n ++ le 4 q ++ le 8 u) s }

/-- The operations of group 0x08 on streams. -/
def streamOps (n : Nat) : Option Op :=
  match n with
  | 0x01 => some
    { need := fun _ => 4, states := allStates, params := fun h s => [(0, s.ownStream (u32 h.cmd.params 0))],
      run := fun h s => .done 0 (s.streamStatus (u32 h.cmd.params 0)) s }
  | 0x02 => some
    { need := fun _ => 4, states := allStates, params := fun h _ => let b := h.cmd.params; [(1, zeroAt b 1 3)],
      run := fun h s => .done 0 s.outboundStatus (if u8 h.cmd.params 0 = 1 then s.clearOutbound else s) }
  | 0x03 => some (queryOp 8 (fun b => [(0, decide (u8 b 0 ≤ 6) || u8 b 0 == 255), (1, zeroAt b 1 1), (3, decide (1 ≤ u16 b 4 ∧ u16 b 4 ≤ 250)), (4, zeroAt b 6 2)]) (fun b s => s.streamList (u8 b 0) (u16 b 2) (u16 b 4)))
  | 0x10 => some (streamSetting 16 (fun b => [(0, decide (u8 b 0 ≤ 1)), (1, decide (u8 b 1 ≤ 1)), (2, decide (u16 b 2 < 320)), (3, decide (1 ≤ u16 b 4 ∧ u16 b 2 + u16 b 4 ≤ 320)), (4, zeroAt b 6 2)]) 8 5 false effStreamSetEnable)
  | 0x11 => some (streamSetting 24 (fun b =>
      let top := if u8 b 0 = 6 then 16 else 320
      [(0, decide (u8 b 0 ≤ 2) || u8 b 0 == 6), (1, zeroAt b 1 1), (2, decide (u16 b 2 < top)), (3, decide (1 ≤ u16 b 4 ∧ u16 b 2 + u16 b 4 ≤ top)), (4, decide (1 ≤ u16 b 6 ∧ u16 b 6 ≤ maxUnits (u8 b 0))), (5, decide (1 ≤ u32 b 8 ∧ u32 b 8 ≤ 1000000)), (6, zeroAt b 12 4)]) 16 7 false effStreamSetRecord)
  | 0x12 => some opStreamAck
  | 0x13 => some opStreamDropRest
  | 0x14 => some (streamSetting 12 (fun b => [(0, u8 b 0 == 1 || u8 b 0 == 2), (1, zeroAt b 1 3)]) 4 2 true effStreamSetFormat)
  | 0x15 => some
    { need := fun _ => 8, states := settingStates, params := fun h _ => let b := h.cmd.params; [(0, decide (u32 b 0 ≤ 8192)), (1, zeroAt b 4 4)],
      run := fun h s => .done 0 [] { s with streams := { s.streams with spillLimit := u32 h.cmd.params 0 } } }
  | _ => none

end Sys2Proof.Machine
end

