-- ==== Sys2Proof/Machine/Feed.lean ====
section
/-! DEFINITION. The feed port (chapter 10, R333 to R339): items, the FIFO, flow control, and the feed operations of group 0x08. -/
namespace Sys2Proof.Machine

open Sys2Proof

/-- Whether an entry of the feed FIFO is an item, a sample or SYNC, and not the mark of one that found the FIFO full. -/
def FeedItem.isItem (i : FeedItem) : Bool := i.gap == 0 || i.gap == 9

/-- The bytes of the FIFO that a list of entries occupies. -/
def fifoBytes (l : List FeedItem) : Nat := 4 * (l.filter FeedItem.isItem).length

/-- Changes the feed port. -/
def State.setFeed (s : State) (f : Feed → Feed) : State := { s with feed := f s.feed }

/-- Gives credit for `n` bytes back to the source, in credit mode (R338). -/
def Feed.owe (f : Feed) (n : Nat) : Feed := if f.credit then { f with owed := f.owed + n } else f

/-- A feed channel. -/
def State.feedChan (s : State) (o : Nat) : FeedChan := Tbl.get {} s.feed.chans o

/-- Whether the feed FIFO shows full to its producer (R329, R334). -/
def State.feedFull (s : State) : Bool := s.queueFull 96 8192 (fifoBytes s.feed.fifo / 4)

/-- Puts a sample, a SYNC item or a hole of a channel in the FIFO and advances the channel's index past it (R334, R335). -/
def State.feedPush (s : State) (o : Nat) (value : Int) (gap count : Nat) : State :=
  let c := s.feedChan o
  let i : FeedItem := { ch := 256 + o, index := c.next, time := c.first + c.next * c.period, value, gap, count }
  let s := if i.isItem then (s.notePush 96).setFeed (fun f => { f with accepted := sat 32 (f.accepted + 1) }) else s
  s.setFeed (fun f => { f with fifo := f.fifo ++ [i], chans := Tbl.set f.chans o { c with next := c.next + count }, peak := max f.peak (fifoBytes (f.fifo ++ [i])) })

/-- An item that finds the FIFO full is dropped and counted (R334). -/
def State.feedDrop (s : State) : State := s.setFeed (fun f => ({ f with droppedFull := sat 32 (f.droppedFull + 1) }).owe 4)

/-- A sample item (R334, R336). -/
def State.feedSample (s : State) (o : Nat) (w : Nat) : State :=
  let c := s.feedChan o
  let value := if c.width = 24 then signed 24 w else signed 18 (w % 2 ^ 18)
  let bad := c.width != 24 && decide (signed 24 w ≠ signed 18 (w % 2 ^ 18))
  if !c.on ∨ bad then s.setFeed (fun f => ({ f with discarded := sat 32 (f.discarded + 1) }).owe 4)
  else if 0 < c.skip then s.setFeed (fun f => ({ f with chans := Tbl.set f.chans o { c with skip := c.skip - 1 }, behind := sat 32 (f.behind + 1) }).owe 4)
  else if s.feedFull then s.feedDrop.feedPush o 0 8 1
  else s.feedPush o value 0 1

/-- A SYNC item (R334, R336): the source's index against the hub's, as the item enters the FIFO; one that finds it full says nothing. (log 63: DEDUCED) -/
def State.feedSync (s : State) (o w : Nat) : State :=
  let c := s.feedChan o
  let d := (w + 2 ^ 24 - c.next % 2 ^ 24) % 2 ^ 24
  if !c.on then s.setFeed (fun f => ({ f with discarded := sat 32 (f.discarded + 1) }).owe 4)
  else if s.feedFull then s.feedDrop
  else if d = 0 then s.feedPush o 0 9 0
  else if d < 2 ^ 23 then (s.setFeed (fun f => { f with syncGaps := sat 32 (f.syncGaps + 1) })).feedPush o 0 9 d
  else (s.setFeed (fun f => { f with chans := Tbl.set f.chans o { c with skip := 2 ^ 24 - d } })).feedPush o 0 9 0

/-- A whole item (table "Feed item"). -/
def State.feedWhole (s : State) (b : Bytes) : State :=
  let o := u8 b 0 % 64
  match u8 b 0 / 64 with
  | 0 => s.feedSample o (u24 b 1)
  | 2 => s.feedSync o (u24 b 1)
  | _ => s.setFeed (fun f => ({ f with discarded := sat 32 (f.discarded + 1) }).owe 4)

/-- One byte taken with FEED_VALID high (R333): the rest of a flushed item is discarded (R332), and four bytes in the staging register make an item. (log 63: DEDUCED) -/
def State.feedByte (s : State) (b : Byte) : State :=
  if !s.feed.enabled then s
  else if 0 < s.feed.partialSkip then s.setFeed (fun f => { f with partialSkip := f.partialSkip - 1 })
  else
    let st := s.feed.staging ++ [b]
    if st.length < 4 then s.setFeed (fun f => { f with staging := st })
    else (s.setFeed (fun f => { f with staging := [] })).feedWhole st

/-- Bytes arrive at the feed port. -/
def State.feedTake (s : State) (b : Bytes) : State := b.foldl (fun (s : State) x => s.feedByte x) s

/-- FEED_VALID has been low for 2 periods (R333): an item that it cuts short after `bytes` more bytes is discarded whole and counted. -/
def State.feedCut (s : State) (bytes : Nat) : State :=
  if !s.feed.enabled then s
  else
    let cut := !s.feed.staging.isEmpty || (s.feed.partialSkip == 0 && bytes % 4 != 0)
    s.setFeed (fun f => { f with staging := [], partialSkip := 0, cutShort := sat 32 (f.cutShort + (if cut then 1 else 0)) })

/-- FEED_HOLD_N follows the watermarks, judged on the FEED island's count, which holds what has just been popped (R329, R337). -/
def State.feedWatermark (s : State) : State :=
  let n := fifoBytes s.feed.fifo + 4 * s.unfreed 96
  if !s.feed.enabled ∨ s.feed.credit then s
  else if s.feed.high ≤ n ∧ s.feed.holdN then s.setFeed (fun f => { f with holdN := false, pulses := sat 32 (f.pulses + 1) })
  else if n ≤ s.feed.low then s.setFeed (fun f => { f with holdN := true })
  else s

/-- FEED_HOLD_N pulses for 256 bytes of credit (R338). -/
def State.feedCredit (s : State) : State :=
  if s.feed.enabled ∧ s.feed.credit ∧ 256 ≤ s.feed.owed then s.setFeed (fun f => { f with owed := f.owed - 256, pulses := sat 32 (f.pulses + 1) }) else s

/-- An entry of the FIFO reaches the MASH island. Where the hub does not sample, it goes no further. -/
def State.feedDeliver (s : State) (i : FeedItem) : State :=
  if !s.running then s
  else if i.gap = 0 then s.mashInput i.ch i.index i.time i.value 0
  else if i.count = 0 then s
  else s.mashHole i.ch i.index i.count i.time i.gap

/-- Entries leave the FIFO for the MASH island; the credit of the items goes back (R338). -/
def State.feedLeave (s : State) (l : List FeedItem) : State := l.foldl (fun (s : State) i => s.feedDeliver i) (s.setFeed (fun f => f.owe (fifoBytes l)))

/-- The head of the FIFO leaves for the MASH island, with the marks of dropped items ahead of it; an item that the empty flag does not show stays (R329, R330). -/
def State.feedPop (s : State) : State :=
  let marks := s.feed.fifo.takeWhile (fun i => !i.isItem)
  let rest := s.feed.fifo.drop marks.length
  match rest with
  | i :: r =>
    if s.queueEmpty 96 (fifoBytes rest / 4) then (s.setFeed (fun f => { f with fifo := rest })).feedLeave marks
    else ((s.notePop 96).setFeed (fun f => { f with fifo := r })).feedLeave (marks ++ [i])
  | [] => (s.setFeed (fun f => { f with fifo := [] })).feedLeave marks

/-- The entries of one channel reach the MASH island, ahead of a change of the channel. -/
def State.feedDrain (s : State) (ch : Nat) : State :=
  let l := s.feed.fifo.filter (fun i => i.ch == ch)
  (s.setFeed (fun f => { f with fifo := f.fifo.filter (fun i => i.ch != ch) })).feedLeave l

/-- Empties the FIFO and the staging register (R332, R339): the complete items and the partial ones removed. (log 63: DEDUCED) -/
def State.feedFlush (s : State) : State × Nat × Nat :=
  let l := s.feed.fifo
  let part := if s.feed.staging.isEmpty then 0 else 1
  let skip := if s.feed.staging.isEmpty then s.feed.partialSkip else 4 - s.feed.staging.length
  let s := s.setFeed (fun f => { f with fifo := [], staging := [], partialSkip := skip })
  let s := l.foldl (fun (s : State) i => s.feedDeliver { i with gap := if i.gap = 0 then 12 else i.gap }) s
  (s.setFeed (fun f => f.owe (fifoBytes l)), fifoBytes l / 4, part)

/-! ## Settings -/

/-- The feed channels that are configured, by number. -/
def Feed.active (f : Feed) : List Nat := (f.chans.filter (·.2.on)).map (·.1)

/-- The effect of `FEED_SET_CONFIG`. -/
def effFeedSetConfig (_ : Nat) (p : Bytes) (s : State) : State × Option (Nat × Nat × Bytes) :=
  let on := u8 p 0 == 1
  let credit := u8 p 1 == 1
  let f := s.feed
  let was := f.enabled
  let same := credit == f.credit && u32 p 4 == f.high && u32 p 8 == f.low
  let s := if was && !(on && same) then s.feedFlush.1 else s
  let s := if was && !on then f.active.foldl (fun (s : State) o => s.endChannel (256 + o) 2) s else s
  let s := s.setFeed (fun f => { f with enabled := on, credit, high := u32 p 4, low := u32 p 8, staging := if was && on then f.staging else [], partialSkip := if was && on then f.partialSkip else 0, owed := if was && on && same then f.owed else if was && on && credit && f.credit then f.owed else 0, holdN := if was && on && same then f.holdN else true })
  let s := if on && !was then f.active.foldl (fun (s : State) o => s.beginChannel (256 + o) 2) s else s
  (s, some (0, 0, []))

/-- The effect of `FEED_SET_CHANNEL`: a channel that is on takes new values as one that ends and begins. (log 63: DEDUCED) -/
def effFeedSetChannel (_ : Nat) (p : Bytes) (s : State) : State × Option (Nat × Nat × Bytes) :=
  let o := u8 p 0
  let ch := 256 + o
  let old := s.feedChan o
  let s := if old.on then (s.feedDrain ch).endChannel ch 2 else s
  if u8 p 1 = 0 then (s.setFeed (fun f => { f with chans := Tbl.erase f.chans o }), some (0, 0, []))
  else
    let s := s.setFeed (fun f => { f with chans := Tbl.set f.chans o { on := true, width := u8 p 2, period := u32 p 4, first := u64 p 8 } })
    let s := if s.feed.enabled then s.beginChannel ch 2 else s
    (if old.on ∨ s.inPeriod ch ≠ old.period then s.captureChange (fun _ x => x.channels.contains ch) true else s, some (0, 0, []))

/-- The sum of the sample rates of the feed channels in samples per ns at time t, with one channel at a period (R335). -/
def State.feedRate (s : State) (t o period : Nat) : Nat × Nat :=
  ((List.range 64).filter (fun i => i != o && (s.feedAt i t).on)).foldl (fun acc i => fracAdd acc (1, (s.feedAt i t).period)) (1, period)

/-- `FEED_GET_STATUS` (0x0804). -/
def Feed.status (f : Feed) : Bytes :=
  le 1 (if f.enabled then 1 else 0) ++ le 1 (if f.credit then 1 else 0) ++ zeros 2 ++ le 4 (fifoBytes f.fifo) ++ le 4 f.high ++ le 4 f.low
    ++ le 4 f.accepted ++ le 4 f.droppedFull ++ le 4 f.cutShort ++ le 4 f.discarded ++ le 4 f.syncGaps ++ le 4 f.behind ++ le 4 f.pulses ++ le 4 f.peak ++ le 8 (maskOf f.active)

/-- Zeroes the counters of the feed port. -/
def Feed.clear (f : Feed) : Feed := { f with accepted := 0, droppedFull := 0, cutShort := 0, discarded := 0, syncGaps := 0, behind := 0, pulses := 0, peak := 0 }

/-- `FEED_SET_CHANNEL` (0x0817). -/
def opFeedSetChannel : Op :=
  { need := fun _ => 24, states := settingStates,
    params := fun h s =>
      let p := h.cmd.params
      let o := u8 p 0
      let on := u8 p 1 == 1
      let t := s.effectTime (u64 p 16)
      let taken := (s.tapsAt t).any (fun e => e.2.on && e.2.chan == 256 + o)
      let rate := s.feedRate t o (u32 p 4)
      [(0, o < 64 && !taken), (1, decide (u8 p 1 ≤ 1)), (2, !on || u8 p 2 == 18 || u8 p 2 == 24), (3, zeroAt p 3 1), (4, !on || (decide (8 ≤ u32 p 4) && decide (8 * rate.1 ≤ rate.2))), (5, !on || decide (t ≤ u64 p 8)), (6, timeRule h s (u64 p 16))],
    abort := abortChange, epoch := fun h s => some (s.effectTime (u64 h.cmd.params 16)), effect := effFeedSetChannel,
    run := fun h s => configRun effFeedSetChannel (s.changeEpoch (u64 h.cmd.params 16)) h s }

/-- The feed operations of group 0x08. -/
def feedOps (n : Nat) : Option Op :=
  match n with
  | 0x04 => some
    { need := fun _ => 4, states := allStates, params := fun h _ => let b := h.cmd.params; [(1, zeroAt b 1 3)],
      run := fun h s => .done 0 s.feed.status (if u8 h.cmd.params 0 = 1 then s.setFeed Feed.clear else s) }
  | 0x16 => some (streamSetting 24 (fun b => [(0, decide (u8 b 0 ≤ 1)), (1, decide (u8 b 1 ≤ 1)), (2, zeroAt b 2 2), (3, decide (8 ≤ u32 b 4 ∧ u32 b 4 ≤ 32764) && u32 b 4 % 4 == 0), (4, u32 b 8 % 4 == 0 && decide (u32 b 8 < u32 b 4)), (5, zeroAt b 12 4)]) 16 6 false effFeedSetConfig)
  | 0x17 => some opFeedSetChannel
  | 0x18 => some
    { need := fun _ => 0, states := settingStates,
      run := fun _ s => let (s, n, m) := s.feedFlush; .done 0 (le 4 n ++ le 4 m) s }
  | _ => none

end Sys2Proof.Machine
end

