-- ==== Sys2Proof/Machine/Outbound.lean ====
section
/-! DEFINITION. Records on their way out (chapter 10): EVENT entries into their records, closure by latency, admission, pending gaps that time out, spill, and the sending of records (R308 to R324, R372). -/
namespace Sys2Proof.Machine

open Sys2Proof

/-! ## Into the stores -/

/-- The 24 bytes of an EVENT entry (R526). -/
def EventEntry.bytes (e : EventEntry) : Bytes := stampBytes e.time ++ le 2 e.code ++ le 4 e.d0.toNat ++ le 4 e.d1.toNat ++ le 4 e.d2.toNat

/-- The first EVENT entry that has arisen and whose stream is open takes its place in the control store, or is dropped where it finds no room (R320). (log 59: DEDUCED) -/
def State.placeEvent (s : State) : State :=
  match s.streams.arisen.find? (fun e => (s.stream (streamKey 6 e.cls)).isOpen) with
  | none => s
  | some e =>
    let key := streamKey 6 e.cls
    let s : State := { s with streams := { s.streams with arisen := s.streams.arisen.erase e } }
    let cost := 24 + (if (s.stream key).current.isSome then 0 else 32)
    if cost ≤ s.eventRoom then s.addUnit key irregular e.time 0 0 none e.bytes
    else
      let s : State := { s with streams := { s.streams with eventsDropped := sat 32 (s.streams.eventsDropped + 1), eventDrops := Tbl.bump 32 s.streams.eventDrops e.cls } }
      s.miss key { count := 1, index := irregular, first := e.time / 65536, last := e.time, reason := 13, unit := 2 }

/-- A stream's open record closes when its max_latency has passed since its first unit (R308). -/
def State.latencyExpiry (s : State) (key : Nat) : State :=
  if (s.stream key).current.isSome ∧ (s.stream key).arrived + 1000 * (s.sizes key).2 ≤ s.now then s.closeRecord key else s

/-- Whether the hub admits records of its own: a standby's wait for the copy that lists them (R443). -/
def State.admits (s : State) : Bool := !(s.twin.paired && s.twin.mode == 1 && s.twin.role == 2)

/-- Admits the first closed record that may be admitted (R313, R319). -/
def State.admitNext (s : State) : State :=
  if !s.admits then s
  else match nextAdmissible s s.streams.closed [] with
    | none => s
    | some r => State.admitRecord { s with streams := { s.streams with closed := s.streams.closed.erase r } } r

/-- A pending gap is admitted 1 s after its first unit (R316), where its stream has room for a GAP record (R320). -/
def State.gapTimeout (s : State) (key : Nat) : State :=
  match (s.stream key).pending with
  | none => s
  | some g => if s.admits && s.sys.hub != .faultHold && decide (g.first + 1000000000 ≤ s.now) && decide (s.gapsWaiting key < 2) then s.admitGap key s.sys.configGen else s

/-- The oldest spilled record goes back to the buffer when it fits there (R323). -/
def State.spillDrain (s : State) : State :=
  match s.streams.spill with
  | [] => s
  | o :: r =>
    if s.bufferRoom < o.size then s
    else { s with streams := { s.streams with spill := r, buffer := s.streams.buffer ++ [o], peak := max s.streams.peak (storeBytes s.streams.buffer + o.size) } }

/-! ## Out of the stores -/

/-- Whether a config_gen is newer than another. -/
def genNewer (a b : BitVec 16) : Bool := a != b && decide ((a - b).toNat < 32768)

/-- Whether the hub may drive DATA-class frames out of UP (R431), as a gang partner that stands for its lead there does (R456). -/
def State.upGate (s : State) : Bool := s.twin.mode == 0 || s.mayIssue || s.twin.asLead

/-- Whether a record that carries config_gen `g` waits for the completion notice of a change as old as it (R49): the command of the change has not reached its final status, or its notice, or the reply that carries the status in its place, has not left; it may still have to wait for END records, or for the standby. (log 28: DEDUCED) -/
def State.noticeHolds (s : State) (g : BitVec 16) : Bool :=
  s.cmds.held.any (fun h => h.newGen.any (fun n => n == g || genNewer g n) && (h.incomplete || h.owes || h.noticeOut.isSome || h.replyOut.isSome))

/-- Whether data waits for the completion notice of the STATE_RUN that began it (R96). (log 28: DEDUCED) -/
def State.runHolds (s : State) : Bool := s.cmds.held.any (fun h => h.opcode == 0x0110 && !h.incomplete && (h.owes || h.noticeOut.isSome))

/-- Whether a record may leave now: not from a standby or in `SHADOW` (R71), own data not in `FAULT_HOLD` (R535), forwarded records only where the hub forwards (R536), not ahead of its copy (R444), nor ahead of the notice of a change whose config_gen it carries, in a firmware pause as ever (R49, R533), nor data ahead of the notice of STATE_RUN (R96). (log 60: DEDUCED) -/
def State.mayLeave (s : State) (p : Port) (o : OutRecord) : Bool :=
  let gate := p != .up || o.cls == 2 || s.upGate
  if !o.raw.isEmpty then gate && s.forwards && s.sys.hub != .shadow
  else gate && s.sys.hub != .shadow && (s.sys.hub != .faultHold || o.cls == 2) && s.copyReleases o && !s.noticeHolds o.body.gen && !(decide (o.body.kind ≤ 5) && s.runHolds) && !(s.sys.fwPaused && genNewer o.body.gen s.streams.notified)

/-- The record under way of a list, or its first. -/
def headOf (l : List OutRecord) : Option OutRecord := match l.find? (fun o => o.sent.isSome) with | some o => some o | none => l.head?

/-- The EVENT-class record that leaves next (R321, R373): of lowest admission number among the hub's own and the forwarded ones. -/
def State.eventHead (s : State) : Option OutRecord :=
  match headOf (s.streams.control.filter (fun o => o.cls == 2)), headOf (s.streams.buffer.filter (fun o => o.cls == 2)) with
  | some x, some y => if x.sent.isSome ∨ (y.sent.isNone ∧ x.admission < y.admission) then some x else some y
  | some x, none => some x
  | none, y => y

/-- The DATA-class record that leaves next (R321): of lowest admission number among the heads of the two stores, and none while a spilled record comes before it. In `FAULT_HOLD` the hub's own stay where they are. (log 58: DEDUCED) -/
def State.dataHead (s : State) : Option OutRecord :=
  let fwd := s.sys.hub == .faultHold
  let a := headOf (s.streams.buffer.filter (fun o => o.cls == 3 && (!fwd || !o.raw.isEmpty)))
  let b := if fwd then none else headOf (s.streams.control.filter (fun o => o.cls == 3))
  let c := match a, b with
    | some x, some y => if x.sent.isSome ∨ (y.sent.isNone ∧ x.admission < y.admission) then some x else some y
    | some x, none => some x
    | none, y => y
  c.filter (fun x => x.sent.isSome || !(s.streams.spill.any (fun d => decide (d.admission < x.admission) && !fwd)))

/-- Replaces a waiting record, or removes it. -/
def State.setOut (s : State) (o : OutRecord) (new : Option OutRecord) : State :=
  let f := fun (l : List OutRecord) => l.filterMap (fun d => if d.admission = o.admission then new else some d)
  { s with streams := { s.streams with buffer := f s.streams.buffer, control := f s.streams.control } }

/-- The bytes of a waiting record. -/
def State.outBytes (s : State) (o : OutRecord) : Bytes :=
  if o.raw.isEmpty then recordBytes (BitVec.ofNat 12 s.streamAddress) { o.body with key := s.outKey o.body.key } else o.raw

/-- Sends the fragments of a record from byte n on, as far as the port may (R372, R375): the state, and the bytes sent in all. -/
def sendFragments (p : Port) (o : OutRecord) (cls target source hops : Nat) (b : Bytes) : (fuel n : Nat) → State → State × Nat
  | 0, n, s => (s, n)
  | fuel + 1, n, s =>
    let m := (s.link p).limit
    let f := if o.detach then frameOf 9 cls target source hops b else frameOf 1 (cls + (if n = 0 then 4 else 0) + (if b.length ≤ n + m then 8 else 0)) target source hops (slice b n m)
    if b.length ≤ n ∨ !s.canSend p f then (s, n)
    else sendFragments p o cls target source hops b fuel (n + (if o.detach then b.length else m)) (s.transmit p f (some o))

/-- How many bytes of a record a port has sent. -/
def OutRecord.begun (o : OutRecord) (p : Port) : Nat := if o.via = p then o.sent.getD 0 else 0

/-- A port sends what it may of one record; a record sent whole leaves its store and gives back the credit it held. -/
def State.sendRecord (s : State) (p : Port) (o : OutRecord) : State :=
  let b := s.outBytes o
  let n0 := o.begun p
  let (s, n) := sendFragments p o (o.clsOn p) (if o.raw.isEmpty then s.recordTarget p else o.target) (if o.raw.isEmpty then s.own else o.source) (if o.raw.isEmpty then 0 else o.hops) b 64 n0 s
  if n = n0 then s
  else if n < b.length then s.setOut o (some { o with sent := some n, via := p })
  else
    let s := (s.setOut o none).payBack o.owe
    if o.raw.isEmpty then { s with streams := { s.streams with sent := s.streams.sent ++ [o.body] } } else s

/-- Whether the first fragment still to come of a record could go now: behind every frame of its class that waits at the port, unless it is under way (R370, R372). -/
def State.ready (s : State) (p : Port) (o : OutRecord) : Bool :=
  let b := s.outBytes o
  let n := o.begun p
  let cls := o.clsOn p
  s.mayLeave p o && (decide (0 < n) || !(s.underWay p cls || (firstOf cls (s.link p).waiting).isSome)) && (p != .up || (s.own != 0 && s.fabric.attached)) && s.canSend p (frameOf (if o.detach then 9 else 1) cls 0 0 0 (if o.detach then b else slice b n (s.link p).limit))

/-- One record leaves (R321, R370): frames that wait at the port first, then EVENT, then DATA. Forwarded records leave by UP. -/
def State.sendNext (s : State) : State :=
  let p := s.recordPort
  let s := (s.flush .up).flush p
  let portFor := fun (o : OutRecord) => if o.raw.isEmpty then p else Port.up
  match s.eventHead.filter (fun o => s.ready (portFor o) o) with
  | some o => s.sendRecord (portFor o) o
  | none => match s.dataHead.filter (fun o => s.ready (portFor o) o) with
    | some o => s.sendRecord (portFor o) o
    | none => s

/-! ## The record rate (R325) -/

/-- The record bits admitted are counted by intervals of 1 ms of fabric time. (log 59: DEDUCED) -/
def State.rollRate (s : State) : State :=
  let ms := s.now / 1000000
  let q := s.streams
  if ms = q.rateMs then s
  else { s with streams := { q with rateMs := ms, ratePrev := if ms = q.rateMs + 1 then q.rateBits else 0, rateBits := 0 } }

end Sys2Proof.Machine
end

