-- ==== Sys2Proof/Machine/Cal.lean ====
section
/-! DEFINITION. Calibration (chapter 15): plausibility, background rotations and their loans, foreground passes, applying an image, the calibration window, and the operations of group 0x0C. -/
namespace Sys2Proof.Machine

open Sys2Proof

/-- Changes the calibration state. -/
def State.setCal (s : State) (f : Cal → Cal) : State := { s with cal := f s.cal }

/-! ## Plausibility (R476) -/

/-- A measured value against its limits: the row of the table "Plausibility limits", the range, the largest change, the value, the previous one, and the channel (0xFFFF none). -/
structure Measure where
  row     : Nat
  lo      : Int
  hi      : Int
  change  : Int
  value   : Int
  before  : Int
  channel : Nat := 0xFFFF
  deriving DecidableEq, Repr

/-- The reason code of a row. -/
def rowReason (row : Nat) : Nat := match row with | 0 => 1 | 1 | 2 => 2 | 3 | 4 => 3 | 5 => 4 | 6 => 5 | 7 | 8 => 6 | _ => 7

/-- Whether a value passes: its range, and its change where the previous value came from a calibration or an applied image. -/
def Measure.passes (m : Measure) (hasPrevious : Bool) : Bool :=
  decide (m.lo ≤ m.value) && decide (m.value ≤ m.hi) && (!hasPrevious || decide (((m.value - m.before).natAbs : Int) ≤ m.change))

/-- A rejection: counted, and raised as CAL_REJECT. -/
def State.reject (s : State) (pan : Nat) (m : Measure) : State :=
  let s := s.setCal (fun c => { c with rejections := sat 32 (c.rejections + 1), lastReason := rowReason m.row, lastPan := pan })
  s.arise 5 1 (pan + 256 * rowReason m.row + 65536 * m.row) (m.value % 4294967296).toNat m.channel s.now16

/-- Whether a pan's values came from a calibration or an applied image. -/
def State.panMeasured (s : State) (p : Nat) : Bool := s.calU8 (testRec p + 24) != 0

/-- Whether a converter's values did. -/
def State.convMeasured (s : State) (c : Nat) : Bool := s.calU32 (convRec c + 52) != 0

/-- The measures of a converter's results. -/
def State.convMeasures (s : State) (c : Nat) (weights : List Int) (offset : Int) : List Measure :=
  (List.range 24).map (fun i => { row := 1, lo := -2048, hi := 2048, change := 256, value := weights.getD i 0, before := s.calI16 (convRec c + 2 * i) })
    ++ [{ row := 2, lo := -1600, hi := 1600, change := 160, value := offset, before := s.calI16 (convRec c + 48) }]

/-- The step of an analogue trim that a measurement beyond ±24,576 asks for: the offset trim for o_out and o_in, the gain trim for a δg, in the direction of the correction; none where every correction is in range (R463). (log 93: DEDUCED) -/
def trimStep (v : List Int) (t : Int × Int) : Option (Int × Int) :=
  let beyond := fun (x : Int) => decide (24576 < x.natAbs)
  match (v.take 2).find? beyond, (v.drop 2).find? beyond with
  | some x, _ => some (t.1 + (if 0 < x then 1 else -1), t.2)
  | none, some x => some (t.1, t.2 + (if 0 < x then 1 else -1))
  | none, none => none

/-- The measurements of a path with the steps of its analogue trims between them, at most `fuel` of them: the values that stand at the end, and the trims (R463). -/
def trimPath : (fuel : Nat) → List (List Int) → Int × Int → List Int × (Int × Int)
  | _, [], t => ([], t)
  | 0, v :: _, t => (v, t)
  | n + 1, v :: r, t =>
    match trimStep v t, r with
    | none, _ => (v, t)
    | some u, r => if 127 < u.1.natAbs ∨ 127 < u.2.natAbs then (v, u) else if r.isEmpty then (v, t) else trimPath n r u

/-- What a pan's measurements come to on one path: its corrections and analogue trims. -/
def State.trimmed (s : State) (p i : Nat) (r : PanResults) : List Int × (Int × Int) :=
  trimPath 4 (r.frontEnds.getD i []) (s.calI8 (pathRec p i + 22), s.calI8 (pathRec p i + 23))

/-- The measures of one path: a channel, or the test path (channel 0xFFFF). A trim that would pass ±127 comes first, for it is why the corrections stay beyond their range (R463). (log 93: DEDUCED) -/
def State.pathMeasures (s : State) (a ch : Nat) (v : List Int) (trims : Int × Int) : List Measure :=
  [{ row := 9, lo := -127, hi := 127, change := 65536, value := trims.1, before := 0, channel := ch }, { row := 9, lo := -127, hi := 127, change := 65536, value := trims.2, before := 0, channel := ch }]
    ++ (List.range 2).map (fun i => { row := 3, lo := -24576, hi := 24576, change := 1600, value := v.getD i 0, before := s.calI16 (a + 2 * i), channel := ch })
    ++ (List.range 8).map (fun g => { row := 4, lo := -24576, hi := 24576, change := 2097, value := v.getD (2 + g) 0, before := s.calI16 (a + 4 + 2 * g), channel := ch })

/-- The measures of the time and comparator values of one channel. -/
def State.timeMeasures (s : State) (ch : Nat) (tcal trim bin off : Int) : List Measure :=
  let a := chanRec ch
  [{ row := 5, lo := 0, hi := 191, change := 8, value := tcal, before := s.calU8 (a + 20), channel := ch },
   { row := 6, lo := -128, hi := 127, change := 32, value := trim, before := s.calI8 (a + 21), channel := ch },
   { row := 7, lo := 14000, hi := 17500, change := 200, value := bin, before := s.calU16 (a + 24), channel := ch },
   { row := 8, lo := 500, hi := 3500, change := 50, value := off, before := s.calI16 (a + 26), channel := ch }]

/-- The first measure of a pan's foreground results that fails (R476). -/
def State.panFails (s : State) (p : Nat) (r : PanResults) : Option Measure :=
  let conv := (s.convMeasures p r.weights r.offset).find? (fun m => !m.passes (s.convMeasured p))
  let prev := s.panMeasured p
  let paths := (List.range 9).flatMap (fun i => s.pathMeasures (pathRec p i) (if i = 8 then 0xFFFF else 8 * p + i) (s.trimmed p i r).1 (s.trimmed p i r).2)
  let times := (List.range 8).flatMap (fun i => s.timeMeasures (8 * p + i) (r.tcal.getD i 0) (r.trims.getD i 0) (r.tdcBin.getD i 0) (r.tdcOffset.getD i 0))
  match conv with
  | some m => some m
  | none => (paths ++ times).find? (fun m => !m.passes prev)

/-- Writes a converter's results (table "Converter record"). -/
def State.writeConverter (s : State) (c : Nat) (weights : List Int) (offset : Int) : State :=
  s.calWrite (convRec c) (((List.range 24).map (fun i => leInt 2 (weights.getD i 0))).flatten ++ leInt 2 offset ++ zeros 2 ++ le 4 (sat 32 (s.calU32 (convRec c + 52) + 1)) ++ le 8 s.now)

/-- Writes one path's front-end values. -/
def State.writePath (s : State) (a : Nat) (v : List Int) (trims : Int × Int) : State :=
  (s.calWrite a (((List.range 10).map (fun i => leInt 2 (v.getD i 0))).flatten)).calWrite (a + 22) (leInt 1 trims.1 ++ leInt 1 trims.2)

/-- A pan's plausible results come into force (R472). -/
def State.writePan (s : State) (p : Nat) (r : PanResults) : State :=
  let s := s.writeConverter p r.weights r.offset
  let s := (List.range 9).foldl (fun (s : State) i => s.writePath (pathRec p i) (s.trimmed p i r).1 (s.trimmed p i r).2) s
  let s := (List.range 8).foldl (fun (s : State) i =>
    let a := chanRec (8 * p + i)
    (s.calWrite (a + 20) (leInt 1 (r.tcal.getD i 0) ++ leInt 1 (r.trims.getD i 0))).calWrite (a + 24) (leInt 2 (r.tdcBin.getD i 0) ++ leInt 2 (r.tdcOffset.getD i 0))) s
  let s := (s.calWrite (testRec p + 24) [1]).calWrite (testRec p + 28) (leInt 2 r.dacOffset ++ leInt 2 r.dacGain)
  s.calWrite 72 (((List.range 7).map (fun i => leInt 2 (r.ratios.getD i 0))).flatten)

/-- The result of a completed CAL_RUN. -/
def calResult (done rejected skipped start stop : Nat) : Bytes := le 4 done ++ le 4 rejected ++ le 4 skipped ++ zeros 4 ++ le 8 start ++ le 8 stop

/-! ## Background rotation (R464 to R469) -/

/-- Changes the running rotation. -/
def State.setRotation (s : State) (f : Rotation → Rotation) : State := s.setCal (fun c => { c with rotation := c.rotation.map f })

/-- The measured taps of the strike-path pass: `n` free values, for the detector's measurements lie outside the model. (log 92: DESIGN CHOICE) -/
def measureTaps : List Nat → State → List (Nat × Nat) × State
  | [], s => ([], s)
  | ch :: r, s =>
    let (v, s) := s.free
    let (l, s) := measureTaps r s
    ((ch, v.toNat % 256) :: l, s)

/-- Judges one pan's measured taps as a whole (R476), and keeps those that pass. (log 93: DEDUCED) -/
def State.judgeTaps (s : State) (p : Nat) (l : List (Nat × Nat)) : State × List (Nat × Nat) :=
  let ms : List Measure := l.map (fun (e : Nat × Nat) => { row := 5, lo := 0, hi := 191, change := 8, value := e.2, before := s.tCal e.1, channel := e.1 })
  match ms.find? (fun m => !m.passes (s.panMeasured p)) with
  | some m => ((s.reject p m).setRotation (fun r => { r with rejected := r.rejected ||| 2 ^ p }), [])
  | none => (s, l)

/-- A rotation starts: the strike paths of the powered pans are measured, and the converter pass has its pans and the roving converter before it. -/
def State.startRotation (s : State) (ref : Option Nat) (mask : Nat) : State :=
  let s := s.setCal (fun c => { c with firstDone := true, rotation := some { ref, mask, temps := s.front.temps, targets := [], strikeDone := false, left := bitsOf 32 mask ++ [32], asked := none, done := 0, rejected := 0, skipped := 0, start := s.now, every := (List.range 32).all (fun p => mask.testBit p || (s.pan p).power != .on || s.dieLost (dieOf p)) } })
  let pans := (bitsOf 32 mask).filter (fun p => (s.pan p).power == .on && !s.dieLost (dieOf p))
  pans.foldl (fun (s : State) p =>
    let (l, s) := measureTaps ((List.range 8).map (8 * p + ·)) s
    let (s, l) := s.judgeTaps p l
    s.setRotation (fun r => { r with targets := r.targets ++ l })) s

/-- Whether the trigger of ON_TEMPERATURE stands (R464). -/
def State.rotationDue (s : State) : Bool :=
  s.cal.mode == 1 && ((!s.cal.firstDone && s.sys.hub == .ready) || decide (s.cal.threshold < s.deltaT))

/-- The states in which a rotation may start. -/
def rotationStates : List HubState := [.ready, .calibrate, .run, .reconfigure, .holdover, .shadow]

/-- The temperature sensors move, or the hub enters READY (R464, R465): a rotation starts, or waits for the one that runs or for the end of DORMANT. -/
def State.rotationTrigger (s : State) (temps : List Int) : State :=
  let s := { s with front := { s.front with temps := (List.range 10).map (fun i => temps.getD i (s.front.temps.getD i 0)) } }
  if !s.rotationDue then s
  else if s.cal.rotation.isSome ∨ s.sys.hub = .dormant then s.setCal (fun c => { c with waiting := some (c.waiting.getD (none, 0xFFFFFFFF)) })
  else if rotationStates.contains s.sys.hub then s.startRotation none 0xFFFFFFFF
  else s

/-- The waiting rotation starts once none runs: one that a trigger asked for is judged again (R465). -/
def State.startWaiting (s : State) : State :=
  match s.cal.waiting with
  | none => s
  | some (ref, mask) =>
    if s.cal.rotation.isSome ∨ !rotationStates.contains s.sys.hub then s
    else
      let s := s.setCal (fun c => { c with waiting := none })
      if ref.isSome ∨ s.rotationDue then s.startRotation ref mask else s

/-- The strike-path pass at a grid epoch (R466): each tap moves by one towards its measured value; when all are there, and the pass covers every powered pan, the temperatures are written. -/
def State.strikeStep (s : State) : State :=
  match s.cal.rotation with
  | none => s
  | some r =>
    if r.strikeDone then s
    else
      let s := r.targets.foldl (fun (s : State) e =>
        let v := s.tCal e.1
        if v = e.2 then s else s.calWrite (chanRec e.1 + 20) [BitVec.ofNat 8 (if v < e.2 then v + 1 else v - 1)]) s
      let left := r.targets.filter (fun e => s.tCal e.1 != e.2)
      if left.isEmpty then (if r.every then s.calWrite 32 ((r.temps.map (leInt 2)).flatten) else s).setRotation (fun r => { r with targets := [], strikeDone := true })
      else s.setRotation (fun r => { r with targets := left })

/-- Passes over the next pan of the converter pass, counted (R467). -/
def State.skipLoan (s : State) (p : Nat) : State :=
  (s.setCal (fun c => { c with skips := sat 32 (c.skips + 1) })).setRotation (fun r => { r with left := r.left.drop 1, asked := none, skipped := r.skipped ||| 2 ^ p })

/-- Whether a substitution of the roving converter waits to be served: it comes before any loan (R468). -/
def State.rovingWanted (s : State) : Bool := s.front.nextSub.isSome || s.front.pans.any (fun e => e.2.awaitsRoving)

/-- The converter pass goes on (R467, R468): it asks for the next loan when the roving converter is idle, and ends the rotation when nothing is left. (log 93: DEDUCED) -/
def State.loanLoop : (fuel : Nat) → State → State
  | 0, s => s
  | fuel + 1, s =>
    match s.cal.rotation with
    | none => s
    | some r =>
      match r.asked, r.left with
      | some p, _ =>
        let waits := (s.pan p).urgent.any Urgent.isLoan
        if p = 32 ∨ s.loanPan = some p ∨ waits then s else State.loanLoop fuel (s.skipLoan p)
      | none, [] =>
        if !r.strikeDone ∨ s.front.roving matches .loan _ then s
        else
          let s := (s.calWrite 56 (le 4 (sat 32 (s.calU32 56 + 1)))).setCal (fun c => { c with rotation := none, lastEnd := s.now })
          match r.ref with
          | some ref => s.finish ref stOk 0 (calResult r.done r.rejected r.skipped r.start s.now)
          | none => s
      | none, p :: _ =>
        if s.front.roving ≠ .idle ∨ s.front.rovingFailed ∨ s.rovingWanted then s
        else if p = 32 then s.setRotation (fun r => { r with asked := some 32 })
        else
          let x := s.pan p
          if x.power ≠ .on ∨ x.failed ∨ s.dieLost (dieOf p) ∨ s.slots p ≤ x.seq.length then State.loanLoop fuel (s.skipLoan p)
          else if s.interrupted p ∨ !s.strikes then s
          else (s.handover p (.connect true none)).setRotation (fun r => { r with asked := some p })

/-- The converter pass goes on. -/
def State.loanNext (s : State) : State := s.loanLoop 34

/-- A loan ends with the converter's new values (R467): they are judged, come into force, and the roving converter is handed back. Three rejections in a row fail the converter (R469). (log 92: DESIGN CHOICE; 93: DEDUCED) -/
def State.loanEnd (s : State) (weights : List Int) (offset : Int) : State :=
  match s.cal.rotation with
  | none => s
  | some r =>
    match r.asked with
    | none => s
    | some c =>
      if (if c = 32 then s.front.roving ≠ .idle else s.loanPan ≠ some c) then s
      else
        let s := s.setRotation (fun r => { r with left := r.left.drop 1, asked := none })
        let s := if c = 32 then s else s.askRelease c
        match (s.convMeasures c weights offset).find? (fun m => !m.passes (s.convMeasured c)) with
        | some m =>
          let s := (s.reject c m).setRotation (fun r => { r with rejected := if c = 32 then r.rejected else r.rejected ||| 2 ^ c })
          let n := Tbl.get 0 s.cal.streaks c + 1
          let s := s.setCal (fun k => { k with streaks := Tbl.set k.streaks c n })
          if n = 3 then
            let s := s.setCal (fun k => { k with streaks := Tbl.erase k.streaks c })
            if c = 32 then ({ s with front := { s.front with rovingFailed := true, roving := .unavailable } }).logFault 0x0012 32 1 0 else s.converterFailed c 1
          else s
        | none => ((s.writeConverter c weights offset).setCal (fun k => { k with streaks := Tbl.erase k.streaks c })).setRotation (fun r => { r with done := if c = 32 then r.done else r.done ||| 2 ^ c })

/-- A rotation is stopped (`CMD_ABORT`): a loan is handed back. -/
def State.stopRotation (s : State) : State :=
  let s := match s.loanPan with | some p => s.askRelease p | none => s
  let s := match s.cal.rotation with
    | some r => (match r.asked with | some p => s.setPan p (fun x => { x with urgent := x.urgent.filter (fun u => !u.isLoan) }) | none => s)
    | none => s
  s.setCal (fun c => { c with rotation := none })

/-- An idle TDC cell has measured its bin (R464). -/
def State.tdcMeasured (s : State) (ch fs : Nat) : State :=
  let c := s.chan ch
  let p := panOf ch
  if 256 ≤ ch ∨ (s.pan p).power ≠ .on ∨ s.now < c.tdcBusy ∨ !c.tdcPending.isEmpty ∨ s.dieLost (dieOf p) then s
  else
    let m : Measure := { row := 7, lo := 14000, hi := 17500, change := 200, value := fs, before := s.calU16 (chanRec ch + 24), channel := ch }
    if m.passes (s.panMeasured p) then s.calWrite (chanRec ch + 24) (le 2 fs) else s.reject p m

/-! ## Foreground calibration (R470 to R474) -/

/-- Changes the foreground pass. -/
def State.setFore (s : State) (f : ForePass → ForePass) : State := s.setCal (fun c => { c with fore := c.fore.map f })

/-- The pass ends: its tokens return and its command completes. -/
def State.closePass (s : State) (f : ForePass) : State :=
  (((s.setCal (fun c => { c with fore := none })).withdraw f.ref).returnTokens (fun r => r.op == 2)).finish f.ref stOk 0 (calResult f.done f.rejected f.skipped f.start s.now)

/-- The hub leaves CALIBRATE (R73, R75). -/
def State.leaveCalibrate (s : State) : State :=
  let lost := s.sys.timeLostInCal
  let s := { s with sys := { s.sys with timeLostInCal := false } }
  if s.sys.hub ≠ .calibrate then s
  else if !lost then s.go s.sys.calFrom 0x0041
  else if s.sys.calFrom = .run then s.go .holdover 0x0042
  else s.waitAgain.go .timelock 0x0043

/-- The last interruption has ended (R474): the header of the image counts the pass, L is chosen where it covered every powered pan (R473), and the hub goes back. (log 94: DEDUCED) -/
def State.endPass (s : State) : State :=
  match s.cal.fore with
  | none => s
  | some f =>
    if !f.entered ∨ !f.left.isEmpty ∨ !f.running.isEmpty then s
    else
      let s := (s.calWrite 52 (le 4 (sat 32 (s.calU32 52 + 1)))).calWrite 68 (le 4 s.cal.declared)
      let every := (List.range 32).all (fun p => (s.pan p).power != .on || f.done.testBit p)
      let s := if every ∧ f.done ≠ 0 then s.calWrite 64 (le 2 f.lead) else s
      (s.leaveCalibrate).closePass f

/-- Whether a named pan can be interrupted: it is powered, and its die is there. -/
def State.canCalibrate (s : State) (p : Nat) : Bool := (s.pan p).power == .on && !s.dieLost (dieOf p)

/-- A pan's interruption starts (R470, R471): a loan is handed back first, strikes cease, the comparators go out of alarm. A pan that is powered off or lost by then is left out. (log 94: DEDUCED) -/
def State.beginPan (s : State) (p : Nat) : State :=
  let s := s.setFore (fun f => { f with left := f.left.filter (· != p) })
  if !s.canCalibrate p then (s.setFore (fun f => { f with skipped := f.skipped ||| 2 ^ p, freeAt := s.now })).endPass
  else
    let s := if s.loanPan = some p then (s.freeRoving.closePan p).setRotation (fun r => { r with asked := none }) else s
    let d := s.grid.period * 2 ^ (s.pan p).log2D
    let n := (3200000 + d - 1) / d
    let s := s.setFore (fun f => { f with running := f.running ++ [p] })
    let s := s.setPan p (fun x => { x with calUntil := some (s.now + n * d), calStart := s.now, frame := if x.frame.any (fun f => f.time == s.now) then none else x.frame, armed := x.armed.filter (fun m => decide (s.now + n * d ≤ m.time)), strobes := x.strobes.filter (fun m => decide (s.now + n * d ≤ m.time)), urgent := x.urgent.filter (fun u => match u with | .release => false | _ => true) })
    (List.range 8).foldl (fun (s : State) i => s.setChan (8 * p + i) (fun c => { c with alarm := .none })) s

/-- The reference check fails (R459): the pass ends and nothing changes. (log 94: DEDUCED) -/
def State.refuseReference (s : State) (f : ForePass) (vcal : Int) : State :=
  let pan := (bitsOf 32 f.mask).headD 0
  let s := s.reject pan { row := 0, lo := 0, hi := 0, change := 0, value := vcal, before := 0 }
  s.closePass { f with rejected := f.mask, start := s.now }

/-- The first grid epoch at or after time_ns and the grant at which the hub stands in READY or RUN (R470). -/
def State.passEpoch (s : State) (f : ForePass) (granted : Nat) : Nat :=
  let t := max f.epoch (max granted s.sys.changedAt)
  (s.gridAt t).nextFrom t

/-- FOREGROUND_PAN_START (R459, R470): the first one checks the reference and takes the hub to CALIBRATE at the pass's grid epoch; in parallel order every named pan starts there, in sequential order the next one at its first strobe once the previous interruption has ended. (log 94: DEDUCED) -/
def State.forePanStart (s : State) (p : Nat) (vcal senseErr : Int) : State :=
  match s.cal.fore with
  | none => s
  | some f =>
    if f.entered then
      let d := s.grid.period * 2 ^ (s.pan p).log2D
      if !f.running.isEmpty ∨ f.left.head? ≠ some p ∨ (s.now - s.grid.2) % d ≠ 0 ∨ s.now < f.freeAt ∨ f.freeAt + d ≤ s.now then s else s.beginPan p
    else if !f.granted.any (fun g => s.passEpoch f g == s.now) ∨ !s.grid.isEpoch s.now ∨ !(s.sys.hub = .ready ∨ s.sys.hub = .run) then s
    else
      let s := s.setCal (fun c => { c with measured := (vcal % 4294967296).toNat })
      if s.cal.declared < 200 * (vcal - s.cal.declared).natAbs ∨ 2000 < senseErr.natAbs then s.refuseReference f vcal
      else
        let from' := s.sys.hub
        let s : State := { s with sys := { s.sys with calFrom := from', timeLostInCal := false } }
        let s := (s.go .calibrate 0x0040).setFore (fun f => { f with entered := true, start := s.now, freeAt := s.now, left := bitsOf 32 f.mask })
        if f.parallel then (bitsOf 32 f.mask).foldl (fun (s : State) q => s.beginPan q) s else s.beginPan ((bitsOf 32 f.mask).headD 0)

/-- The samples that a pan's interruption has cost up to an instant become holes of reason CALIBRATION, once (R471). -/
def State.calHoles (s : State) (p stop : Nat) : State :=
  let x := s.pan p
  let d := s.grid.period * 2 ^ x.log2D
  let a := max x.calStart s.grid.2
  let k := (a - s.grid.2 + d - 1) / d
  let n := (stop - (s.grid.2 + k * d) + d - 1) / d
  let s := s.setPan p (fun x => { x with calStart := max x.calStart stop })
  if stop ≤ s.grid.2 + k * d ∨ n = 0 then s
  else (seqChannels x.seq).foldl (fun (s : State) c => s.pushSample p { ch := 8 * p + c, index := k, time := s.grid.2 + k * d, code := 0, gap := 4, count := n, flags := 0 }) s

/-- Whether the interval of a pan's interruption has passed; the values come into force, and the pan strikes again, with FOREGROUND_PAN_END (R472). -/
def State.intervalOver (s : State) (p : Nat) : Bool := (s.pan p).calUntil.all (fun u => decide (u ≤ s.now))

/-- The interruptions that are over by the present time are accounted for before the pan's next sample (R471). -/
def State.endInterruptions (s : State) : State :=
  match s.cal.fore with
  | none => s
  | some f => (f.running.filter s.intervalOver).foldl (fun (s : State) p => s.calHoles p s.now) s

/-- FOREGROUND_PAN_END (R472): the missing samples are accounted for, plausible results come into force, the first strike settles for 2.0 µs, and the comparators are judged again. (log 92: DESIGN CHOICE) -/
def State.forePanEnd (s : State) (p : Nat) (r : PanResults) : State :=
  match s.cal.fore with
  | none => s
  | some f =>
    if !f.running.contains p ∨ !s.intervalOver p then s
    else
      let s := s.calHoles p s.now
      let s := s.setPan p (fun x => { x with calUntil := none })
      let s := s.setFore (fun f => { f with running := f.running.filter (· != p), freeAt := s.now })
      let s := match s.panFails p r with
        | some m => (s.reject p m).setFore (fun f => { f with rejected := f.rejected ||| 2 ^ p })
        | none => (s.writePan p r).setFore (fun f => { f with done := f.done ||| 2 ^ p, lead := max f.lead r.lead })
      let s := (List.range 8).foldl (fun (s : State) i => let ch := 8 * p + i; (s.setChan ch (fun c => { c with settleNext := max c.settleNext 2000 })).judgeChan ch ((s.chan ch).fresh (s.compTrim ch))) s
      s.endPass

/-! ## The images (R477 to R481) -/

/-- Copies the live image, its crc with it, into the staging image (R478). -/
def State.stage (s : State) : State :=
  s.setCal (fun c => { c with staging := Mem.writeN nominalByte c.live 0 ((List.range 4).map s.liveByte), stagedChanged := false })

/-- Writes bytes of the staging image (R478). -/
def State.stageWrite (s : State) (a : Nat) (b : Bytes) : State := s.setCal (fun c => { c with staging := Mem.writeN nominalByte c.staging a b, stagedChanged := true })

/-- The u16 and u32 of the staging image. -/
def State.stU16 (s : State) (a : Nat) : Nat := (s.stagingByte a).toNat + 256 * (s.stagingByte (a + 1)).toNat

/-- The i16 of the staging image. -/
def State.stI16 (s : State) (a : Nat) : Int := signed 16 (s.stU16 a)

/-- The i8 of the staging image. -/
def State.stI8 (s : State) (a : Nat) : Int := signed 8 (s.stagingByte a).toNat

/-- Whether every value of the staging image lies in its range (R481, table "Plausibility limits"). -/
def State.stagingInRange (s : State) : Bool :=
  let le' := fun (v : Int) (m : Nat) => decide (v.natAbs ≤ m)
  let path := fun (a : Nat) => (List.range 10).all (fun i => le' (s.stI16 (a + 2 * i)) 24576) && le' (s.stI8 (a + 22)) 127 && le' (s.stI8 (a + 23)) 127
  (List.range 33).all (fun c => (List.range 24).all (fun i => le' (s.stI16 (convRec c + 2 * i)) 2048) && le' (s.stI16 (convRec c + 48)) 1600)
    && (List.range 32).all (fun p => path (testRec p))
    && (List.range 256).all (fun ch => let a := chanRec ch
        path a && decide ((s.stagingByte (a + 20)).toNat ≤ 191) && decide (14000 ≤ s.stU16 (a + 24)) && decide (s.stU16 (a + 24) ≤ 17500) && decide (500 ≤ s.stI16 (a + 26)) && decide (s.stI16 (a + 26) ≤ 3500))

/-- The first check of R481 that the staging image fails; 0 for none. -/
def State.applyCheck (s : State) (anyHub : Bool) : Nat :=
  let b := fun (a n : Nat) => Mem.readN nominalByte s.cal.staging a n
  if u32 (b 0 4) 0 ≠ crc32c (imageBody s.cal.staging) then 1
  else if u32 (b 4 4) 0 ≠ 0x4C41435A ∨ s.stU16 8 ≠ 1 ∨ u32 (b 12 4) 0 ≠ 12288 then 2
  else if s.stU16 10 ≠ 0x0A01 then 3
  else if !anyHub ∧ u64 (b 16 8) 0 ≠ s.sys.hubId.toNat then 4
  else if !s.stagingInRange then 5
  else 0

/-- The effect of `CAL_APPLY` (R481). -/
def effCalApply (_ : Nat) (_ : Bytes) (s : State) : State × Option (Nat × Nat × Bytes) :=
  let changed := (List.range 256).filter (fun ch => s.calU16 (chanRec ch + 22) != s.stU16 (chanRec ch + 22))
  let s := s.setCal (fun c => { c with live := (List.range 4).foldl (fun m a => Mem.write nominalByte m a (nominalByte a)) c.staging, stagedChanged := false, applyResult := 0 })
  let s := (List.range 32).foldl (fun (s : State) p => s.calWrite (testRec p + 24) [2]) s
  let s := changed.foldl (fun (s : State) ch => s.setChan ch (fun c => { c with settleTo := max c.settleTo (s.now + 2000) })) s
  (s.front.chans.foldl (fun (s : State) e => s.judgeChan e.1 ((s.chan e.1).judge (s.compTrim e.1))) s, some (0, 0, []))

/-! ## The window (R479) -/

/-- A write of `CAL_WINDOW`. -/
def State.calWindow (s : State) (v : Nat) : State := s.setCal (fun c => { c with page := if v % 4 = 3 then c.page else v % 4, view := v.testBit 2 })

/-- The register `CAL_WINDOW`. -/
def Cal.window (c : Cal) : Nat := c.page + (if c.view then 4 else 0)

/-- The register `CAL_STATUS`. -/
def State.calStatus (s : State) : Nat :=
  s.cal.mode + (if s.cal.rotation.isSome then 4 else 0) + (if s.cal.fore.any (·.entered) then 8 else 0) + (if s.cal.stagedChanged then 16 else 0)
    + 256 * s.cal.applyResult + 65536 * (s.loanPan.getD 63)

/-- A write of four bytes of the window, to the staging image. -/
def State.calImageWindow (s : State) (addr v : Nat) : State :=
  if 0x2000 ≤ addr ∧ addr < 0x2FF0 then s.stageWrite (4096 * s.cal.page + (addr - 0x2000)) (le 4 v) else s

/-- A byte that the window shows. -/
def State.calWindowByte (s : State) (addr : Nat) : Byte :=
  let a := 4096 * s.cal.page + (addr - 0x2000)
  if s.cal.view then s.stagingByte a else s.liveByte a

/-! ## Operations -/

/-- The states of `CAL_SET_MODE`. -/
def calStates : List HubState := [.ready, .calibrate, .run, .reconfigure, .holdover]

/-- The meaning of `CAL_RUN` (R464, R465, R470). -/
def runCal (h : Held) (s : State) : Answer :=
  let b := h.cmd.params
  let mask := u32 b 4
  if u8 b 0 = 1 then
    if s.cal.rotation.isSome then .accepted [] (s.setCal (fun c => { c with waiting := some (some h.serial, mask) }))
    else .accepted [] (s.startRotation (some h.serial) mask)
  else
    let f : ForePass := { ref := h.serial, parallel := u8 b 1 == 1, mask, epoch := u64 b 8, left := bitsOf 32 mask }
    .accepted [] ((s.setCal (fun c => { c with fore := some f })).ask 2 0 { vdd := 2, av := 2 * (if u8 b 1 = 1 then (bitsOf 32 mask).length else 1) } false (some h.serial) none)

/-- `CMD_ABORT` of `CAL_RUN` (R474). (log 94: DEDUCED) -/
def abortCal (h : Held) (s : State) : Option State :=
  if u8 h.cmd.params 0 = 1 then
    (match s.cal.waiting with
     | some (some r, _) => if r = h.serial then some (s.setCal (fun c => { c with waiting := none })) else some s.stopRotation
     | _ => some s.stopRotation)
  else match s.cal.fore with
    | none => none
    | some f =>
      if f.ref ≠ h.serial then none
      else if !f.entered then some (((s.setCal (fun c => { c with fore := none })).withdraw h.serial).returnTokens (fun r => r.op == 2))
      else if f.parallel then none
      else some (s.setFore (fun f => { f with left := [], skipped := f.left.foldl (fun m p => m ||| 2 ^ p) f.skipped }))

/-- `CAL_RUN` (0x0C12). (log 115: DEDUCED) -/
def opCalRun : Op :=
  { need := fun _ => 16, states := calStates,
    params := fun h s => let b := h.cmd.params
      [(0, decide (u8 b 0 ≤ 1)), (1, decide (u8 b 1 ≤ 1) && (u8 b 0 == 0 || u8 b 1 == 0)), (2, zeroAt b 2 2), (3, u32 b 4 != 0), (4, if u8 b 0 = 1 then u64 b 8 == 0 else timeRule h s (u64 b 8))],
    allow := fun h s => if u8 h.cmd.params 0 = 0 then (s.sys.hub == .ready || (s.sys.hub == .run && s.twin.mode == 0)) else s.cal.mode != 0,
    budget := fun h s =>
      let b := h.cmd.params
      match s.panDown (maskPans (u32 b 4)) false with
      | some e => some e
      | none => if (if u8 b 0 = 0 then s.cal.fore.isSome else s.cal.waiting.any (fun w => w.1.isSome)) then some (stNoResource, 1) else none,
    abort := abortCal, run := runCal }

/-- `CAL_APPLY` (0x0C15). A failed check leaves its number in apply_result. -/
def opCalApply : Op :=
  { need := fun _ => 12, states := [.ready, .run, .reconfigure, .holdover],
    params := fun h s => let b := h.cmd.params; [(0, decide (u8 b 0 ≤ 1)), (1, zeroAt b 1 3), (2, timeRule h s (u64 b 4))],
    abort := abortChange, epoch := fun h s => some (s.effectTime (u64 h.cmd.params 4)), effect := effCalApply,
    run := fun h s =>
      match s.applyCheck (u8 h.cmd.params 0 == 1) with
      | 0 => configRun effCalApply (s.changeEpoch (u64 h.cmd.params 4)) h s
      | n => .stopped stBadParam 0 [] (s.setCal (fun c => { c with applyResult := n })) }

/-- The operations of group 0x0C. -/
def calOps (n : Nat) : Option Op :=
  match n with
  | 0x01 => some (queryOp 0 (fun _ => []) (fun _ s => le 4 s.calStatus ++ le 2 s.cal.threshold ++ le 2 s.deltaT ++ le 4 s.cal.declared ++ le 4 s.cal.measured ++ le 4 s.cal.rejections ++ le 4 s.cal.skips ++ le 1 s.cal.lastReason ++ le 1 s.cal.lastPan ++ zeros 6 ++ le 8 s.cal.lastEnd))
  | 0x02 => some (queryOp 8 (fun b => [(0, decide (u8 b 0 ≤ 1)), (1, zeroAt b 1 1), (2, decide (1 ≤ u16 b 2 ∧ u16 b 2 ≤ 1016)), (3, decide (u32 b 4 + u16 b 2 ≤ 12288))])
      (fun b s => (List.range (u16 b 2)).map (fun i => if u8 b 0 = 0 then s.liveByte (u32 b 4 + i) else s.stagingByte (u32 b 4 + i))))
  | 0x10 => some
    { need := fun _ => 4, states := calStates, bcast := fun _ => true,
      params := fun h _ => let b := h.cmd.params; [(0, decide (u8 b 0 ≤ 2)), (1, zeroAt b 1 1), (2, decide (50 ≤ u16 b 2 ∧ u16 b 2 ≤ 2000))],
      run := fun h s => .done 0 [] (s.setCal (fun c => { c with mode := u8 h.cmd.params 0, threshold := u16 h.cmd.params 2 })) }
  | 0x11 => some
    { need := fun _ => 8, states := calStates, bcast := fun _ => true,
      params := fun h _ => let b := h.cmd.params; [(0, decide (4000000 ≤ u32 b 0 ∧ u32 b 0 ≤ 4200000)), (1, zeroAt b 4 4)],
      run := fun h s => .done 0 [] (s.setCal (fun c => { c with declared := u32 h.cmd.params 0 })) }
  | 0x12 => some opCalRun
  | 0x13 => some
    { need := fun b => 8 + u16 b 4, states := calStates,
      params := fun h _ => let b := h.cmd.params; [(0, decide (u32 b 0 + u16 b 4 ≤ 12288)), (1, decide (1 ≤ u16 b 4 ∧ u16 b 4 ≤ 1016)), (2, zeroAt b 6 2)],
      run := fun h s => .done 0 [] (s.stageWrite (u32 h.cmd.params 0) (h.cmd.params.drop 8)) }
  | 0x14 => some { need := fun _ => 0, states := calStates, run := fun _ s => .done 0 [] s.stage }
  | 0x15 => some opCalApply
  | _ => none

end Sys2Proof.Machine
end

