-- ==== Sys2Proof/Machine/Faults.lean ====
section
/-! DEFINITION. Faults (chapter 18): memory protection and scrubbing, loss of an AFE die, dead islands, the end of a stream with its exact gap, and the operations of group 0x0F. What a Fatal fault does to the commands stands in FaultHold. -/
namespace Sys2Proof.Machine

open Sys2Proof

/-- Changes the fault block. -/
def State.setFaults (s : State) (f : Faults → Faults) : State := { s with faults := f s.faults }

/-- Puts an item into a list that rises by a key. -/
def insertBy (key : α → Nat) (x : α) : List α → List α
  | [] => [x]
  | y :: r => if key x < key y then x :: y :: r else y :: insertBy key x r

/-- A list in rising order of a key. -/
def sortBy (key : α → Nat) : List α → List α
  | [] => []
  | x :: r => insertBy key x (sortBy key r)

/-! ## Ending a stream with an exact gap (R531, R538) -/

/-- The unit code of the gaps of a stream kind (table "GAP payload"). -/
def gapUnit (key : Nat) : Nat := match key / 65536 with | 4 => 1 | 2 | 5 | 6 => 2 | _ => 0

/-- Ends a stream: its open record closes, a GAP record covers every unit from the first not produced up to, but excluding, `cutoff` (ns), and END follows. A stream without a regular period takes, where `always`, a GAP of unit 3 and count 0. -/
def State.endWithGap (s : State) (key endReason gapReason cutoff : Nat) (always : Bool) : State :=
  let st := s.stream key
  if !st.isOpen then s
  else
    let s :=
      if key / 65536 ≤ 2 ∧ st.period ≠ 0 then
        let n := (cutoff - st.nextTime + st.period - 1) / st.period
        if n = 0 then s
        else s.miss key { count := n, index := st.nextIndex, first := st.nextTime, last := (st.nextTime + (n - 1) * st.period) * 65536, reason := gapReason, unit := gapUnit key }
      else if !always then s
      else
        let s := s.closeRecord key
        let g : Gap := { count := 0, index := irregular, first := st.lastUnit / 65536, last := cutoff * 65536, reason := gapReason, unit := 3 }
        { s with streams := { s.streams with closed := s.streams.closed ++ [g.marker key st.period] } }
    s.endStream key endReason cutoff

/-! ## Memory protection (R528, R529, R586) -/

/-- What a word of cask memory holds: a slot of a group's pool, the workspace, a spill page, or nothing. -/
inductive WordUse where
  | pool (group slot : Nat) | work (byte : Nat) | spill | free
  deriving DecidableEq, Repr

/-- The pool slot that holds a word of the groups' words, which stand from word 0 up in the order of the groups. -/
def poolOf : List (Nat × Group) → (word : Nat) → WordUse
  | [], _ => .free
  | (g, x) :: r, w => if w < x.words then .pool g (w / max 1 (x.words / max 1 x.casksMax)) else poolOf r (w - x.words)

/-- What a word of cask memory holds: the groups from word 0 up, then the workspace; the spill pages from the top down. (log 52: DEDUCED) -/
def State.wordUse (s : State) (w : Nat) : WordUse :=
  let pools := (s.capture.groups.map (fun (e : Nat × Group) => e.2.words)).sum
  if w < pools then poolOf s.capture.groups w
  else if w < pools + 64 * s.kiln.workKiB then .work (16 * (w - pools))
  else if 2097152 - 256 * s.spillPages ≤ w then .spill
  else .free

/-- A word of cask memory as it stands in a pool slot (R202): the segments of a closed or committed cask, or of the ring of an armed one (R205), channel by channel, and otherwise the tag of an unwritten word. (log 52: DEDUCED) -/
def Group.memoryWord (x : Group) (slot offset : Nat) : BitVec 128 :=
  let open' := match x.state, x.current with
    | .post, some c => some { c with words := x.keptWords c (x.headEnd c) }
    | .armed, _ => some { serial := x.serial, trig := 0, source := 0, place := 0, nt := 0, pAct := 0, post := 0, flags := 0, period := 0, words := x.ring }
    | _, _ => none
  let cask := x.casks[slot]?.or (if slot = x.casks.length then open' else none)
  let word := cask.bind (fun c => segmentWord x.isFiltered (c.segment (x.channels.getD (offset / max 1 x.segmentWords) 320)) (offset % max 1 x.segmentWords))
  word.getD (3 <<< 126)

/-- The tag in bits [127:126] of a word of cask memory (R202): brine 0b00, filtered 0b01, a spill page 0b10, free or unwritten 0b11. A kiln workspace holds bytes of its own. (log 52: DEDUCED) -/
def State.wordTag (s : State) (w : Nat) : Option Nat :=
  match s.wordUse w with
  | .pool g j =>
    let first := ((s.capture.groups.takeWhile (fun e => e.1 != g)).map (fun e => e.2.words)).sum
    let x := s.group g
    some ((x.memoryWord j (w - first - j * (x.words / max 1 x.casksMax))).toNat / 2 ^ 126)
  | .work _ => none
  | .spill => some 2
  | .free => some 3

/-- Counts a corrected (0) or uncorrectable (1) word of a store. -/
def State.countWord (s : State) (store k : Nat) : State := s.setFaults (fun f => { f with mem := Tbl.bump 32 f.mem (2 * store + k) })

/-- A claim of readouts on the casks of a group, less the one at position j that is gone. -/
def dropClaim : List Readout → (j : Nat) → List Readout
  | [], _ => []
  | r :: rest, j => if j < r.left then { r with left := r.left - 1 } :: rest else r :: dropClaim rest (j - r.left)

/-- A group loses the cask in a pool slot whole (R528, as a discarded cask of R214): a closed one, the committed one, or the one that is armed, whose serial is passed over. -/
def State.loseCask (s : State) (g j word : Nat) : State :=
  let x := s.group g
  if j < x.casks.length then
    let n := (x.casks.getD j { serial := 0, trig := 0, source := 0, place := 0, nt := 0, pAct := 0, post := 0, flags := 0, period := 0 }).serial
    let s := s.logFault 0x0002 g word n
    ((s.setGroup g (fun x => { x with casks := x.casks.eraseIdx j, readouts := dropClaim x.readouts j })).afterFree g).endReadouts g false
  else if x.casks.length < j ∨ !x.active then s.logFault 0x0001 0 word 0
  else
    let next := match x.newest with | some n => n.1 + 1 | none => x.armedAt
    match x.current with
    | some c => ((s.logFault 0x0002 g word c.serial).setGroup g (fun x => { x with current := none, ranges := x.ranges.dropLast })).armGroup g next
    | none =>
      if x.state ≠ .armed then s.logFault 0x0001 0 word 0
      else ((s.logFault 0x0002 g word x.serial).setGroup g (fun x => { x with serial := x.serial + 1, ring := [] })).armGroup g next

/-- Whether a workspace byte lies in a region that a running job reads. -/
def State.jobReads (s : State) (byte : Nat) : Bool :=
  let j := s.kiln.job
  let p := j.params
  let into := fun (a n : Nat) => decide (a < byte + 16) && decide (byte < a + n)
  j.state == 1 && (into (u32 p 4) (u32 p 8) || ((u8 p 2).testBit 1 && into (u32 p 24) (refLength p s.kiln.job.limit)))

/-- A read of a protected word finds an error (R528): `scrub` says that a scrub pass read it. A single error is corrected; an uncorrectable word is handled by what it holds. (log 52: DEDUCED) -/
def State.eccError (s : State) (store word : Nat) (double scrub : Bool) : State :=
  let s := if store = 0 then s.setFaults (fun f => { f with injected := f.injected.filter (·.1 != word) }) else s
  let access := if scrub then 1 else 0
  if !double then (s.countWord store 0).logFault 0x0001 store word access
  else
    let s := s.countWord store 1
    if store ≠ 0 then s.logFault 0x0003 store word 0
    else match s.wordUse word with
      | .pool g j => s.loseCask g j word
      | .work b =>
        let reads := s.jobReads b
        let s := s.logFault 0x0002 0xFFFF word 0
        if reads then s.endJob 3 4 0 0 else s
      | .spill => s.logFault 0x0003 0 word 0
      | .free => s.logFault 0x0001 0 word access

/-- Words of the four protected stores (R586). -/
def storeWords (store : Nat) : Nat := match store with | 0 => 2097152 | 1 => 524288 | 2 => 131072 | 3 => 16384 | _ => 0

/-- ECC_READ_ERROR. The hub reads no protected word in `RESET`, and in `BOOT` its march test has a row of its own. -/
def State.eccReadError (s : State) (store word : Nat) (double : Bool) : State :=
  if storeWords store ≤ word ∨ s.sys.hub = .reset ∨ s.sys.hub = .boot then s else s.eccError store word double false

/-- The states in which a scrub pass that falls due waits (R529). -/
def State.scrubWaits (s : State) : Bool := match s.sys.hub with | .reset | .boot | .dormant | .faultHold => true | _ => false

/-- A scrub pass that is due asks the sluice (R529, heavy operation 6). (log 102: DEDUCED) -/
def State.scrubStart (s : State) : State :=
  if s.scrubWaits ∨ s.faults.scrubAsked ∨ s.faults.scrubFrom.isSome ∨ !s.faults.scrubDue.any (fun d => decide (d ≤ s.now)) then s
  else (s.ask 6 0 { vdd := 4 } false none none).setFaults (fun f => { f with scrubAsked := true, scrubDue := if f.scrubEvery = 0 then none else some (s.now + 1000000000 * f.scrubEvery) })

/-- The sluice grants a scrub pass. -/
def State.scrubGranted (s : State) : State := s.setFaults (fun f => { f with scrubAsked := false, scrubFrom := some s.now })

/-- The sluice refuses a scrub pass: it is skipped and counted (R529). -/
def State.scrubRefused (s : State) : State := s.setFaults (fun f => { f with scrubAsked := false, scrubSkipped := sat 32 (f.scrubSkipped + 1) })

/-- A scrub pass ends: injected errors are found in address order, and the tokens return. (log 102: DEDUCED) -/
def State.scrubEndPass (s : State) : State :=
  if s.faults.scrubFrom.isNone then s
  else
    let l := sortBy (fun (e : Nat × Bool) => e.1) s.faults.injected
    let s := l.foldl (fun (s : State) e => s.eccError 0 e.1 e.2 true) s
    (s.setFaults (fun f => { f with scrubFrom := none, scrubDone := sat 32 (f.scrubDone + 1), scrubEnd := s.now })).returnTokens (fun r => r.op == 6)

/-! ## Losing an AFE die (R530, R531) -/

/-- The channels of a die. -/
def dieChannels (d : Nat) : List Nat := (List.range 128).map (128 * d + ·)

/-- A die is marked lost (R531, R85): its pans have failed, and with AFE0 the roving converter is unavailable, so that a pan of AFE1 for which it stood goes unsampled (R10). -/
def State.markLost (s : State) (d cause : Nat) : State :=
  let s : State := { s with front := { s.front with afeLost := s.front.afeLost ++ [(d, cause)] } }
  let s := (List.range 16).foldl (fun (s : State) i => s.setPan (16 * d + i) (fun x => { x with failed := true, frame := none, strobes := [], armed := [] })) s
  if d ≠ 0 then s
  else
    let s := match s.substituted with | some p => s.setPan p (fun x => { x with unsampled := true }) | none => s
    { s.freeRoving with front := { s.freeRoving.front with roving := .unavailable } }

/-- Both dies are lost: AFE_BOTH_LOST, a Fatal fault, with the cause on each. (log 103: DEDUCED) -/
def State.bothLost (s : State) : State :=
  match s.front.afeLost.lookup 0, s.front.afeLost.lookup 1 with
  | some a, some b => s.logFault 0x00F2 0 a b
  | _, _ => s

/-- An AFE die is declared lost (R530): AFE_LOST is logged, its trip lines are gated, and its streams end at the first grid strobe after now. (log 103: DEDUCED) -/
def State.declareLost (s : State) (d cause lanes : Nat) : State :=
  if 2 ≤ d ∨ s.dieLost d ∨ s.sys.hub = .reset ∨ s.sys.hub = .boot then s
  else
    let g := s.grid
    let k := if s.now < g.2 then 0 else (s.now - g.2) / g.period + 1
    let s := (s.logFault 0x0011 d cause lanes).markLost d cause
    let s : State := { s with front := { s.front with endStrobe := s.front.endStrobe ++ [(d, g.at k)] } }
    s.driveTrip.bothLost

/-- The words of a committed cask that have come of a lost channel go out, followed by the units of its range that lie before the end strobe and are missing. -/
def State.cutCommitted (s : State) (g ch strobe : Nat) (x : Group) (c : Cask) : State :=
  let key := streamKey 3 (512 * g + ch)
  let tail := x.state == GroupState.tail
  let lo := if tail then Tbl.get (x.headEnd c) x.tailTo ch else c.nt - c.pAct
  let top := Tbl.get 0 x.reached ch
  let s := s.handSegment g ch c (rangeWords x.ring ch lo (min top (x.endOf c))) tail false
  let p := c.period
  let t := match (x.ring.filter (fun (w : MemWord) => w.ch == ch)).getLast? with | some w => w.time + w.count * p | none => strobe
  let n := min (x.endOf c - top) ((strobe - t + p - 1) / max 1 p)
  if n = 0 then s else s.miss key { count := n, index := top, first := t, last := (t + (n - 1) * p) * 65536, reason := 10, unit := 0 }

/-- The CASK stream of a lost channel ends (R531): the words of closed casks not yet handed over go out, then those of the committed one. -/
def State.endCaskStream (s : State) (g ch strobe : Nat) : State :=
  let x := s.group g
  let s := if x.holds then s else x.casks.foldl (fun (s : State) c => s.handSegment g ch c (c.words.filter (·.ch == ch)) false (!c.head)) s
  let s := match x.current with
    | some c => if x.state == GroupState.post || x.state == GroupState.tail then s.cutCommitted g ch strobe x c else s
    | none => s
  s.endStream (streamKey 3 (512 * g + ch)) 5 strobe

/-- The end strobe of a lost die: its streams end, record, GAP and END in that order; a group left with no channel stops (R531, R216). (log 103: DEDUCED) -/
def State.endLost (s : State) (d : Nat) : State :=
  match s.front.endStrobe.lookup d with
  | none => s
  | some t =>
    if s.now < t then s
    else
      let s : State := { s with front := { s.front with endStrobe := s.front.endStrobe.filter (·.1 != d) } }
      let own := fun (key : Nat) => (dieChannels d).any (fun ch => ofChannel ch key)
      let s := (s.streams.table.filter (fun e => e.2.isOpen && own e.1)).foldl (fun (s : State) e => s.endWithGap e.1 5 10 t false) s
      (s.capture.groups.filter (fun e => e.2.active && e.2.channels.any (dieChannels d).contains)).foldl (fun (s : State) e =>
        let s := (e.2.channels.filter (dieChannels d).contains).foldl (fun (s : State) ch => s.endCaskStream e.1 ch t) s
        if e.2.channels.any (fun ch => s.captureAlive e.2.isFiltered ch) then (s.tryClose e.1).serveTail e.1
        else (s.haltGroup e.1 6 .stopped).logFault 0x0016 e.1 0 0) s

/-! ## Dead islands (R534) -/

/-- A port island is dead: its port goes out of service as one with no surviving lane (R362). (log 68: DESIGN CHOICE) -/
def State.killPort (s : State) (p : Port) : State :=
  let x := s.port p
  if x.state ≠ 3 ∧ x.state ≠ 4 then s
  else
    let s := x.used.foldl (fun (s : State) i => s.logFault 0x0030 (Port.code p) i 0) s
    (s.train p true).setPort p (fun y => x.used.foldl (fun y i => y.setLane i (fun l => { l with failed := true, logical := 255 })) y)

/-- A code for an island in the list of dead ones. -/
def Island.code : Island → Nat
  | .grid => 0 | .mash => 1 | .kiln => 2 | .mem => 3 | .port p => 4 + Port.code p

/-- An island's liveness bit has not toggled for 10 µs (R534). -/
def State.islandDead (s : State) (i : Island) : State :=
  if s.sys.hub = .reset ∨ s.sys.hub = .boot then s
  else match i with
    | .port p => if p ≠ .up then s.killPort p else if (s.port p).state ≠ 3 ∧ (s.port p).state ≠ 4 then s else dies s 0
    | _ => dies s 0
where
  /-- ISLAND_DEAD, a Fatal fault. -/
  dies (s : State) (inst : Nat) : State := (s.logFault 0x00F1 inst 0 0).setFaults (fun f => { f with dead := f.dead ++ [(Island.code i, s.now)] })

/-! ## Operations of group 0x0F (R541) -/

/-- The 32 bytes of a fault-log entry (R524). -/
def LogEntry.bytes (e : LogEntry) : Bytes :=
  le 4 e.serial ++ le 1 e.cls ++ le 1 e.island ++ le 2 e.code ++ le 8 e.time ++ le 2 e.frac ++ le 2 e.inst ++ le 4 e.d0.toNat ++ le 4 e.d1.toNat ++ le 2 e.withheld ++ le 1 ((if e.pinned then 1 else 0) + (if e.inBoot then 2 else 0)) ++ [0]

/-- The entries held, in ascending serial. -/
def Faults.entries (f : Faults) : List LogEntry := sortBy (fun (e : LogEntry) => e.serial) (f.log.map (·.2))

/-- The Fatal cause code and the log index of its entry: 0 and 255 outside `FAULT_HOLD`. -/
def State.fatalCause (s : State) : Nat × Nat := if s.sys.hub = .faultHold then s.faults.fatal.getD (0, 255) else (0, 255)

/-- The lost AFE dies, as a mask. -/
def State.lostDies (s : State) : Nat := maskOf (s.front.afeLost.map (·.1))

/-- The result of `FAULT_GET_SUMMARY`. -/
def State.faultSummary (s : State) : Bytes :=
  let f := s.faults
  le 1 s.sys.hub.code ++ le 1 (f.highest.getD 255) ++ le 1 s.lostDies ++ [0] ++ ((List.range 6).map (fun (c : Nat) => le 4 (Tbl.get 0 f.counts c))).flatten ++ le 4 f.nextSerial
    ++ le 2 s.fatalCause.1 ++ le 1 s.fatalCause.2 ++ [0] ++ le 4 s.sys.restartCount ++ le 8 f.lastAt

/-- The result of `FAULT_READ_LOG` from a first serial, at most `count` entries. -/
def Faults.readLog (f : Faults) (first count : Nat) : Bytes :=
  let l := (f.entries.filter (fun e => decide (first ≤ e.serial))).take count
  le 2 l.length ++ zeros 2 ++ le 4 (match f.entries with | e :: _ => e.serial | [] => f.nextSerial) ++ l.flatMap LogEntry.bytes

/-- The result of `FAULT_GET_MEMORY`. -/
def Faults.memory (f : Faults) : Bytes :=
  ((List.range 8).map (fun i => le 4 (Tbl.get 0 f.mem i))).flatten ++ le 4 f.scrubDone ++ le 4 f.scrubSkipped ++ le 4 f.scrubEvery ++ zeros 4 ++ le 8 f.scrubEnd

/-- An operation of the group: legal in every state, in effect before its reply. -/
def faultOp (n : Nat) (params : Bytes → List (Nat × Bool)) (effect : Bytes → State → State × Bytes) : Op :=
  { need := fun _ => n, states := allStates, params := fun h _ => params h.cmd.params
    run := fun h s => let (s', r) := effect h.cmd.params s; .done 0 r s' }

/-- Whether a cask memory word is free. -/
def State.wordFree (s : State) (w : Nat) : Bool := s.wordUse w == .free

/-- The parameter checks of `DIAG_INJECT`. (log 102: DEDUCED) -/
def injectParams (h : Held) (s : State) : List (Nat × Bool) :=
  let p := h.cmd.params
  let k := u8 p 0
  [(0, 1 ≤ k && k ≤ 3), (1, if k = 3 then u8 p 1 < 4 else u8 p 1 == 0), (2, zeroAt p 2 2), (3, if k = 3 then u32 p 4 == 0 else u32 p 4 < 2097152 && (k != 2 || s.wordFree (u32 p 4)))]

/-- `DIAG_INJECT` arms its error. (log 102: DEDUCED) -/
def State.inject (s : State) (p : Bytes) : State :=
  s.setFaults (fun f =>
    if u8 p 0 = 3 then { f with crcInject := if f.crcInject.contains (u8 p 1) then f.crcInject else f.crcInject ++ [u8 p 1] }
    else { f with injected := f.injected.filter (·.1 != u32 p 4) ++ [(u32 p 4, u8 p 0 == 2)] })

/-- The entries of group 0x0F by operation (table "Group 0x0F commands"). -/
def faultOps (n : Nat) : Option Op :=
  match n with
  | 0x01 => some (faultOp 0 (fun _ => []) (fun _ s => (s, s.faultSummary)))
  | 0x02 => some (faultOp 8 (fun p => [(1, 1 ≤ u8 p 4 && u8 p 4 ≤ 31), (2, zeroAt p 5 3)]) (fun p s => (s, s.faults.readLog (u32 p 0) (u8 p 4))))
  | 0x03 => some (faultOp 4 (fun p => [(1, zeroAt p 1 3)]) (fun p s =>
      (if u8 p 0 = 1 then s.setFaults (fun f => { f with mem := [], scrubDone := 0, scrubSkipped := 0 }) else s, s.faults.memory)))
  | 0x04 => some (faultOp 0 (fun _ => []) (fun _ s => (s, ((List.range 10).map (fun i => leInt 2 (s.front.temps.getD i 0))).flatten ++ zeros 4)))
  | 0x10 => some (faultOp 0 (fun _ => []) (fun _ s => (s.setFaults (fun f => { f with log := f.log.filter (·.2.pinned), counts := [], highest := none }), [])))
  | 0x11 => some (faultOp 8 (fun p => [(0, u32 p 0 == 0 || (10 ≤ u32 p 0 && u32 p 0 ≤ 3600)), (1, zeroAt p 4 4)]) (fun p s =>
      (s.setFaults (fun f => { f with scrubEvery := u32 p 0, scrubDue := if u32 p 0 = 0 then none else some (s.now + 1000000000 * u32 p 0) }), [])))
  | 0x12 => some (faultOp 4 (fun p => [(0, u8 p 0 < 64), (1, zeroAt p 1 3)]) (fun p s => (s.setFaults (fun f => { f with mirror := BitVec.ofNat 8 (u8 p 0) }), [])))
  | 0x13 => some { need := fun _ => 8, states := [.ready], params := injectParams, run := fun h s => .done 0 [] (s.inject h.cmd.params) }
  | _ => none

end Sys2Proof.Machine
end

