-- ==== Sys2Proof/Machine/Flash.lean ====
section
/-! DEFINITION. The FPORT and flash (chapter 19, R554 to R560; chapter 03, R86 and R87): the flash contents, erase and program operations, reads, and the operations 0x02, 0x03 and 0x10 to 0x12 of group 0x10; patch slots. -/
namespace Sys2Proof.Machine

open Sys2Proof

/-- Changes the serial ports. -/
def State.setSerial (s : State) (f : Serial → Serial) : State := { s with serial := f s.serial }

/-- Adds to a counter of the serial block, by its word from 0x00_4040. -/
def State.countSerial (s : State) (i n : Nat) : State := s.setSerial (fun x => { x with counters := Tbl.modify 0 x.counters i (fun v => sat 32 (v + n)) })

/-! ## Contents -/

/-- A flash byte; one that nothing has written is erased. (log 104: PRESUMED) -/
def State.flashByte (s : State) (a : Nat) : Byte := Mem.read (fun _ => 0xFF) s.serial.flash a

/-- Whether the 4-byte address forms are in use (R554). -/
def State.addr4 (s : State) : Bool := s.serial.sp1Ctrl.getLsbD 9

/-- Bytes read from flash (R555): with 3-byte addresses nothing is issued from 0x100_0000 up, and zeros come back. (log 106: DEDUCED) -/
def State.readFlash (s : State) (a n : Nat) : Bytes :=
  (List.range n).map (fun i => if !s.addr4 && decide (0x1000000 ≤ a + i) then 0 else s.flashByte (a + i))

/-- Writes flash bytes. -/
def State.writeFlash (s : State) (a : Nat) (b : Bytes) : State := s.setSerial (fun x => { x with flash := Mem.writeN (fun _ => 0xFF) x.flash a b })

/-! ## Operations (R556 to R558) -/

/-- The region an operation covers: the sector erased, or the page programmed (R557). -/
def FlashOp.region (o : FlashOp) : Nat × Nat := if o.erase then (o.addr, o.size) else (o.addr / 256 * 256, 256)

/-- The operation that runs. -/
def State.flashRuns (s : State) : Option FlashOp := s.serial.ops.head?.filter (fun o => o.since.isSome)

/-- Whether a read touches the region of the running operation and so waits (R557). -/
def State.flashBlocked (s : State) (a n : Nat) : Bool := s.flashRuns.any (fun o => overlap a n o.region.1 o.region.2)

/-- A read that goes ahead suspends the running operation and resumes it (R557). (log 106: DEDUCED) -/
def State.flashSuspend (s : State) : State := if s.flashRuns.isSome then s.countSerial 9 1 else s

/-- The head operation asks the sluice (heavy operation 4). -/
def State.flashAsk (s : State) : State :=
  match s.serial.ops with
  | o :: r => if o.asked then s else (s.ask 4 0 { vdd := 2 } false (some o.ref) none).setSerial (fun x => { x with ops := { o with asked := true } :: r })
  | [] => s

/-- The sluice grants the head operation: it runs. -/
def State.flashGranted (s : State) : State := s.setSerial (fun x => { x with ops := match x.ops with | o :: r => { o with since := some s.now } :: r | [] => [] })

/-- A window line read (R555): 32 bytes. -/
def State.windowLine (s : State) (o : Nat) : State := s.flashSuspend.setSerial (fun x => { x with line := s.readFlash (o / 32 * 32) 32 })

/-- FLASH_WINDOW_READ: one inside the region of a running operation waits for its end. -/
def State.windowRead (s : State) (o : Nat) : State :=
  if s.sys.hub = .reset then s
  else
    let s := s.countSerial 8 1
    if s.flashBlocked (o / 32 * 32) 32 then s.setSerial (fun x => { x with winReads := x.winReads ++ [o] }) else s.windowLine o

/-- The result of `FLASH_READ` for its parameters. -/
def State.flashReadOf (s : State) (p : Bytes) : Bytes := s.readFlash (u32 p 0) (u16 p 4)

/-- What waited for the operation that ended goes ahead: window reads, flash reads, the next operation, and a write to SP1_CTRL once SP1 is idle. -/
def State.flashIdle (s : State) : State :=
  let wins := s.serial.winReads
  let reads := s.serial.reads
  let s := s.setSerial (fun x => { x with winReads := [], reads := [] })
  let s := wins.foldl (fun (s : State) o => s.windowLine o) s
  let s := reads.foldl (fun (s : State) r => match s.heldOf r with | some h => s.finish r stOk 0 (s.flashReadOf h.cmd.params) | none => s) s
  let s := match s.serial.sp1Next with | some v => s.setSerial (fun x => { x with sp1Ctrl := v, sp1Next := none }) | none => s
  s.flashAsk

/-- The head operation ends with an outcome: its tokens return and its notice goes out. -/
def State.flashEnd (s : State) (o : FlashOp) (outcome : Nat) : State :=
  let us := (s.now - o.since.getD s.now) / 1000
  let s := (s.setSerial (fun x => { x with ops := x.ops.drop 1 })).returnTokens (fun r => r.op == 4)
  (s.finish o.ref stOk 0 (le 1 outcome ++ zeros 3 ++ le 4 us)).flashIdle

/-- The address an operation drives: 24 bits with the 3-byte forms. (log 106: DEDUCED) -/
def State.flashAddr (s : State) (a : Nat) : Nat := if s.addr4 then a else a % 0x1000000

/-- FLASH_OPERATION_DONE: a poll reads the status register, and the operation ends once bit 0 is clear (R556). A page program clears bits only. (log 104: PRESUMED; 106: DEDUCED) -/
def State.flashDone (s : State) (status : Byte) : State :=
  match s.flashRuns with
  | none => s
  | some o =>
    let s := s.setSerial (fun x => { x with status })
    if status.getLsbD 0 then s
    else
      let a := s.flashAddr o.addr
      let b := if o.erase then List.replicate o.size 0xFF else o.data.zipIdx.map (fun e => e.1 &&& s.flashByte (a + e.2))
      (((s.writeFlash a b).countSerial 10 1).setSerial (fun x => { x with opsDone := sat 32 (x.opsDone + 1) })).flashEnd o 0

/-- FLASH_OPERATION_TIMEOUT: after 5 s the operation ends with outcome 1 (R556); the spec does not say what its region then holds. (log 105: DESIGN CHOICE) -/
def State.flashTimeout (s : State) : State :=
  match s.flashRuns with
  | none => s
  | some o =>
    if s.now < o.since.getD 0 + 5000000000 then s
    else
      let n := s.sys.freeUsed
      let b := (List.range o.region.2).map (fun i => (Config.freeValue (n + i)).setWidth 8)
      let s : State := { s with sys := { s.sys with freeUsed := n + o.region.2 } }
      ((s.writeFlash (s.flashAddr o.region.1) b).countSerial 11 1).flashEnd o 1

/-! ## Patch slots (R86, R87) -/

/-- Where a slot starts. -/
def slotBase (n : Nat) : Nat := 0x40000 * n

/-- The 64 header bytes of a slot. -/
def State.slotHeader (s : State) (n : Nat) : Bytes := (List.range 64).map (fun i => s.flashByte (slotBase n + i))

/-- How a header stands (table "`FW_VERIFY` and `FW_ACTIVATE` completion result parameters"): 0 good, 1 bad, 2 step or major version unsupported. (log 116: DESIGN CHOICE) -/
def headerResult (h : Bytes) : Nat :=
  let n := u32 h 12
  if u32 h 0 ≠ 0x5A4E5054 ∨ u16 h 4 ≠ 1 ∨ u32 h 60 ≠ crc32c (h.take 60) ∨ n % 4 ≠ 0 ∨ n < 4 ∨ 262080 < n ∨ u32 h 20 % 4 ≠ 0 ∨ n ≤ u32 h 20 then 1
  else if 0x0A01 < u16 h 6 ∨ u32 h 8 / 65536 ≠ 2 then 2
  else 0

/-- The body of a slot, as its header gives its length. -/
def State.slotBody (s : State) (n : Nat) : Bytes := (List.range (u32 (s.slotHeader n) 12)).map (fun i => s.flashByte (slotBase n + 64 + i))

/-- The verification of a slot (R87, R101): result, and the 16 bytes that report it. A body is read only under a good header. (log 34: DEDUCED; 116: DESIGN CHOICE) -/
def State.verifySlot (s : State) (n : Nat) : Nat × Bytes :=
  let h := s.slotHeader n
  let r := headerResult h
  let c := if r = 0 then crc32c (s.slotBody n) else 0
  let r := if r = 0 ∧ c ≠ u32 h 24 then 3 else r
  (r, le 1 r ++ zeros 3 ++ le 4 (u32 h 8) ++ le 4 (u32 h 16) ++ le 4 c)

/-- Whether an operation in the queue covers part of a slot. -/
def State.slotBusy (s : State) (n : Nat) : Bool := s.serial.ops.any (fun o => overlap o.addr (max 1 o.size) (slotBase n) 0x40000)

/-- Whether a region overlaps the slot in force or one that a running FW_VERIFY or FW_ACTIVATE covers (R558). -/
def State.slotGuarded (s : State) (a n : Nat) : Bool :=
  (List.range 2).any (fun k => overlap a n (slotBase k) 0x40000 && (s.sys.fwSource == k + 1 || s.sys.fwChecks.any (fun c => c.slot == k)))

/-! ## Operations of group 0x10 on flash (R560) -/

/-- The states that allow erases, programs and transfers. -/
def flashStates : List HubState := [.discover, .timelock, .ready, .run, .reconfigure, .shadow, .holdover]

/-- Starts a flash operation. -/
def startFlash (o : Nat → FlashOp) (h : Held) (s : State) : Answer := .accepted [] ((s.setSerial (fun x => { x with ops := x.ops ++ [o h.serial] })).flashAsk)

/-- `CMD_ABORT` of an erase or program, until the sluice grants. -/
def abortFlash (h : Held) (s : State) : Option State :=
  if s.serial.ops.any (fun o => o.ref == h.serial && o.since.isNone) then
    some ((s.withdraw h.serial).setSerial (fun x => { x with ops := x.ops.filter (·.ref != h.serial) })).flashAsk
  else none

/-- `FLASH_GET_INFO` (0x1002). -/
def opFlashGetInfo : Op :=
  { need := fun _ => 0, states := allStates
    run := fun _ s => .done 0 (le 3 Config.jedecId.toNat ++ [s.serial.status] ++ le 4 s.serial.opsDone ++ le 1 (if s.flashRuns.isSome then 1 else 0) ++ zeros 3) s }

/-- `FLASH_READ` (0x1003). -/
def opFlashRead : Op :=
  { need := fun _ => 8, states := allStates
    params := fun h _ => let p := h.cmd.params; [(1, 1 ≤ u16 p 4 && u16 p 4 ≤ 1016), (2, zeroAt p 6 2)]
    run := fun h s =>
      let p := h.cmd.params
      if s.flashBlocked (u32 p 0) (u16 p 4) then .holds (s.setSerial (fun x => { x with reads := x.reads ++ [h.serial] }))
      else .done 0 (s.flashReadOf p) s.flashSuspend }

/-- `FLASH_ERASE` (0x1010). -/
def opFlashErase : Op :=
  { need := fun _ => 8, states := flashStates
    params := fun h s =>
      let p := h.cmd.params
      let n := if u8 p 4 = 1 then 65536 else 4096
      [(0, u32 p 0 % n == 0 && !s.slotGuarded (s.flashAddr (u32 p 0)) n), (1, u8 p 4 < 2), (2, zeroAt p 5 3)]
    abort := abortFlash
    run := fun h s => startFlash (fun r => { ref := r, erase := true, addr := u32 h.cmd.params 0, size := if u8 h.cmd.params 4 = 1 then 65536 else 4096 }) h s }

/-- `FLASH_PROGRAM` (0x1011). -/
def opFlashProgram : Op :=
  { need := fun p => 8 + u16 p 4, states := flashStates
    params := fun h s =>
      let p := h.cmd.params
      [(0, !s.slotGuarded (s.flashAddr (u32 p 0)) (u16 p 4)), (1, 1 ≤ u16 p 4 && u16 p 4 ≤ 256 && u32 p 0 % 256 + u16 p 4 ≤ 256), (2, zeroAt p 6 2)]
    abort := abortFlash
    run := fun h s => startFlash (fun r => { ref := r, erase := false, addr := u32 h.cmd.params 0, size := u16 h.cmd.params 4, data := h.cmd.params.drop 8 }) h s }

/-- `SPI_TRANSFER` (0x1012): the device on the select answers, at the n-th transfer since reset. -/
def opSpiTransfer : Op :=
  { need := fun p => 8 + u16 p 2, states := flashStates
    params := fun h _ =>
      let p := h.cmd.params
      [(0, 1 ≤ u8 p 0 && u8 p 0 ≤ 3), (1, zeroAt p 1 1), (2, u16 p 2 ≤ 1008), (3, u16 p 4 ≤ 1016 && u16 p 2 + u16 p 4 != 0), (4, zeroAt p 6 2)]
    run := fun h s =>
      let p := h.cmd.params
      .done 0 ((List.range (u16 p 4)).map (fun i => Config.spiAnswer (u8 p 0) (p.drop 8) s.serial.transfers i)) (s.setSerial (fun x => { x with transfers := x.transfers + 1 })) }

/-- The flash operations of group 0x10. -/
def flashOps (n : Nat) : Option Op :=
  match n with
  | 0x02 => some opFlashGetInfo | 0x03 => some opFlashRead | 0x10 => some opFlashErase | 0x11 => some opFlashProgram | 0x12 => some opSpiTransfer
  | _ => none

end Sys2Proof.Machine
end

