-- ==== Sys2Proof/Machine/Power.lean ====
section
/-! DEFINITION. Power states and the sluice's grants (chapter 16): function groups, DORMANT, power-up of pans, what a grant, a timeout and a token return bring about, and the operations of group 0x0D. -/
namespace Sys2Proof.Machine

open Sys2Proof

/-- Changes the power block. -/
def State.setPower (s : State) (f : Power → Power) : State := { s with power := f s.power }

/-! ## Function groups (R482 to R487) -/

/-- A sampling state (R482). -/
def State.sampling (s : State) : Bool := s.sys.hub == .run || s.sys.hub == .reconfigure || s.sys.hub == .holdover || s.sys.hub == .shadow || (s.sys.hub == .calibrate && s.sys.calFrom == .run)

/-- Whether a command executes, other than the one named (R489). -/
def State.executes (s : State) (but : Option Nat) : Bool := s.cmds.held.any (fun h => some h.serial != but && (match h.phase with | .executing | .accepted => true | _ => false))

/-- Whether a group is busy (table "Function groups"). -/
def State.groupBusy (s : State) (g : Nat) : Bool :=
  match g with
  | 0 => s.sys.hub != .dormant
  | 1 => s.sampling && s.mash.chans.any (fun e => e.2.recipe.isSome || e.2.slots.any (fun x => x.2.op != 0))
  | 2 => (s.sampling && (s.streams.table.any (fun e => e.2.isOpen && s.coded e.1) || s.kiln.taps.any (·.2.on))) || (s.kiln.job.state == 1 && s.kiln.job.running)
  | 4 => s.sampling && (List.range 16).any (fun i => (s.edge i).standard != 0)
  | 5 => s.executes none || !s.cmds.waiting.isEmpty
  | _ => true

/-- The working state that P4 loses (table "Power states"): filter histories, and interpolator calibration pairs. -/
def State.loseWork (s : State) (g : Nat) : State :=
  match g with
  | 1 => { s with mash := { s.mash with chans := s.mash.chans.map (fun (e : Nat × MashChan) => (e.1, { e.2 with inst := {}, oldInst := none, resetDue := true })) } }
  | 4 => (List.range 16).foldl (fun (s : State) i => s.setEdge i (fun e => { e with interpA := { e.interpA with a1 := 2000, a2 := 4000, rejects := 0 }, interpB := { e.interpB with a1 := 2000, a2 := 4000, rejects := 0 } })) s
  | _ => s

/-- A group goes to a power state. -/
def State.setGroupPower (s : State) (g p : Nat) : State :=
  let s := if p = 4 ∧ s.power.states.getD g 0 ≠ 4 then s.loseWork g else s
  s.setPower (fun w => { w with states := w.states.set g p })

/-- GROUP_IDLE_TIMEOUT: a group idle for 100 µs enters its derived state (R485). -/
def State.groupIdle (s : State) (g : Nat) : State :=
  if g = 3 ∨ 6 ≤ g ∨ s.groupBusy g ∨ !(s.power.idleAt.lookup g).any (fun t => decide (t + 100000 ≤ s.now)) then s
  else s.setGroupPower g (derived g (s.power.tolerance.getD g 0))

/-- GROUP_WAKE: a group for which work has arrived comes to P0 (R486). -/
def State.groupWake (s : State) (g : Nat) : State := if g = 3 ∨ 6 ≤ g ∨ !s.groupBusy g then s else s.setGroupPower g 0

/-- The commands group comes to P0 for a packet, and counts its idleness anew (R486). (log 95: DEDUCED) -/
def State.wakeCommands (s : State) : State := s.setPower (fun w => { w with states := w.states.set 5 0, idleAt := Tbl.set w.idleAt 5 s.now })

/-! ## DORMANT (R489, R490) -/

/-- What R489 asks of the tolerances: every group other than ports derives P2 or deeper, and the ports tolerance allows electrical idle on every port in service. -/
def State.tolerant (s : State) : Bool :=
  ([0, 1, 2, 4, 5].all (fun g => decide (2 ≤ derived g (s.power.tolerance.getD g 0))))
    && allPorts.all (fun p => (s.port p).state < 3 || 5 < (s.port p).state || decide (idleExitPs (s.port p).rate (s.port p).width ≤ 1000 * s.portTolerance))

/-- Whether the conditions of R489 hold, apart from their 10 ms; the command named is left out of account. (log 95: DEDUCED) -/
def State.calm (s : State) (but : Option Nat) : Bool :=
  s.tolerant && s.twin.mode == 0 && !s.executes but && s.sluice.normal.isEmpty && s.sluice.recovery.isEmpty && s.sluice.granted.isEmpty && s.cal.rotation.isNone

/-- Keeps account of idle groups and of how long the conditions of R489 have held in READY. -/
def State.notePower (s : State) : State :=
  s.setPower (fun w => { w with
    idleAt := [0, 1, 2, 4, 5].foldl (fun (t : Tbl Nat) g => if s.groupBusy g then Tbl.erase t g else if (t.lookup g).isSome then t else Tbl.set t g s.now) w.idleAt
    calmAt := if s.sys.hub = .ready ∧ s.calm none then some (w.calmAt.getD s.now) else none })

/-- DORMANT_ENTRY (R489): the conditions have held for 10 ms, and no hold of POWER_WAKE runs. -/
def State.enterDormant (s : State) : State :=
  if s.sys.hub ≠ .ready ∨ !s.calm none ∨ s.now < s.power.holdTo ∨ !s.power.calmAt.any (fun t => decide (t + 10000000 ≤ s.now)) then s
  else
    let s : State := { s with front := { s.front with pans := s.front.pans.map (fun (e : Nat × Pan) => (e.1, { e.2 with frame := none, strobes := [], armed := [] })) } }
    (s.setPower (fun w => { w with entries := sat 32 (w.entries + 1), calmAt := none })).go .dormant 0x0070

/-- DORMANT_EXIT (R490): a tolerance has been tightened so that R489 no longer holds, or POWER_WAKE has come. The groups come back, NOTICE_STATE goes out, and then the notices of POWER_WAKE. -/
def State.leaveDormant (s : State) : State :=
  if s.sys.hub ≠ .dormant ∨ (s.tolerant ∧ s.power.wakes.isEmpty) then s
  else
    let l := s.power.wakes
    let s := (s.restoreGroups.setPower (fun w => { w with wakes := [], calmAt := none })).go .ready 0x0071
    l.foldl (fun (s : State) r => s.finish r stOk 0 []) s

/-- WAKE_HOLD_EXPIRY: the hold of POWER_WAKE ends (R490). -/
def State.wakeHoldEnd (s : State) : State := if s.power.holdTo ≤ s.now then s.setPower (fun w => { w with holdTo := 0 }) else s

/-- A tightened tolerance brings its group to the new derived state or shallower before the reply (R501). -/
def State.setTolerance (s : State) (g tol : Nat) : State :=
  let s := s.setPower (fun w => { w with tolerance := w.tolerance.set g tol })
  if g = 3 then
    allPorts.foldl (fun (s : State) p =>
      let x := s.port p
      if (x.state = 4 ∧ 1000 * tol < idleExitPs x.rate x.width) ∨ (x.state = 5 ∧ tol < 50000) then s.wakePort p else s) s
  else s.setGroupPower g (min (s.power.states.getD g 0) (derived g tol))

/-! ## Power-up of pans (R140, R487, R494) -/

/-- The sluice grants the power-up of one pan. (log 39: DEDUCED) -/
def State.panGranted (s : State) (p : Nat) (ref : Nat) : State :=
  (s.setPan p (fun x => { x with power := if x.power = .on then .on else .poweringUp, powerRef := some ref })).powerReady ref

/-- Outside sampling states a power-up is in force at its time (R140). -/
def State.powerUpsDue (s : State) : List Change :=
  if s.live then [] else s.cmds.changes.filter (fun c => c.opcode == 0x0210 && u8 c.params 4 == 1 && decide (c.epoch ≤ s.now))

/-! ## Grants, token returns and timeouts (R491 to R496) -/

/-- SLUICE_REQUEST: what the hub itself asks for: a port's training, a scrub pass that is due, the next flash operation. -/
def State.sluiceRequest (s : State) (op : Nat) (p : Port) : State :=
  match op with
  | 4 => s.flashAsk
  | 5 => s.requestTraining p
  | 6 => s.scrubStart
  | _ => s

/-- The change of a command that opens 256 or more streams is accepted for its epoch at the grant (R496): the one it names, or the first at least 1 ms after the grant. Streams that a duty claim begins open at the next boundary (R446). (log 97: DEDUCED) -/
def State.openGranted (s : State) (r : Request) : State :=
  let held := fun (s : State) (e : Nat) => { s with sluice := { s.sluice with granted := s.sluice.granted.map (fun (x : Request) => if x.op = 7 ∧ x.ref = r.ref then { x with deadline := e + 1000000 } else x) } }
  match r.ref, r.ref.bind s.heldOf with
  | some ref, some h =>
    if h.opcode = 0x0210 then (held s never).powerReady ref
    else
    let e := if r.unit = 0 then s.grid.nextFrom (s.now + 1000000) else r.unit
    held (s.addChange h e) e
  | some _, none => s
  | none, _ => held s (s.grid.nextFrom s.now)

/-- What begins when a request is granted. -/
def State.granted (s : State) (r : Request) : State :=
  match r.op with
  | 1 => s.panGranted r.unit (r.ref.getD 0)
  | 2 => s.setFore (fun f => { f with granted := some s.now })
  | 3 => s.setJob (fun j => { j with running := true })
  | 4 => s.flashGranted
  | 5 => s.trainingGranted (portOf r.unit)
  | 6 => s.scrubGranted
  | _ => s.openGranted r

/-- SLUICE_GRANT: the head of a queue is granted when its cost fits (R492). (log 96: DEDUCED) -/
def State.sluiceGrant (s : State) (recovery : Bool) : State :=
  match s.sluice.grantable recovery with
  | none => s
  | some r =>
    let x := s.sluice
    let us := (s.now - r.entered) / 1000
    let x := { x.setQueue recovery ((x.queue recovery).drop 1) with granted := x.granted ++ [{ r with entered := s.now }], grants := sat 32 (x.grants + 1), longest := max x.longest (sat 32 us), headSince := if recovery then x.headSince else if x.normal.length ≤ 1 then 0 else s.now }
    State.granted { s with sluice := x } r

/-- SLUICE_TOKEN_RETURN: tokens held for a time go back: a pan's 2 ms after its grant, those of an opening of streams 1 ms after its epoch. The others go back as their operations end. (log 96: DEDUCED) -/
def State.tokenReturn (s : State) (op : Nat) : State :=
  s.returnTokens (fun r => r.op == op && ((op == 1 && decide (r.entered + 2000000 ≤ s.now)) || (op == 7 && decide (r.deadline ≤ s.now))))

/-- The rail that the detail of ADMIT_TIMEOUT names (R495): the first on which the request's own cost does not fit, or else the first on which the request that blocked it lacked tokens. -/
def Sluice.blockedRail (x : Sluice) (r : Request) : Nat :=
  if x.short r ≠ 0 then x.short r
  else
    let head := (x.queue r.recovery).head?
    let own := match head with | some h => x.short h | none => 0
    if own ≠ 0 then own
    else if r.recovery then 0
    else match x.recovery with | h :: _ => x.short h | [] => 0

/-- A request ends without a grant (R494, R495). (log 97: DEDUCED) -/
def State.requestEnds (s : State) (r : Request) : State :=
  let rail := s.sluice.blockedRail r
  let x := s.sluice
  let x := { x.setQueue r.recovery ((x.queue r.recovery).erase r) with timeouts := sat 32 (x.timeouts + 1), longest := max x.longest (sat 32 ((s.now - r.entered) / 1000)) }
  let x := { x with headSince := if x.normal.isEmpty then 0 else if s.sluice.normal.head? = some r then s.now else x.headSince }
  let s : State := { s with sluice := x }
  let ref := r.ref.getD 0
  match r.op with
  | 1 => (s.panUndo ref).finish ref stAdmitTimeout rail []
  | 2 => (s.setCal (fun c => { c with fore := none })).finish ref stAdmitTimeout rail []
  | 3 => (s.setJob (fun j => { j with state := 3, outcome := 4, running := false })).finish ref stAdmitTimeout rail []
  | 4 => ((s.setSerial (fun y => { y with ops := y.ops.filter (·.ref != ref) })).finish ref stAdmitTimeout rail []).flashAsk
  | 5 => s.trainingRefused (portOf r.unit)
  | 6 => s.scrubRefused
  | _ => match r.ref with
    | some ref => (s.panUndo ref).finish ref stAdmitTimeout rail []
    | none => { s with twin := { s.twin with startDue := false } }

/-- SLUICE_TIMEOUT: the first request of a queue whose wait has run out ends (R495). (log 96: DEDUCED) -/
def State.sluiceTimeout (s : State) (recovery : Bool) : State :=
  match (s.sluice.queue recovery).find? (fun r => decide (r.deadline ≤ s.now)) with
  | some r => s.requestEnds r
  | none => s

/-- Whether a request can never be granted under the present budget, or was entered past its deadline (R495, R496). (log 96: DEDUCED) -/
def State.hopeless (s : State) (r : Request) : Bool := r.cost.lacks (s.sluice.limit r.recovery) != 0 || decide (r.deadline < r.entered)

/-- Requests that can never be granted end at once (R495). -/
def State.purge (s : State) : State :=
  ((s.sluice.recovery ++ s.sluice.normal).filter s.hopeless).foldl (fun (s : State) r => if (s.sluice.queue r.recovery).contains r then s.requestEnds r else s) s

/-! ## Operations of group 0x0D (R499) -/

/-- The level of a port as `POWER_GET_STATUS` codes it. -/
def State.portLevel (s : State) (p : Port) : Nat := match (s.port p).state with | 3 => 0 | 4 => 1 | 5 => 3 | _ => 255

/-- The result of `POWER_GET_STATUS`. (log 95: DEDUCED) -/
def State.powerStatus (s : State) (serial : Nat) : Bytes :=
  let w := s.power
  let fl := (if s.calm (some serial) then 1 else 0) + (if s.sys.hub = .dormant then 2 else 0) + (if s.now < w.holdTo then 4 else 0)
  let exits := [0, 1, 2, 4, 5].map (fun g => exitTime (w.states.getD g 0))
  ((List.range 6).map (fun (g : Nat) => le 4 (w.tolerance.getD g 0))).flatten ++ ((List.range 6).map (fun (g : Nat) => le 1 (if g = 3 then 255 else w.states.getD g 0))).flatten
    ++ (allPorts.map (fun p => le 1 (s.portLevel p))).flatten ++ le 1 fl ++ zeros 1 ++ le 4 (exits.foldl max 0) ++ le 4 w.entries ++ zeros 4

/-- Tokens as three u16. -/
def Tokens.bytes (t : Tokens) : Bytes := le 2 t.vdd ++ le 2 t.av ++ le 2 t.vdds

/-- The result of `SLUICE_GET_STATUS`. (log 95: DEDUCED) -/
def Sluice.status (x : Sluice) : Bytes :=
  x.budget.bytes ++ x.reserve.bytes ++ x.inUse.bytes ++ le 2 x.normal.length ++ le 2 x.recovery.length ++ le 2 x.timeout ++ le 4 x.grants ++ le 4 x.timeouts ++ le 4 x.longest
    ++ le 1 (match x.normal with | r :: _ => r.op | [] => 0) ++ le 1 (match x.recovery with | r :: _ => r.op | [] => 0) ++ zeros 2 ++ le 8 (if x.normal.isEmpty then 0 else x.headSince)

/-- The states of group 0x0D's other commands. -/
def powerStates : List HubState := [.discover, .timelock, .ready, .calibrate, .run, .reconfigure, .shadow, .dormant, .holdover]

/-- `POWER_SET_TOLERANCE` (0x0D10). -/
def opPowerSetTolerance : Op :=
  { need := fun _ => 28, states := powerStates, bcast := fun _ => true
    params := fun h _ => let p := h.cmd.params; [(0, u8 p 0 != 0 && u8 p 0 < 64), (1, zeroAt p 1 3)]
    run := fun h s => let p := h.cmd.params; .done 0 [] ((bitsOf 6 (u8 p 0)).foldl (fun (s : State) g => s.setTolerance g (u32 p (4 + 4 * g))) s) }

/-- `SLUICE_SET_BUDGET` (0x0D11). -/
def opSluiceSetBudget : Op :=
  { need := fun _ => 16, states := powerStates
    params := fun h _ =>
      let p := h.cmd.params
      [(0, [0, 2, 4].all (fun i => decide (1 ≤ u16 p i) && decide (u16 p i ≤ 1000))), (1, [6, 8, 10].all (fun i => decide (u16 p i ≤ 1000))), (2, 1 ≤ u16 p 12 && u16 p 12 ≤ 10000), (3, zeroAt p 14 2)]
    run := fun h s =>
      let p := h.cmd.params
      .done 0 [] { s with sluice := { s.sluice with budget := { vdd := u16 p 0, av := u16 p 2, vdds := u16 p 4 }, reserve := { vdd := u16 p 6, av := u16 p 8, vdds := u16 p 10 }, timeout := u16 p 12 } } }

/-- `POWER_WAKE` (0x0D12). -/
def opPowerWake : Op :=
  { need := fun _ => 4, states := powerStates, bcast := fun _ => true
    params := fun h _ => [(0, u32 h.cmd.params 0 ≤ 3600000)]
    run := fun h s =>
      let s := s.setPower (fun w => { w with holdTo := max w.holdTo (s.now + 1000000 * u32 h.cmd.params 0) })
      if s.sys.hub = .dormant then .accepted [] (s.setPower (fun w => { w with wakes := w.wakes ++ [h.serial] })) else .done 0 [] s }

/-- The entries of group 0x0D by operation (table "Group 0x0D commands"). -/
def powerOps (n : Nat) : Option Op :=
  match n with
  | 0x01 => some { need := fun _ => 0, states := allStates, run := fun h s => .done 0 (s.powerStatus h.serial) s }
  | 0x02 => some { need := fun _ => 4, states := allStates, params := fun h _ => [(1, zeroAt h.cmd.params 1 3)]
                   run := fun h s => .done 0 s.sluice.status (if u8 h.cmd.params 0 = 1 then { s with sluice := { s.sluice with grants := 0, timeouts := 0, longest := 0 } } else s) }
  | 0x10 => some opPowerSetTolerance | 0x11 => some opSluiceSetBudget | 0x12 => some opPowerWake
  | _ => none

end Sys2Proof.Machine
end

