-- ==== Sys2Proof/Machine/SafeIsland.lean ====
section
/-! DEFINITION. The safety island (chapter 17): inputs, outputs, readback and off-pulse tests, reset, the parameter set, the EVENT entries of class 3, and the operations of group 0x0E. -/
namespace Sys2Proof.Machine

open Sys2Proof

/-- Changes the safety island. -/
def State.setSafety (s : State) (f : Safety → Safety) : State := { s with safety := f s.safety }

/-- A safety channel. -/
def Safety.chan (x : Safety) (c : SafeCh) : SafeChan := match c with | .a => x.a | .b => x.b

/-- Changes a safety channel. -/
def State.setSafe (s : State) (c : SafeCh) (f : SafeChan → SafeChan) : State :=
  s.setSafety (fun x => match c with | .a => { x with a := f x.a } | .b => { x with b := f x.b })

/-- The partner channel. -/
def SafeCh.other : SafeCh → SafeCh
  | .a => .b | .b => .a

/-- The number of a channel: 0 A, 1 B. -/
def SafeCh.num : SafeCh → Nat
  | .a => 0 | .b => 1

/-- Sets or clears bit i of a mask. -/
def setBit (m i : Nat) (v : Bool) : Nat := if v then m ||| 2 ^ i else if m.testBit i then m - 2 ^ i else m

/-- Adds 1 to a counter of `SAFETY_GET_COUNTERS`, from 0. -/
def State.countSafe (s : State) (i n : Nat) : State := s.setSafety (fun x => { x with counters := Tbl.modify 0 x.counters i (fun v => sat 32 (v + n)) })

/-! ## The parameter set (table "Safety parameter set") -/

/-- The mode of an input pair. -/
def setMode (b : Bytes) (i : Nat) : Nat := u8 b (12 + i)
/-- The filter time of an input pair, ms. -/
def setFilter (b : Bytes) (i : Nat) : Nat := u8 b (20 + i)
/-- The discrepancy time of an input pair, ms. -/
def setTime (b : Bytes) (i : Nat) : Nat := u16 b (28 + 2 * i)
/-- The input mask of an output pair. -/
def setMask (b : Bytes) (k : Nat) : Nat := u8 b (44 + k)
/-- The test pulse width of an output pair, µs. -/
def setWidth (b : Bytes) (k : Nat) : Nat := u16 b (48 + 2 * k)
/-- The test period of an output pair, s. -/
def setPeriod (b : Bytes) (k : Nat) : Nat := u8 b (56 + k)

/-- The CRC of a parameter set as a channel computes it. -/
def setCrc (b : Bytes) : Nat := crc32c ((b.take 64).drop 4)

/-- The checks of a written set, row by row (`SAFETY_WRITE`). -/
def setParams (b : Bytes) : List (Nat × Bool) :=
  let used := fun (i : Nat) => setMode b i != 0
  let out := fun (k : Nat) => setMask b k != 0
  let ins := List.range 8
  let outs := List.range 4
  [(0, u32 b 0 == setCrc b), (1, u16 b 4 == 0x5346), (2, u16 b 6 == 1), (4, ins.all (fun i => decide (setMode b i < 3))),
   (5, ins.all (fun i => if used i then 1 ≤ setFilter b i && setFilter b i ≤ 20 else setFilter b i == 0)),
   (6, ins.all (fun i => if used i then 10 ≤ setTime b i && setTime b i ≤ 2000 else setTime b i == 0)),
   (7, outs.all (fun k => ins.all (fun i => !(setMask b k).testBit i || used i))),
   (8, outs.all (fun k => if out k then 150 ≤ setWidth b k && setWidth b k ≤ 800 else setWidth b k == 0)),
   (9, outs.all (fun k => if out k then 1 ≤ setPeriod b k && setPeriod b k ≤ 60 else setPeriod b k == 0)), (10, zeroAt b 60 4)]

/-! ## What a channel judges -/

/-- The set in force, all zeros where there is none. -/
def SafeChan.params (x : SafeChan) : Bytes := x.set.getD (zeros 64)

/-- Whether an input pair is used. -/
def SafeChan.usesIn (x : SafeChan) (i : Nat) : Bool := setMode x.params i != 0

/-- Whether an output pair is used. -/
def SafeChan.usesOut (x : SafeChan) (k : Nat) : Bool := setMask x.params k != 0

/-- Whether a half of an input pair is in the run state, by its accepted level (table "Input pair modes"). -/
def halfRuns (b : Bytes) (c : SafeCh) (i : Nat) (level : Bool) : Bool :=
  match setMode b i, c with
  | 1, _ => level
  | 2, .a => level
  | 2, .b => !level
  | _, _ => false

/-- Whether the channel's own half of an input pair runs. -/
def SafeChan.ownRuns (x : SafeChan) (c : SafeCh) (i : Nat) : Bool := halfRuns x.params c i (x.levels.testBit i)

/-- Whether the partner's half runs, by its latest message; without one it does not. -/
def SafeChan.partnerRuns (x : SafeChan) (c : SafeCh) (i : Nat) : Bool := x.heard.any (fun m => halfRuns x.params (SafeCh.other c) i (m.levels.testBit i))

/-- The input pairs masked into an output pair. -/
def SafeChan.masked (x : SafeChan) (k : Nat) : List Nat := bitsOf 8 (setMask x.params k)

/-- Whether every masked input pair runs in both halves. -/
def SafeChan.allRun (x : SafeChan) (c : SafeCh) (k : Nat) : Bool := (x.masked k).all (fun i => x.ownRuns c i && x.partnerRuns c i)

/-- Whether a fault is latched for an output pair or for the channel. -/
def SafeChan.faulted (x : SafeChan) (k : Nat) : Bool := x.latches != 0 || x.readback.testBit k || (x.masked k).any (fun i => x.disc.testBit i)

/-- What the partner's latest message shows of a latch, once the partner has taken the resets that this channel has. (log 99: DEDUCED) -/
def SafeChan.told (x : SafeChan) (f : SafeMsg → Bool) : Bool := x.heard.any (fun m => f m && decide (x.partnerUsed ≤ m.used))

/-- Whether a test pulse of the channel's own runs on an output pair. -/
def SafeChan.pulsing (x : SafeChan) (k : Nat) : Bool := decide (2 ≤ Tbl.get 0 x.pulse k)

/-- Whether the channel drives an output high (R510), a pulse of its own apart. -/
def SafeChan.mayDrive (x : SafeChan) (c : SafeCh) (k : Nat) : Bool :=
  !x.held && x.set.isSome && x.usesOut k && x.allRun c k && !x.demand.testBit k && !x.faulted k && x.enable

/-- Whether an output of a channel counts as on: driven, or under a test pulse without a demand. -/
def SafeChan.isOn (x : SafeChan) (k : Nat) : Bool := x.pins.testBit k || (x.pulsing k && !x.demand.testBit k)

/-- Whether an output pair is on: both stages conduct. -/
def Safety.pairOn (x : Safety) (k : Nat) : Bool := x.a.isOn k && x.b.isOn k

/-! ## Reports to the fabric (R520) -/

/-- A class 3 EVENT entry. -/
def State.safeEvent (s : State) (code d0 d1 d2 : Nat) : State := s.arise 3 code d0 d1 d2 s.now16

/-- A channel latches a fault bit for a pair, 255 for the channel: a FAULT entry. -/
def State.safeFault (s : State) (c : SafeCh) (b pair : Nat) : State := s.safeEvent 6 (SafeCh.num c) b pair

/-- A channel-scope fault is latched (table "Safety fault latches"). -/
def State.latch (s : State) (c : SafeCh) (b : Nat) : State :=
  if (s.safety.chan c).latches.testBit b then s
  else (s.setSafe c (fun x => { x with latches := setBit x.latches b true, ccClean := if b = 2 then 0 else x.ccClean, oscClean := if b = 3 then 0 else x.oscClean, newSet := if b = 4 then false else x.newSet })).safeFault c b 255

/-- The state of a channel as the status codes it. -/
def SafeChan.code (x : SafeChan) : Nat := if x.held then 0 else if x.latches != 0 then 3 else if x.set.isNone then 1 else 2

/-- The fault latches of a channel as u16. -/
def SafeChan.latchBits (x : SafeChan) : Nat := x.latches + (if x.disc != 0 then 1 else 0) + (if x.readback != 0 then 2 else 0)

/-- The state of an output pair as the status codes it. -/
def Safety.pairCode (x : Safety) (k : Nat) : Nat :=
  if !x.a.usesOut k ∧ !x.b.usesOut k then 0
  else if x.pairOn k then (if x.a.pulsing k ∨ x.b.pulsing k then 4 else 2)
  else if x.a.faulted k ∨ x.b.faulted k then 3 else 1

/-- The result of `SAFETY_GET_STATUS` but for its time. -/
def Safety.snapshot (x : Safety) : Bytes :=
  let s := x.a.params
  let runs := fun (y : SafeChan) (c : SafeCh) => maskOf ((List.range 8).filter (fun i => y.usesIn i && y.ownRuns c i))
  let differ := maskOf ((List.range 8).filter (fun i => x.a.usesIn i && x.b.usesIn i && (x.a.ownRuns .a i != x.b.ownRuns .b i)))
  le 1 x.a.code ++ le 1 x.b.code ++ le 1 ((if x.a.enable then 1 else 0) + (if x.b.enable then 2 else 0)) ++ le 1 (if x.a.waiting.isSome then 1 else 0) ++ ((List.range 4).map (fun k => le 1 (x.pairCode k))).flatten
    ++ le 1 (runs x.a .a) ++ le 1 (runs x.b .b) ++ le 1 differ ++ le 1 (x.a.disc ||| x.b.disc) ++ le 2 x.a.latchBits ++ le 2 x.b.latchBits ++ le 4 (u32 s 8) ++ le 4 (if x.a.set.isSome then setCrc s else 0)

/-- Notes a change of status, and an output pair that has turned on (OUTPUT_ON). -/
def State.noteSafety (s : State) : State :=
  let x := s.safety
  let on := maskOf ((List.range 4).filter x.pairOn)
  let s := (List.range 4).foldl (fun (s : State) k => if on.testBit k && !x.wasOn.testBit k then s.safeEvent 2 k 0 0 else s) s
  s.setSafety (fun y => { y with wasOn := on, seen := y.snapshot, changedAt := if y.snapshot = y.seen then y.changedAt else s.now })

/-- A demand latch is set (R509). DEMAND is reported and counted by the first channel to set it. -/
def State.demandSet (s : State) (c : SafeCh) (k : Nat) : State :=
  let x := s.safety.chan c
  if x.demand.testBit k then s
  else
    let s := s.setSafe c (fun y => { y with demand := setBit y.demand k true, pulse := if Tbl.get 0 y.pulse k = 1 then Tbl.set y.pulse k 0 else y.pulse })
    if (s.safety.chan (SafeCh.other c)).demand.testBit k ∧ (s.safety.chan (SafeCh.other c)).usesOut k then s
    else (s.countSafe 0 1).safeEvent 1 k (maskOf ((x.masked k).filter (fun i => !x.ownRuns c i || !x.partnerRuns c i))) 0

/-! ## The steps of a cycle (R502) -/

/-- Input filters (R506): a level is accepted on the sample t_filter after the first that showed it, when every sample between has. -/
def SafeChan.filter (x : SafeChan) (sin : Nat) : SafeChan :=
  (List.range 8).foldl (fun (x : SafeChan) i =>
    if sin.testBit i = x.levels.testBit i then { x with counts := Tbl.set x.counts i 0 }
    else
      let n := Tbl.get 0 x.counts i + 1
      if setFilter x.params i < n then { x with counts := Tbl.set x.counts i 0, levels := setBit x.levels i (sin.testBit i) }
      else { x with counts := Tbl.set x.counts i n }) x

/-- Discrepancy (R507): the count of consecutive discrepant cycles above T latches the fault; the partner's latch is taken over; both halves in demand together allow its reset. (log 99: DEDUCED) -/
def State.discrepancy (s : State) (c : SafeCh) (i : Nat) : State :=
  let x := s.safety.chan c
  if !x.usesIn i then s
  else
    let own := x.ownRuns c i
    let part := x.partnerRuns c i
    let n := if x.heard.isSome && own != part then Tbl.get 0 x.discCount i + 1 else 0
    let s := s.setSafe c (fun y => { y with discCount := Tbl.set y.discCount i n, discShown := if !own && !part && y.disc.testBit i then setBit y.discShown i true else y.discShown })
    let told := x.told (fun m => m.disc.testBit i)
    if x.disc.testBit i ∨ !(setTime x.params i < n ∨ told) then s
    else
      let s := s.setSafe c (fun y => { y with disc := setBit y.disc i true, discShown := setBit y.discShown i false })
      (if told then s else s.countSafe 6 1).safeFault c 0 i

/-- Readback (R512): from the second cycle after a commanded change, three mismatches in a row latch READBACK. -/
def State.readback (s : State) (c : SafeCh) (k : Nat) : State :=
  let x := s.safety.chan c
  if !x.usesOut k then s
  else
    let age := min 1000 (Tbl.get 0 x.age k + 1)
    let n := if age < 2 ∨ x.pulsing k then 0 else if x.sfb.testBit k = x.cmd.testBit k then 0 else Tbl.get 0 x.misses k + 1
    let s := s.setSafe c (fun y => { y with age := Tbl.set y.age k age, misses := Tbl.set y.misses k n })
    if n < 3 ∨ x.readback.testBit k then s
    else (((s.setSafe c (fun y => { y with readback := setBit y.readback k true })).countSafe 7 1)).safeFault c 1 k

/-- The partner's messages (R503): silence of 3 cycles latches CROSS_COMPARE; fewer than 950 or more than 1,050 in 1,000 cycles latch OSCILLATOR; a mismatch of the sets in force for 3 cycles latches PARAMETER (R519). -/
def State.watchPartner (s : State) (c : SafeCh) : State :=
  let x := s.safety.chan c
  let silent := x.silent + 1
  let whole := decide (1000 ≤ x.window + 1)
  let bad := whole && (decide (x.inWindow < 950) || decide (1050 < x.inWindow))
  let differ := match x.set, x.heard.bind (·.crc) with
    | some b, some crc => if setCrc b = crc then 0 else x.differ + 1
    | _, _ => 0
  let s := s.setSafe c (fun y => { y with silent, window := if whole then 0 else y.window + 1, inWindow := if whole then 0 else y.inWindow, differ, ccClean := if 3 < silent then 0 else y.ccClean + 1, oscClean := if bad then 0 else y.oscClean + 1 })
  let s := if 3 < silent then s.latch c 2 else s
  let s := if bad then s.latch c 3 else s
  if 3 ≤ differ then s.latch c 4 else s

/-- The reset button of a channel (R516): a press from 50 ms to 3,000 ms gives a valid release edge. -/
def State.button (s : State) (c : SafeCh) (srst : Bool) : State :=
  let x := s.safety.chan c
  if srst then
    let s := s.setSafe c (fun y => { y with press := min 4000 (y.press + 1) })
    if x.press = 3000 then (s.countSafe 4 1).safeEvent 4 (SafeCh.num c) 0 0 else s
  else
    let s := s.setSafe c (fun y => { y with press := 0 })
    if x.press = 0 ∨ 3000 < x.press then s
    else if x.press < 50 then s.countSafe 3 1
    else s.setSafe c (fun y => { y with releases := y.releases + 1, releaseAge := 0 })

/-- An accepted reset on one used output pair of a channel (R517): item 1, then item 3. -/
def SafeChan.resetPair (c : SafeCh) (x : SafeChan) (k : Nat) : SafeChan :=
  let low := !x.sfb.testBit k && !(x.heard.any (fun m => m.sfb.testBit k))
  let x : SafeChan := { x with disc := (x.masked k).foldl (fun d i => if x.discShown.testBit i then setBit d i false else d) x.disc, readback := if low then setBit x.readback k false else x.readback }
  if !x.faulted k && x.allRun c k && low && x.enable then { x with demand := setBit x.demand k false } else x

/-- An accepted reset in a channel (R517). What both channels made of it is reported once the second has taken it. (log 99: DEDUCED) -/
def State.acceptReset (s : State) (c : SafeCh) : State :=
  let x := s.safety.chan c
  let l := x.latches
  let l := if 100 ≤ x.ccClean then setBit l 2 false else l
  let l := if 100 ≤ x.oscClean then setBit l 3 false else l
  let l := if x.newSet then setBit l 4 false else l
  let x := { x with latches := l, used := x.releases, partnerUsed := match x.heard with | some m => m.releases | none => x.partnerUsed }
  let outs := (List.range 4).filter x.usesOut
  let y := outs.foldl (SafeChan.resetPair c) x
  let on := maskOf (outs.filter (fun k => !y.demand.testBit k))
  let s := s.setSafe c (fun _ => y)
  let no := maskOf (outs.filter (fun k => y.demand.testBit k))
  let s := s.setSafety (fun z => match c with | .a => { z with resetA := some (on, no) } | .b => { z with resetB := some (on, no) })
  match s.safety.resetA, s.safety.resetB with
  | some (on1, no1), some (on2, no2) =>
    let refused := no1 ||| no2
    let s := ((s.countSafe 1 1).countSafe 2 (bitsOf 4 refused).length).safeEvent 3 (on1 &&& on2) refused 0
    s.setSafety (fun z => { z with resetA := none, resetB := none })
  | _, _ => s

/-- The two release edges against one another (R516, R517): both within 500 ms give a reset; one alone gives RESET_MISMATCH and nothing else. (log 99: DEDUCED) -/
def State.judgeReset (s : State) (c : SafeCh) : State :=
  let x := s.safety.chan c
  let mine := decide (x.used < x.releases)
  let theirs := x.heard.any (fun m => decide (x.partnerUsed < m.releases))
  if mine && theirs then s.acceptReset c
  else if mine then
    if x.releaseAge < 500 then s.setSafe c (fun y => { y with releaseAge := y.releaseAge + 1 })
    else ((s.setSafe c (fun y => { y with used := y.releases })).countSafe 5 1).safeEvent 5 (SafeCh.num c) 0 0
  else if theirs then
    if x.partnerAge < 500 then s.setSafe c (fun y => { y with partnerAge := y.partnerAge + 1 })
    else s.setSafe c (fun y => { y with partnerUsed := (y.heard.map (·.releases)).getD 0, partnerAge := 0 })
  else s.setSafe c (fun y => { y with partnerAge := 0 })

/-- A confirmed set comes into force in a channel when its pending set agrees with the partner's, and every output pair is off (R518, R519). -/
def State.takeSet (s : State) (c : SafeCh) : State :=
  let x := s.safety.chan c
  match s.safety.confirm, x.waiting with
  | some _, some b =>
    let agree := x.heard.any (fun m => m.pendCrc == some (setCrc b) || m.crc == some (setCrc b))
    if !agree ∨ (List.range 4).any s.safety.pairOn then s
    else s.setSafe c (fun y => { y with set := some b, waiting := none, demand := 15, counts := [], discCount := [], newSet := true, pulse := [], pulseAge := [], cmd := 0, age := [], misses := [] })
  | _, _ => s

/-- Test pulses (R513, R514): when the period has run a channel announces a pulse one cycle ahead, and starts it when the partner neither runs one nor, for channel B, has announced one on the pair. (log 100: DEDUCED) -/
def SafeChan.pulseStep (c : SafeCh) (x : SafeChan) (k : Nat) : SafeChan :=
  let theirs := x.heard.any (fun m => m.pulsing.testBit k)
  let told := x.heard.any (fun m => m.announced.testBit k)
  match Tbl.get 0 x.pulse k with
  | 0 =>
    if !x.isOn k ∨ !x.usesOut k then { x with pulseAge := Tbl.set x.pulseAge k 0 }
    else
      let n := Tbl.get 0 x.pulseAge k + 1
      let x := { x with pulseAge := Tbl.set x.pulseAge k n }
      if 1000 * setPeriod x.params k ≤ n ∧ !theirs ∧ !told ∧ x.mayDrive c k then { x with pulse := Tbl.set x.pulse k 1 } else x
  | 1 => if !x.mayDrive c k then { x with pulse := Tbl.set x.pulse k 0 } else if theirs ∨ (told ∧ c = .b) then x else { x with pulse := Tbl.set x.pulse k 2 }
  | _ => { x with pulse := Tbl.set x.pulse k 3 }

/-- The outputs that a channel commands (R510). -/
def SafeChan.command (c : SafeCh) (x : SafeChan) : SafeChan :=
  let cmd := maskOf ((List.range 4).filter (fun k => x.mayDrive c k && !x.pulsing k))
  let age := (List.range 4).foldl (fun (t : Tbl Nat) k => if cmd.testBit k = x.cmd.testBit k then t else Tbl.set t k 0) x.age
  { x with cmd, age }

/-- The message of a cycle (R503). (log 98: DESIGN CHOICE) -/
def SafeChan.message (x : SafeChan) : SafeMsg :=
  { cycle := x.cycle, levels := x.levels, souts := x.cmd, demand := x.demand, disc := x.disc, readback := x.readback, latches := x.latches, crc := x.set.map setCrc, pendCrc := x.waiting.map setCrc, releases := x.releases, used := x.used, sfb := x.sfb,
    announced := maskOf ((List.range 4).filter (fun k => Tbl.get 0 x.pulse k == 1)), pulsing := maskOf ((List.range 4).filter x.pulsing) }

/-- Demand latches of a cycle (R509). The partner's, in its latest message, sets the channel's own (R503, R515). (log 99: DEDUCED) -/
def State.demands (s : State) (c : SafeCh) : State :=
  (List.range 4).foldl (fun (s : State) k =>
    let x := s.safety.chan c
    if x.usesOut k ∧ (!x.allRun c k ∨ x.faulted k ∨ !x.enable ∨ x.told (fun m => m.demand.testBit k)) then s.demandSet c k else s) s

/-- SAFE confirmation completes once both channels hold the set in force (`SAFETY_CONFIRM`). -/
def State.settleConfirm (s : State) : State :=
  match s.safety.confirm with
  | none => s
  | some r =>
    let done := s.safety.a.waiting.isNone && s.safety.b.waiting.isNone && s.safety.a.set.isSome && s.safety.a.set == s.safety.b.set
    if !done then s
    else
      let b := s.safety.a.params
      ((s.setSafety (fun x => { x with confirm := none, writer := none })).safeEvent 8 (u32 b 8) (setCrc b) 0).finish r stOk 0 (le 4 (u32 b 8) ++ zeros 4)

/-- SAFETY_CYCLE (R502): the outputs written in the cycle before appear; the channel samples, updates, commands and sends its message. (log 98: DESIGN CHOICE) -/
def State.safetyCycle (s : State) (c : SafeCh) (sin sfb : Nat) (srst selfTestOk : Bool) : State :=
  if (s.safety.chan c).held then s
  else
    let s := s.takeSet c
    let s := s.setSafe c (fun x => SafeChan.filter { x with cycle := (x.cycle + 1) % 2 ^ 32, pins := x.cmd, sfb := sfb % 16 } (sin % 256))
    let s := s.watchPartner c
    let s := if selfTestOk then s else s.latch c 5
    let s := (List.range 8).foldl (fun (s : State) i => s.discrepancy c i) s
    let s := (List.range 4).foldl (fun (s : State) k => s.readback c k) s
    let s := (s.button c srst).judgeReset c
    let s := s.demands c
    let s := s.setSafe c (fun x => SafeChan.command c ((List.range 4).foldl (SafeChan.pulseStep c) x))
    let s := s.setSafe c (fun x => { x with out := some x.message })
    s.settleConfirm.noteSafety

/-- CROSS_COMPARE_RECEIVE: a channel takes its partner's message (R503). (log 98: DESIGN CHOICE) -/
def State.crossReceive (s : State) (c : SafeCh) : State :=
  match (s.safety.chan (SafeCh.other c)).out with
  | none => s
  | some m =>
    let s := s.setSafe (SafeCh.other c) (fun x => { x with out := none })
    if (s.safety.chan c).held then s else s.setSafe c (fun x => { x with heard := some m, silent := 0, inWindow := x.inWindow + 1, partnerUsed := if m.releases < x.partnerUsed then m.used else x.partnerUsed })

/-- TEST_PULSE_END (R513, R515): the readback sample is judged, or discarded where a demand came during the pulse; the output goes high again only when R510 still holds. (log 100: DEDUCED) -/
def State.pulseEnd (s : State) (c : SafeCh) (k : Nat) (sfbLow : Bool) : State :=
  let x := s.safety.chan c
  if x.held ∨ Tbl.get 0 x.pulse k ≠ 3 ∨ 4 ≤ k then s
  else
    let s := s.setSafe c (fun y => { y with pulse := Tbl.set y.pulse k 0, pulseAge := Tbl.set y.pulseAge k 0, age := Tbl.set y.age k 0, misses := Tbl.set y.misses k 0 })
    let s :=
      if x.demand.testBit k then s.countSafe 9 1
      else
        let s := s.countSafe 8 1
        if sfbLow ∨ x.readback.testBit k then s else (((s.setSafe c (fun y => { y with readback := setBit y.readback k true })).countSafe 7 1).safeFault c 1 k).demandSet c k
    let s := s.setSafe c (fun y => if y.mayDrive c k then { y with cmd := setBit y.cmd k true, pins := setBit y.pins k true } else { y with cmd := setBit y.cmd k false, pins := setBit y.pins k false })
    s.noteSafety

/-- A pending set is discarded (R518); a confirmation under way ends without one. (log 101: DEDUCED) -/
def State.dropSet (s : State) : State :=
  let r := s.safety.confirm
  let s := ((s.setSafe .a (fun x => { x with waiting := none })).setSafe .b (fun x => { x with waiting := none })).setSafety (fun x => { x with writer := none, confirm := none })
  match r with
  | some r => s.finish r stSafetyLocked 1 []
  | none => s

/-- SAFETY_RAIL_FAULT: the channel is held in reset and drives every output low (R504). -/
def State.railFault (s : State) (c : SafeCh) : State :=
  ((s.setSafe c (fun x => { ({} : SafeChan) with enable := x.enable })).dropSet).noteSafety

/-- SAFETY_CHANNEL_START: the channel comes out of reset with no parameter set and every demand latch set (R504, R509). -/
def State.channelStart (s : State) (c : SafeCh) : State :=
  if !(s.safety.chan c).held then s
  else (((s.setSafe c (fun x => { x with held := false })).dropSet).safeEvent 9 (SafeCh.num c) 0 0).noteSafety

/-- The level that the hub drives on the hub-enable lines (R72). -/
def State.hubEnable (s : State) : Bool := s.sys.hub != .reset && s.sys.hub != .boot && s.sys.hub != .faultHold

/-- HUB_ENABLE_CHANGE: the level that the hub drives reaches a channel; while it is low every demand latch is set (R505). -/
def State.enableChange (s : State) (c : SafeCh) (level : Bool) : State :=
  if level ≠ s.hubEnable then s
  else
    let s := s.setSafe c (fun x => { x with enable := level })
    (if level then s else (List.range 4).foldl (fun (s : State) k => if (s.safety.chan c).usesOut k then s.demandSet c k else s) s).noteSafety

/-- SAFETY_SET_PENDING_TIMEOUT: 10 s after the write reply (R518). (log 101: DEDUCED) -/
def State.setTimeout (s : State) : State :=
  if s.safety.a.waiting.isSome ∧ s.safety.confirm.isNone ∧ s.safety.writtenAt + 10000000000 ≤ s.now then s.dropSet.noteSafety else s

/-- A pending set goes with the hub's leaving READY and with the session that wrote it (R518). (log 101: DEDUCED) -/
def State.settleSafety (s : State) : State :=
  if s.safety.a.waiting.isNone ∧ s.safety.b.waiting.isNone then s
  else
    let stays := s.sys.hub == .ready && s.safety.writer.any (fun w => (s.cmds.sessions.lookup w.1).any (fun e => e.id == w.2))
    if stays then s else s.dropSet.noteSafety

/-! ## Operations of group 0x0E (R521) -/

/-- SAFETY_LOCKED detail 5: a channel in reset or with a channel-scope fault. -/
def Safety.unfit (x : Safety) : Bool := x.a.held || x.b.held || x.a.latches != 0 || x.b.latches != 0

/-- The session of a command, by slot and id. -/
def State.sessionOf (s : State) (h : Held) : Option (Nat × BitVec 32) :=
  match h.owner with
  | .session slot => (s.cmds.sessions.lookup slot).map (fun e => (slot, e.id))
  | _ => none

/-- `SAFETY_WRITE` (0x0E10). (log 101: DEDUCED) -/
def opSafetyWrite : Op :=
  { need := fun _ => 64, states := [.ready], params := fun h _ => setParams h.cmd.params
    budget := fun _ s =>
      if s.safety.unfit then some (stSafetyLocked, 5) else if (List.range 4).any s.safety.pairOn then some (stSafetyLocked, 4) else none
    run := fun h s =>
      let b := h.cmd.params
      let w := s.sessionOf h
      let n := s.safety.writes + 1
      let s := s.dropSet
      let s := ((s.setSafe .a (fun x => { x with waiting := some b })).setSafe .b (fun x => { x with waiting := some b })).setSafety (fun x => { x with writes := n, writer := w, writtenAt := s.now })
      .done 0 (le 4 (setCrc b) ++ le 4 (setCrc b) ++ le 4 n ++ zeros 4) ((s.safeEvent 7 (u32 b 8) 0 0).noteSafety) }

/-- `SAFETY_CONFIRM` (0x0E11): its reply waits until both channels hold the set in force. (log 101: DEDUCED) -/
def opSafetyConfirm : Op :=
  { need := fun _ => 8, states := [.ready]
    budget := fun h s =>
      let p := h.cmd.params
      match s.safety.a.waiting with
      | none => some (stSafetyLocked, 1)
      | some b =>
        if s.safety.confirm.isNone ∧ s.safety.writtenAt + 10000000000 ≤ s.now then some (stSafetyLocked, 1)
        else if u32 p 0 ≠ setCrc b ∨ u32 p 4 ≠ s.safety.writes % 2 ^ 32 ∨ s.safety.writer ≠ s.sessionOf h ∨ s.safety.confirm.isSome then some (stSafetyLocked, 2)
        else if s.safety.unfit then some (stSafetyLocked, 5)
        else if (List.range 4).any s.safety.pairOn then some (stSafetyLocked, 4) else none
    run := fun h s => .holds (s.setSafety (fun x => { x with confirm := some h.serial })) }

/-- The result of `SAFETY_GET_PARAMS`. -/
def Safety.readSet (x : Safety) (which : Nat) : Bytes :=
  match (if which = 0 then x.a.set else x.a.waiting), (if which = 0 then x.b.set else x.b.waiting) with
  | some a, b => a.take 64 ++ le 4 ((b.map setCrc).getD 0) ++ zeros 4
  | none, _ => zeros 72

/-- The entries of group 0x0E by operation (table "Group 0x0E commands"). -/
def safetyOps (n : Nat) : Option Op :=
  match n with
  | 0x01 => some { need := fun _ => 0, states := allStates, run := fun _ s => .done 0 (s.safety.snapshot ++ le 8 s.safety.changedAt) s }
  | 0x02 => some { need := fun _ => 4, states := allStates, params := fun h _ => [(0, u8 h.cmd.params 0 < 2), (1, zeroAt h.cmd.params 1 3)]
                   run := fun h s => .done 0 (s.safety.readSet (u8 h.cmd.params 0)) s }
  | 0x03 => some { need := fun _ => 4, states := allStates, params := fun h _ => [(1, zeroAt h.cmd.params 1 3)]
                   run := fun h s => .done 0 ((List.range 10).map (fun (i : Nat) => le 4 (Tbl.get 0 s.safety.counters i))).flatten (if u8 h.cmd.params 0 = 1 then s.setSafety (fun x => { x with counters := [] }) else s) }
  | 0x10 => some opSafetyWrite | 0x11 => some opSafetyConfirm
  | 0x12 => some { need := fun _ => 0, states := [.ready], run := fun _ s => .done 0 [] (s.dropSet.noteSafety) }
  | _ => none

end Sys2Proof.Machine
end

