-- ==== Sys2Proof/Machine/DataPath.lean ====
section
/-! DEFINITION. The crossings of the data path (chapter 01): samples into the MASH island, words into the MEM island, and what is on its way when an epoch comes. -/
namespace Sys2Proof.Machine

open Sys2Proof

/-- A sample or a hole of a pan reaches the MASH island. -/
def State.takeSample (s : State) (x : PanSample) : State :=
  if !s.running then s
  else if x.gap = 0 then s.mashInput x.ch x.index x.time x.code x.flags
  else s.mashHole x.ch x.index x.count x.time x.gap

/-- The oldest sample of a pan leaves the crossing. -/
def State.passSample (s : State) (p : Nat) : State :=
  match (s.pan p).samples with
  | [] => s
  | x :: r => ((s.notePop p).setPan p (fun q => { q with samples := r })).takeSample x

/-- SAMPLE_ARRIVAL_MASH: the next sample on a crossing into the MASH island. -/
def State.sampleArrival (s : State) (src : MashSource) : State :=
  match src with
  | .pan p =>
    if s.queueEmpty p (s.pan p).samples.length then s else s.passSample p
  | .feed => s.feedPop
  | .tap =>
    match s.kiln.taps.find? (fun e => !e.2.words.isEmpty) with
    | some e => s.tapArrival e.1
    | none => s

/-- The oldest word on the MASH → MEM crossing leaves it. -/
def State.passWord (s : State) : State :=
  match s.mash.toMem with
  | [] => s
  | w :: r => State.captureWord { (s.notePop 97) with mash := { s.mash with toMem := r } } w

/-- CAPTURE_SAMPLE: the next word on the MASH → MEM crossing. -/
def State.captureNext (s : State) : State :=
  if s.queueEmpty 97 s.mash.toMem.length then s else s.passWord

/-- What found a crossing from a pan or to MEM full enters it as room comes (R329, R330): the oldest item there has arrived by then, for the latency of the crossing bounds its stay (R13). (log 109: DEDUCED) -/
def State.boundQueues (s : State) : State :=
  let pans := s.front.pans.filterMap (fun e => if e.2.outWait.isEmpty then none else some (e.1, e.2.outWait.length))
  let s := pans.foldl (fun (s : State) e => (List.range e.2).foldl (fun (s : State) _ => ((if s.queueFull e.1 32 (s.pan e.1).samples.length then s.passSample e.1 else s).refillPan e.1)) s) s
  (List.range s.mash.outWait.length).foldl (fun (s : State) _ => (if s.queueFull 97 256 s.mash.toMem.length then s.passWord else s).refillMem) s

/-- Units whose time precedes an epoch belong to the settings before it, wherever they are when it comes (R17, R96): they pass the crossings first. -/
def State.drain (s : State) : State :=
  let s := (List.range 32).foldl (fun (s : State) p =>
    let l := (s.pan p).samples ++ (s.pan p).outWait ++ (s.pan p).holes
    l.foldl (fun (s : State) x => s.takeSample x) (s.setPan p (fun q => { q with samples := [], outWait := [], holes := [] }))) s
  let feed := s.feed.fifo.takeWhile (fun i => decide (i.time < s.now))
  let s := (s.setFeed (fun f => { f with fifo := f.fifo.drop feed.length })).feedLeave feed
  let l := s.mash.toMem ++ s.mash.outWait
  let s : State := l.foldl (fun (s : State) w => s.captureWord w) { s with mash := { s.mash with toMem := [], outWait := [] } }
  let s := (List.range 32).foldl (fun (s : State) p => (s.pan p).events.foldl (fun (s : State) _ => s.passCrossing p) s) s
  (List.range 16).foldl (fun (s : State) i => (s.edge i).queue.foldl (fun (s : State) _ => s.passStamp i) s) s

end Sys2Proof.Machine
end

