-- ==== Sys2Proof/Machine/States.lean ====
section
/-! DEFINITION. Hub states and start-up (chapter 03): resets, boot, the patch choice, firmware activation and restart, the start and the stop of sampling, the leave of FAULT_HOLD, and the operations of group 0x01 and 0x01, 0x40 and 0x41 of group 0x10. -/
namespace Sys2Proof.Machine

open Sys2Proof

/-- Changes the hub's state block. -/
def State.setSys (s : State) (f : Sys → Sys) : State := { s with sys := f s.sys }

/-! ## Reset (R81, R82, R98) -/

/-- A flash operation that a reset cuts off: the spec does not say what its region then holds. -/
def State.loseFlash (s : State) : State :=
  match s.flashRuns with
  | none => s
  | some o =>
    let n := s.sys.freeUsed
    let b := (List.range o.region.2).map (fun i => (Config.freeValue (n + i)).setWidth 8)
    (s.setSys (fun x => { x with freeUsed := n + o.region.2 })).writeFlash (s.flashAddr o.region.1) b

/-- The hub enters RESET: everything as after reset, but for what is not of the hub's own: the flash device, the safety island, the pins and inputs as they stand. A reset by STATE_RESET keeps the straps sampled (R98). (log 32: DEDUCED; 98: DESIGN CHOICE; 104: PRESUMED; 105: DESIGN CHOICE) -/
def State.hubReset (s : State) (soft : Bool) : State :=
  let s := s.loseFlash
  let a := { s.safety.a with waiting := none }
  let b := { s.safety.b with waiting := none }
  { pending := s.pending
    sys := { supervisor := s.sys.supervisor, softReset := soft, straps := s.sys.straps, freeUsed := s.sys.freeUsed }
    front := { chans := s.front.chans.map (fun (e : Nat × Chan) => (e.1, ({ input := e.2.input } : Chan))) }
    time := { trefIn := s.time.trefIn, trefErr := s.time.trefErr, trefInc := s.time.trefInc }
    twin := { dutyIn := s.twin.dutyIn, lowSince := if s.twin.dutyIn then none else some 0 }
    safety := { a, b, wasOn := s.safety.wasOn, seen := s.safety.seen }
    serial := { flash := s.serial.flash } }

/-- RESET_N_LOW: 1 µs is taken as a reset, less than 100 ns is ignored, and between them the hub may take it or not (R82). (log 33: DESIGN CHOICE) -/
def State.resetLow (s : State) (ns : Nat) (taken : Bool) : State := if 1000 ≤ ns ∨ (100 ≤ ns ∧ taken) then s.hubReset false else s

/-- RAIL_OUT_OF_REGULATION: excursions shorter than 0.5 µs are ignored (R81, R564). (log 33: DESIGN CHOICE) -/
def State.railOut (s : State) (ns : Nat) : State := if ns < 500 then s else (s.hubReset false).setSys (fun x => { x with supervisor := false })

/-- SUPERVISOR_RELEASE: every rail has been in regulation for 10 ms (R81). -/
def State.supervisorRelease (s : State) : State := if s.sys.hub = .reset then s.setSys (fun x => { x with supervisor := true }) else s

/-! ## Boot (R83 to R90) -/

/-- The value of the STRAPS register. -/
def Straps.word (x : Straps) : Nat := x.bootSrc.toNat + (if x.twinRole then 4 else 0)

/-- Whether the straps forbid the flash in boot: 0b01, and 0b11 as 0b01 (R83). -/
def Straps.romOnly (x : Straps) : Bool := x.bootSrc == 1 || x.bootSrc == 3

/-- The slot that the ROM tries next: of the valid headers not yet tried that of the higher sequence, slot 0 when they are equal (R88). -/
def State.patchCandidate (s : State) : Option Nat :=
  let ok := fun (n : Nat) => headerResult (s.slotHeader n) == 0 && !s.sys.patchTried.contains n
  if ok 0 && ok 1 then some (if u32 (s.slotHeader 0) 16 < u32 (s.slotHeader 1) 16 then 1 else 0)
  else if ok 0 then some 0 else if ok 1 then some 1 else none

/-- The choice stands where no slot is left to try (R88). -/
def State.choosePatch (s : State) : State :=
  if s.patchCandidate.isSome then s else s.setSys (fun x => { x with patch := if x.straps.bootSrc = 2 then .missing else .romOnly })

/-- LEAVE_RESET: the straps are sampled, the session ids start from a value of their own, and BOOT begins (R32, R82, R83, R88). (log 32: DEDUCED; 35: DESIGN CHOICE) -/
def State.leaveReset (s : State) (straps : Straps) (idStart : BitVec 32) (temps : List Int) : State :=
  if s.sys.hub ≠ .reset ∨ !s.sys.supervisor then s
  else
    let x := if s.sys.softReset then s.sys.straps else straps
    let s := s.setSys (fun y => { y with hub := .boot, straps := x, changedAt := s.now, softReset := false })
    let s : State := { s with cmds := { s.cmds with nextId := idStart }, front := { s.front with temps } }
    let s := s.stage
    let s := if x.bootSrc = 3 then s.logFault 0x0005 0 (Straps.word x) 0 else s
    if Straps.romOnly x then s.setSys (fun y => { y with patch := .romOnly })
    else
      let ok := fun (n : Nat) => headerResult (s.slotHeader n) == 0
      (s.setSys (fun y => { y with slotValid := (ok 0, ok 1) })).choosePatch

/-- The value of the BOOT_STATUS register. -/
def Sys.bootStatus (x : Sys) : Nat :=
  x.bootResult + (if x.slotValid.1 then 256 else 0) + (if x.slotValid.2 then 512 else 0) + (if x.firstCrcFail then 1024 else 0) + 65536 * min 65535 x.eccMapped

/-- MEMORY_SELF_TEST_END (R84): single bits are mapped to ECC and logged, and a word with two or more fails the test. The march covers cask memory, the outbound buffer and the replay buffers. (log 31: DEDUCED) -/
def State.selfTestEnd (s : State) (single double : List (Nat × Nat)) : State :=
  if s.sys.hub ≠ .boot ∨ s.sys.selfTest.isSome then s
  else
    let real := fun (e : Nat × Nat) => e.1 != 2 && decide (e.2 < storeWords e.1)
    let one := single.filter real
    let s := one.foldl (fun (s : State) e => s.logFault 0x0004 e.1 e.2 0) s
    let s := s.setSys (fun x => { x with eccMapped := x.eccMapped + one.length })
    match double.find? real with
    | some e => (s.logFault 0x00F3 e.1 e.2 0).setSys (fun x => { x with selfTest := some false })
    | none => s.setSys (fun x => { x with selfTest := some true })

/-- The failed data lanes of a die not yet mapped take the lowest unused spares, in order of failure (R11): there are four, and a lost die takes none. -/
def State.mapLanes (s : State) (d : Nat) : State :=
  let l := (Tbl.get [] s.front.laneFails d).take (if s.dieLost d then 0 else 4)
  let n := Tbl.get 0 s.front.laneMapped d
  let s := (l.drop n).zipIdx.foldl (fun (s : State) e => s.logFault 0x0010 d e.1 (n + e.2)) s
  { s with front := { s.front with laneMapped := Tbl.set s.front.laneMapped d (max n l.length) } }

/-- A half of the die-to-die link fails in BOOT: its die is lost, and both lost are a Fatal fault (R85). -/
def State.bootLost (s : State) (d cause lanes : Nat) : State := ((s.logFault 0x0011 d cause lanes).markLost d cause).bothLost

/-- D2D_LINK_BRINGUP_END (R85). (log 118: DESIGN CHOICE) -/
def State.bringupEnd (s : State) (d : Nat) (locked : Bool) (failed : List Nat) : State :=
  if s.sys.hub ≠ .boot ∨ 2 ≤ d ∨ (s.sys.d2dUp.lookup d).isSome then s
  else
    let l := (failed.filter (fun i => decide (i < 58))).eraseDups
    let ok := locked && decide (l.length ≤ 4)
    let s := s.setSys (fun x => { x with d2dUp := x.d2dUp ++ [(d, ok)] })
    if ok then State.mapLanes { s with front := { s.front with laneFails := Tbl.set s.front.laneFails d l } } d
    else if 4 < l.length then s.bootLost d 1 l.length
    else s.bootLost d 2 0

/-- PATCH_READ_END: the body of the slot tried is judged; after a failure the other slot is tried (R88). -/
def State.patchReadEnd (s : State) : State :=
  if s.sys.hub ≠ .boot ∨ s.sys.patch ≠ .unread then s
  else match s.patchCandidate with
    | none => s
    | some n =>
      if (s.verifySlot n).1 = 0 then s.setSys (fun x => { x with patch := .slot n })
      else (s.setSys (fun x => { x with firstCrcFail := x.firstCrcFail || x.patchTried.isEmpty, patchTried := x.patchTried ++ [n] })).choosePatch

/-- The EVENT streams open as the hub enters DISCOVER (R310, R342). (log 60: DEDUCED) -/
def State.openEvents (s : State) : State :=
  (List.range 16).foldl (fun (s : State) c => let (u, l) := s.sizes (streamKey 6 c); s.openStream (streamKey 6 c) 5 { first := s.now, epoch := s.now } u l) s

/-- The boot result code (table "Boot result codes"). (log 31: DEDUCED) -/
def Sys.result (x : Sys) : Nat :=
  if x.selfTest = some false then 0x11
  else if !x.d2dUp.any (·.2) then 0x12
  else match x.patch with
    | .missing => 0x10
    | .slot n => n + 1
    | _ => if Straps.romOnly x.straps then 0 else 3

/-- BOOT_COMPLETE (R73, R88, R90): once the self-test, both halves of the die-to-die link and the choice of the patch stand. (log 31: DEDUCED) -/
def State.bootComplete (s : State) : State :=
  let x := s.sys
  if x.hub ≠ .boot ∨ x.selfTest.isNone ∨ (x.d2dUp.lookup 0).isNone ∨ (x.d2dUp.lookup 1).isNone ∨ x.patch = .unread then s
  else
    let s := s.setSys (fun x => { x with bootResult := x.result, rdy := true })
    let s := if x.patch = .missing then s.logFault 0x00F4 0 s.sys.bootStatus 0 else s
    let s := match x.patch with
      | .slot n => s.setSys (fun y => { y with fwVersion := BitVec.ofNat 32 (u32 (s.slotHeader n) 8), fwSource := n + 1 })
      | _ => s
    if 0x10 ≤ x.result then s.go .faultHold 0x0002 else (s.go .discover 0x0001).openEvents

/-- D2D_LANE_FAILURE (R11): mapped at once before the grid is trusted, otherwise at the next grid epoch; a fifth loses the die. -/
def State.d2dFailure (s : State) (d lane : Nat) : State :=
  let l := Tbl.get [] s.front.laneFails d
  if 2 ≤ d ∨ 58 ≤ lane ∨ s.dieLost d ∨ l.contains lane ∨ s.sys.hub = .reset ∨ (s.sys.hub = .boot ∧ (s.sys.d2dUp.lookup d).isNone) then s
  else
    let l := l ++ [lane]
    let s : State := { s with front := { s.front with laneFails := Tbl.set s.front.laneFails d l } }
    if 5 ≤ l.length then
      (if s.sys.hub = .boot then (s.bootLost d 1 l.length).setSys (fun x => { x with d2dUp := x.d2dUp.map (fun (e : Nat × Bool) => if e.1 = d then (d, false) else e) })
       else s.declareLost d 1 l.length)
    else match s.sys.hub with
      | .boot | .discover | .timelock => s.mapLanes d
      | _ => s

/-! ## Firmware (R91 to R94, R100 to R102, R532) -/

/-- Whether an activation whose slot is good waits for its start; no queued command starts meanwhile (R93). (log 34: DEDUCED) -/
def State.fwWaits (s : State) : Bool := s.sys.fwChecks.any (fun c => c.activate && c.passed)

/-- FW_SLOT_VERIFY_END: the oldest verification that no flash operation holds up is judged (R101, R102, R558). -/
def State.slotVerified (s : State) : State :=
  match s.sys.fwChecks.find? (fun c => !c.passed && !s.slotBusy c.slot) with
  | none => s
  | some c =>
    let (r, b) := s.verifySlot c.slot
    let drop := s.setSys (fun x => { x with fwChecks := x.fwChecks.filter (fun d => d.ref != c.ref) })
    if !c.activate then drop.finish c.ref stOk 0 b
    else if r ≠ 0 then drop.finish c.ref stBadParam 0 b
    else s.setSys (fun x => { x with fwChecks := x.fwChecks.map (fun (d : FwCheck) => if d.ref = c.ref then { d with passed := true } else d) })

/-- Whether a command executes that has not been answered `ACCEPTED`. -/
def State.executing (s : State) : Option Held := s.cmds.held.find? (fun h => match h.phase with | .executing => true | _ => false)

/-- FIRMWARE_ACTIVATION_START: the pause begins (R91, R93). -/
def State.activationStart (s : State) : State :=
  match s.sys.fwChecks.find? (fun c => c.activate && c.passed) with
  | some c => if s.sys.fwPaused ∨ s.executing.isSome then s else s.setSys (fun x => { x with fwPaused := true, fwPausedAt := s.now, fwRestartRef := some c.ref })
  | none => s

/-- FIRMWARE_RESTART_END: the pause ends; new firmware notifies its activation (R92, R102). (log 34: DEDUCED) -/
def State.restartEnd (s : State) : State :=
  if !s.sys.fwPaused then s
  else
    let r := s.sys.fwRestartRef
    let s := s.setSys (fun x => { x with fwPaused := false, fwRestartRef := none })
    match s.sys.fwChecks.find? (fun c => some c.ref == r) with
    | none => s
    | some c =>
      let b := (s.verifySlot c.slot).2
      let s := s.setSys (fun x => { x with fwChecks := x.fwChecks.filter (fun d => d.ref != c.ref), fwVersion := BitVec.ofNat 32 (u32 b 4), fwSource := c.slot + 1, fwActivations := sat 16 (x.fwActivations + 1), fwLastAt := s.now })
      s.finish c.ref stOk 0 b

/-- WATCHDOG_EXPIRY (R532): a forced restart; the third within any 60 s is not made. (log 34: DEDUCED) -/
def State.watchdog (s : State) : State :=
  if s.sys.hub = .reset ∨ s.sys.hub = .boot ∨ s.sys.fwPaused then s
  else
    let l := s.sys.forcedRestarts.filter (fun t => decide (s.now < t + 60000000000))
    if 2 ≤ l.length then s.logFault 0x00F0 0 l.length 0
    else
      let op := match s.executing with | some h => h.opcode.toNat | none => 0
      (s.logFault 0x0063 0 (l.length + 1) op).setSys (fun x => { x with forcedRestarts := l ++ [s.now], restartCount := x.restartCount + 1, fwRestartDue := true })

/-- The sequence of a slot, 0 where its header is invalid. -/
def State.slotSequence (s : State) (n : Nat) : Nat := if headerResult (s.slotHeader n) = 0 then u32 (s.slotHeader n) 16 else 0

/-- The checks of the parameters of `FW_ACTIVATE` and `FW_VERIFY`. -/
def fwParams (h : Held) (_ : State) : List (Nat × Bool) := [(0, u8 h.cmd.params 0 < 2), (1, zeroAt h.cmd.params 1 3)]

/-- The states of `FW_ACTIVATE`. -/
def fwStates : List HubState := [.discover, .timelock, .ready, .run, .shadow]

/-- `CMD_ABORT` of a verification, or of an activation until the pause begins. -/
def abortFw (h : Held) (s : State) : Option State :=
  if s.sys.fwChecks.any (fun c => c.ref == h.serial) ∧ s.sys.fwRestartRef ≠ some h.serial then some (s.setSys (fun x => { x with fwChecks := x.fwChecks.filter (fun c => c.ref != h.serial) })) else none

/-- A verification starts, for an activation or alone. -/
def runFw (activate : Bool) (h : Held) (s : State) : Answer :=
  .accepted [] (s.setSys (fun x => { x with fwChecks := x.fwChecks ++ [{ slot := u8 h.cmd.params 0, ref := h.serial, activate, passed := false }] }))

/-- The firmware operations of group 0x10 (table "Firmware activation commands"). (log 31: DEDUCED) -/
def fwOps (n : Nat) : Option Op :=
  match n with
  | 0x01 => some { need := fun _ => 0, states := allStates
                   run := fun _ s => .done 0 (le 4 s.sys.fwVersion.toNat ++ le 1 s.sys.fwSource ++ le 1 s.sys.bootResult ++ le 2 s.sys.fwActivations ++ le 4 (s.slotSequence 0) ++ le 4 (s.slotSequence 1) ++ le 8 s.sys.fwLastAt) s }
  | 0x40 => some { need := fun _ => 4, states := fwStates, params := fwParams, abort := abortFw, run := runFw true }
  | 0x41 => some { need := fun _ => 4, states := fwStates ++ [.reconfigure, .holdover], params := fwParams, abort := abortFw, run := runFw false }
  | _ => none

/-! ## Sampling starts and stops (R96, R310, R311) -/

/-- Opens every stream that is on and has a source (R310). -/
def State.runStreams (s : State) : State :=
  let s := ((List.range 320).filter s.hasSource).foldl (fun (s : State) ch => s.beginChannel ch 1) s
  let s := (s.captureStart 1).edgeStart 1
  { s with streams := { s.streams with table := s.streams.table.map (fun (e : Nat × Stream) => (e.1, { e.2 with afterFault := false })) } }

/-- The effect of `STATE_RUN` at its epoch; a standby starts in lockstep (R440). (log 30: DEDUCED) -/
def effStateRun (_ : Nat) (_ : Bytes) (s : State) : State × Option (Nat × Nat × Bytes) :=
  if s.sys.hub = .shadow then ((s.setTwin (fun w => { w with lockstep := true })).runStreams, some (0, 0, []))
  else if s.sys.hub ≠ .ready then (s, some (stBadState, 0, []))
  else ((s.go .run 0x0030).runStreams, some (0, 0, []))

/-- Time is acquired anew; in local mode it stands. -/
def State.seekTime (s : State) : State := if s.sys.localMode then s else s.waitAgain

/-- Every stream of the hub's own that carries data ends at the present epoch, and the hub leaves its sampling state (R96, R397). A gang partner's streams end by its own records (R453). (log 30: DEDUCED) -/
def State.stopStreams (s : State) (reason : Nat) : State :=
  let s := s.asBefore (fun s =>
    let s := (s.mash.chans.map (·.1)).foldl (fun (s : State) ch => s.cutBlocks ch (fun _ => true)) s
    ((s.captureStop reason).edgeStop reason).endStreams (fun k => isData k && !partnerKey k) reason s.now)
  match s.sys.hub with
  | .run | .reconfigure => s.go .ready 0x0031
  | .holdover => s.seekTime.go .timelock 0x0082
  | .shadow => s.setTwin (fun w => { w with lockstep := false })
  | .calibrate => s.setSys (fun x => { x with calFrom := .ready })
  | _ => s

/-- The streams whose END has yet to leave. (log 37: DESIGN CHOICE) -/
def State.ending (s : State) : List Nat := (s.streams.table.filter (fun e => isData e.1 && e.2.ending && !partnerKey e.1)).map (·.1)

/-- The effect of `STATE_STOP` at its epoch: it completes after the last END record (R96). (log 30: DEDUCED; 37: DESIGN CHOICE) -/
def effStateStop (ref : Nat) (_ : Bytes) (s : State) : State × Option (Nat × Nat × Bytes) :=
  let s := s.stopStreams 1
  if s.sys.hub = .shadow then (s, some (0, 0, [])) else s.awaitEnds ref s.ending

/-- The rule of R96 for the time_ns of `STATE_RUN`, `STATE_STOP` and `FABRIC_LEAVE`. -/
def timedOp (states : List HubState) (bcast : Bool) (more : State → Bool) (effect : Nat → Bytes → State → State × Option (Nat × Nat × Bytes)) : Op :=
  { need := fun _ => 8, states, bcast := fun _ => bcast, abort := abortChange, ownGen := true, effect
    params := fun h s => [(0, timeOk h s (u64 h.cmd.params 0) && more s)]
    epoch := fun h s => some (s.epochOf (u64 h.cmd.params 0))
    run := fun h s => .accepted [] (s.addChange h (s.epochOf (u64 h.cmd.params 0))) }

/-- The effect of `FABRIC_LEAVE` at its stop epoch (R397 step 1). -/
def effFabricLeave (ref : Nat) (_ : Bytes) (s : State) : State × Option (Nat × Nat × Bytes) :=
  let s := if s.live then s.stopStreams 3 else s
  ({ s with fabric := { s.fabric with leaving := some (ref, false) } }, none)

/-- A planned leave completes once the outbound buffer and the control store are empty; once its notice has left, DETACH follows, and the hub has no address (R397 steps 2 and 3). (log 77: DEDUCED) -/
def State.settleLeave (s : State) : State :=
  match s.fabric.leaving with
  | none => s
  | some (r, true) =>
    if (s.heldOf r).isSome then s
    else
      let own := s.own
      let s := State.queueFrame { s with fabric := { s.fabric with leaving := none } } .up (frameOf 9 3 0 own 0 (le 2 own ++ le 1 0 ++ le 1 3 ++ zeros 4 ++ le 8 s.now)) none
      { s with fabric := { s.fabric with address := 0, attached := false, hops := 255 } }
  | some (r, false) =>
    let q := s.streams
    if !q.closed.isEmpty ∨ !q.buffer.isEmpty ∨ !q.control.isEmpty ∨ !q.spill.isEmpty ∨ q.table.any (fun e => e.2.current.isSome || e.2.pending.isSome) then s
    else { s with fabric := { s.fabric with leaving := some (r, true) } }.finish r stOk 0 []

/-- `FABRIC_LEAVE` (0x0912). (log 77: DEDUCED) -/
def opFabricLeave : Op :=
  timedOp [.ready, .run, .reconfigure, .holdover] false (fun s => !s.linkUp .dn0 && !s.linkUp .dn1 && !s.twin.paired && s.twin.pairRefs.isEmpty) effFabricLeave

/-! ## Leaving FAULT_HOLD (R99, R537 to R539) -/

/-- Fatal causes that are present until reset (R537). -/
def lasting (code : Nat) : Bool := code == 0x0003 || code == 0x00F2 || code == 0x00F3 || code == 0x00F4

/-- The log slot of a Fatal cause still present, if any: a lasting one, or a dead island, whose bit has not toggled for 1 ms within 1 ms of its death, and later as the island has it (R537). (log 36: DEDUCED) -/
def State.causePresent (s : State) : Option Nat × State :=
  match s.faults.log.find? (fun e => e.2.pinned && lasting e.2.code) with
  | some e => (some e.1, s)
  | none =>
    match s.faults.dead, s.faults.log.find? (fun e => e.2.pinned && e.2.code == 0x00F1) with
    | d, some e =>
      if d.isEmpty then (none, s)
      else if d.any (fun x => decide (s.now < x.2 + 1000000)) then (some e.1, s)
      else
        let (v, s) := s.free
        if v.getLsbD 0 then (some e.1, s) else (none, s)
    | _, none => (none, s)

/-- The streams of a hub in a twin mode as it leaves FAULT_HOLD: it keeps its held records, ends no stream, and takes no duty until it pairs again (R539). -/
def State.keepForPair (s : State) : State :=
  let q := s.streams
  let mine := fun (o : OutRecord) => o.raw.isEmpty && isData o.body.key
  let kept := ((q.buffer ++ q.control ++ q.spill).filter mine).foldl (fun l o => insertRecord { o with sent := none, body := { o.body with fixed := true } } l) []
  let s : State := { s with streams := { q with
    buffer := q.buffer.filter (fun o => !mine o), control := q.control.filter (fun o => !mine o), spill := q.spill.filter (fun o => !mine o)
    closed := q.closed.filter (fun r => !isData r.key)
    table := q.table.map (fun (e : Nat × Stream) => (e.1, if isData e.1 then { e.2 with isOpen := false, ending := false, current := none, pending := none } else e.2)) } }
  s.setTwin (fun w => { w with retained := w.retained ++ kept, barred := true })

/-- The streams of a hub alone as it leaves FAULT_HOLD: GAP with reason FAULT_HOLD, then END with reason 1 (R538). -/
def State.endAfterFault (s : State) : State :=
  let s := (s.capture.groups.filter (·.2.active)).foldl (fun (s : State) e => ((s.truncateCask e.1).deliverAll e.1).endReadouts e.1 true) s
  (s.streams.table.filter (fun e => e.2.isOpen && isData e.1)).foldl (fun (s : State) e => (s.endWithGap e.1 1 11 s.now true).setStream e.1 (fun x => { x with afterFault := true })) s

/-- The hub leaves FAULT_HOLD for TIMELOCK; its configuration is kept, and the Fatal entry unpinned (R99, R538). -/
def State.leaveFault (s : State) : State :=
  let s := if s.twin.mode = 0 then s.endAfterFault else s.keepForPair
  let s := (s.capture.groups.filter (·.2.active)).foldl (fun (s : State) e => (s.haltGroup e.1 1 .starved).rearmGroup e.1 true) s
  let s := s.edgeStop 1
  let s := s.setFaults (fun f => { f with fatal := none, dead := [], log := f.log.map (fun (e : Nat × LogEntry) => (e.1, { e.2 with pinned := false })) })
  s.seekTime.go .timelock 0x00F1

/-! ## Operations of group 0x01 (R95) -/

/-- The result of `STATE_GET`. -/
def State.stateResult (s : State) : Bytes :=
  let x := s.sys
  let fl := (if x.localMode then 1 else 0) + (if x.fwSource = 0 then 2 else 0) + (if x.fwChecks.any (·.activate) then 4 else 0)
  le 1 x.hub.code ++ le 1 x.old.code ++ le 2 x.reason ++ le 8 x.changedAt ++ le 2 x.configGen.toNat ++ le 1 (min 255 s.pendingConfigs.length) ++ le 1 fl

/-- The hub takes address 0x001 and its own time, on its crystal or, where one is present, on `TREF_IN` as its local source 1 (R97, R427). (log 30: DEDUCED; 113: DESIGN CHOICE) -/
def State.goLocal (s : State) : State :=
  let s := s.setSys (fun x => { x with localMode := true, localSince := 0 })
  let s : State := { s with fabric := { s.fabric with address := 1 }, cmds := { s.cmds with sessions := s.cmds.sessions.map (fun (e : Nat × Session) => (e.1, { e.2 with lastAdmit := 0 })) } }
  let s : State := { s with time := { s.time with counter := 0, phase := 9, source := if s.time.trefIn then 1 else 0 } }
  s.followLocal.go .timelock 0x0011

/-- LOCAL_TIME_LOCK (R97). -/
def State.localLock (s : State) : State := if s.sys.hub = .timelock ∧ s.sys.localMode then s.go .ready 0x0020 else s

/-- `STATE_RESET` (0x0113): the reset or the restart follows the reply (R98). -/
def opStateReset : Op :=
  { need := fun _ => 4, states := allStates, bcast := fun p => u8 p 0 == 0
    params := fun h _ => [(0, u8 h.cmd.params 0 < 2), (1, zeroAt h.cmd.params 1 3)]
    run := fun h s =>
      if u8 h.cmd.params 0 = 1 then .done 0 [] (s.setSys (fun x => { x with fwRestartDue := true }))
      else .done 0 [] { s with cmds := { s.cmds with resetAfter := some none } } }

/-- `STATE_LEAVE_FAULT` (0x0114). -/
def opStateLeaveFault : Op :=
  { need := fun _ => 0, states := [.faultHold]
    run := fun _ s =>
      match s.causePresent with
      | (some slot, s) => .stopped stInternal slot [] s
      | (none, s) => .done 0 [] s.leaveFault }

/-- The entries of group 0x01 by operation (table "Group 0x01 commands"). -/
def stateOps (n : Nat) : Option Op :=
  match n with
  | 0x01 => some { need := fun _ => 0, states := allStates, run := fun _ s => .done 0 s.stateResult s }
  | 0x02 => some { need := fun _ => 4, states := allStates, params := fun h _ => [(0, 1 ≤ u8 h.cmd.params 0 && u8 h.cmd.params 0 ≤ 16), (1, zeroAt h.cmd.params 1 3)]
                   run := fun h s => .done 0 ((s.sys.history.take (u8 h.cmd.params 0)).map transitionBytes).flatten s }
  | 0x10 => some (timedOp [.ready] true (fun _ => true) effStateRun)
  | 0x11 => some (timedOp [.run, .reconfigure, .holdover] true (fun _ => true) effStateStop)
  | 0x12 => some { need := fun _ => 0, states := [.discover], allow := fun _ s => !allPorts.any s.linkUp, run := fun _ s => .done 0 [] s.goLocal }
  | 0x13 => some opStateReset
  | 0x14 => some opStateLeaveFault
  | _ => none

end Sys2Proof.Machine
end

