-- ==== Sys2Proof/Machine/SerialPort.lean ====
section
/-! DEFINITION. The MPORT (chapter 19, R543 to R553, R561): frames, the register map, the mailbox rings, and the control registers of both serial ports. -/
namespace Sys2Proof.Machine

open Sys2Proof

/-! ## Rings (R551 to R553) -/

/-- The bytes that an entry takes in a ring. -/
def entrySize (b : Bytes) : Nat := 4 + 4 * ((b.length + 3) / 4)

/-- The bytes free in a ring of 16 KiB. -/
def ringFree (l : List Bytes) : Nat := 16384 - (l.map entrySize).sum

/-- The hub appends a packet to the reply ring, or holds it for room behind those held already (R552). -/
def State.appendReply (s : State) (b : Bytes) : State :=
  s.setSerial (fun x => if x.held.isEmpty ∧ entrySize b ≤ ringFree x.replies then { x with replies := x.replies ++ [b] } else { x with held := x.held ++ [b] })

/-- REPLY_RING_APPEND: the first held packet takes its place once the ring has room (R552). -/
def State.replyAppend (s : State) : State :=
  s.setSerial (fun x => match x.held with
    | b :: r => if entrySize b ≤ ringFree x.replies then { x with replies := x.replies ++ [b], held := r } else x
    | [] => x)

/-- FLUSH_CMD (R553). -/
def State.flushCommands (s : State) : State := 
  let s := (s.countSerial 5 s.serial.commands.length).setSerial (fun x => { x with commands := [] })
  { s with cmds := { s.cmds with arrivals := s.cmds.arrivals.map (fun a => { a with ring := 0 }) } }

/-- FLUSH_REPLY (R553). -/
def State.flushReplies (s : State) : State := (s.countSerial 7 s.serial.replies.length).setSerial (fun x => { x with replies := [] })

/-! ## The register map -/

/-- The register blocks: first and last byte of the range, and the last register. -/
def regBlocks : List (Nat × Nat × Nat) :=
  [(0x0000, 0x00FF, 0x0018), (0x0100, 0x01FF, 0x0114), (0x0200, 0x02FF, 0x020C), (0x0400, 0x07FF, 0x040C), (0x1000, 0x17FF, 0x17FC), (0x2000, 0x2FFF, 0x2FF4), (0x3000, 0x30FF, 0x301C), (0x4000, 0x4FFF, 0x4090)]

/-- The block of an address. -/
def blockOf (a : Nat) : Option (Nat × Nat × Nat) := regBlocks.find? (fun b => decide (b.1 ≤ a) && decide (a ≤ b.2.1))

/-- The length of the next reply entry, 0 when there is none. -/
def Serial.nextLength (x : Serial) : Nat := match x.replies with | b :: _ => b.length | [] => 0

/-- The status word (table "Status word"). -/
def State.statusWord (s : State) : Nat :=
  let x := s.serial
  (if x.reason = 0 then 0 else 1) + 2 * x.reason + (if x.readEnd then 16 else 0) + (if x.writeEnd then 32 else 0) + (if x.replies.isEmpty then 0 else 64)
    + (if 1044 ≤ ringFree x.commands then 128 else 0) + 256 * s.sys.hub.code + 65536 * x.nextLength

/-- The flags of a time snapshot. -/
def State.snapFlags (s : State) : Nat :=
  1 + (if s.timeLocked then 2 else 0) + (if s.time.phase = 7 ∨ s.time.phase = 8 then 4 else 0) + (if s.sys.localMode then 8 else 0) + 256 * s.time.phase

/-- TIME_SNAP_TAKE: the snapshot registers from 0x00_3004 up, latched from one GRID cycle (R561). (log 82: DEDUCED) -/
def State.takeSnap (s : State) : State :=
  let err := roundDiv (((s.time.inc : Int) - oneNs) * 100000000000) (2 ^ 40)
  let b := le 8 (s.now16 / 65536) ++ le 4 (s.now16 % 65536) ++ le 8 s.front.lastK ++ le 4 s.snapFlags ++ leInt 4 err
  s.setSerial (fun x => { x with snap := b })

/-- A register's value as a READ returns it (tables of chapter 19, R9): what holds no register, and a write-only one, reads 0. (log 32: DEDUCED; 107: DEDUCED) -/
def State.readReg (s : State) (a : Nat) : Nat :=
  let x := s.sys
  let p := s.serial
  if 0x1000 ≤ a ∧ a ≤ 0x17FC then (Tbl.get 0x00300000 s.front.results ((a - 0x1000) / 4)).toNat
  else if 0x2000 ≤ a ∧ a < 0x2FF0 then u32 ((List.range 4).map (fun i => s.calWindowByte (a + i))) 0
  else if 0x3004 ≤ a ∧ a ≤ 0x301C then u32 p.snap (a - 0x3004)
  else if 0x4000 ≤ a ∧ a < 0x4040 then Tbl.get 0 s.cmds.counters ((a - 0x4000) / 4)
  else if 0x4040 ≤ a ∧ a ≤ 0x406C then Tbl.get 0 p.counters ((a - 0x4040) / 4)
  else if 0x4080 ≤ a ∧ a ≤ 0x4090 then
    let i := (a - 0x4080) / 2
    u32 (leInt 2 (s.front.temps.getD i 0) ++ leInt 2 (s.front.temps.getD (i + 1) 0)) 0
  else match a with
    | 0x0000 => x.hubId.toNat % 2 ^ 32
    | 0x0004 => x.hubId.toNat / 2 ^ 32
    | 0x0008 => 0x0A01
    | 0x000C => x.fwVersion.toNat
    | 0x0010 => x.bootStatus
    | 0x0014 => Straps.word x.straps
    | 0x0018 => if x.orderingSB then 1 else 0
    | 0x0100 => x.hub.code + 256 * x.old.code + 65536 * x.reason
    | 0x0104 => x.configGen.toNat + (if s.configPending then 65536 else 0)
    | 0x0108 => s.fabric.address.toNat + 65536 * s.fabric.hops + (if s.fabric.attached then 2 ^ 24 else 0) + (if x.localMode then 2 ^ 25 else 0)
    | 0x010C => s.faults.highest.getD 255 + 256 * s.lostDies + (if x.hub = .faultHold then 1024 else 0) + 65536 * s.fatalCause.2
    | 0x0110 => s.faults.nextSerial
    | 0x0114 => s.fatalCause.1
    | 0x0200 => p.sp0Ctrl.toNat
    | 0x0204 => s.statusWord
    | 0x0208 => p.sp1Ctrl.toNat
    | 0x020C => (if s.flashRuns.isSome then 1 else 0) + 256 * p.status.toNat
    | 0x0400 => ringFree p.commands
    | 0x0404 => p.nextLength
    | 0x0408 => p.replies.length + (if p.held.isEmpty then 0 else 65536)
    | 0x2FF0 => s.cal.window
    | 0x2FF4 => s.calStatus
    | _ => 0

/-- The divisor field after a write: even, 12 to 240; another value leaves it. -/
def divisorAfter (old new : Nat) : Nat := if new % 2 = 0 ∧ 12 ≤ new ∧ new ≤ 240 then new else old

/-- SP0_CTRL_WRITE: a change of the master bit starts its polls anew (R550), and RDY stays low for 1 µs after any change (R549). -/
def State.writeSp0 (s : State) (v : Nat) : State :=
  s.setSerial (fun x =>
    let old := x.sp0Ctrl.toNat
    let poll := v / 65536 % 65536
    let w := v % 8 + 256 * divisorAfter (old / 256 % 256) (v / 256 % 256) + 65536 * (if 1 ≤ poll ∧ poll ≤ 1000 then poll else old / 65536)
    { x with sp0Ctrl := BitVec.ofNat 32 w, polledAt := if v % 2 = 1 ∧ old % 2 = 0 then s.now + 1000 * (w / 65536) else x.polledAt, rdyFrom := if w = old then x.rdyFrom else s.now + 1000 })

/-- SP1_CTRL_WRITE: while SP1 is busy the write waits until it is idle. (log 106: DEDUCED) -/
def State.writeSp1 (s : State) (v : Nat) : State :=
  s.setSerial (fun x =>
    let old := (x.sp1Next.getD x.sp1Ctrl).toNat
    let w := BitVec.ofNat 32 (divisorAfter (old % 256) (v % 256) + 256 * (v / 256 % 8))
    if s.flashRuns.isSome then { x with sp1Next := some w } else { x with sp1Ctrl := w, sp1Next := none })

/-- SP_CNT_CLEAR: zeroes the counters of 0x00_4040 to 0x00_406C. -/
def State.clearSerial (s : State) : State := s.setSerial (fun x => { x with counters := [] })

/-- A write to a register (R548): one without a behaviour of its own changes nothing (R9). -/
def State.writeReg (s : State) (a v : Nat) : State :=
  if 0x2000 ≤ a ∧ a < 0x2FF0 then s.calImageWindow a v
  else match a with
    | 0x0200 => s.writeSp0 v
    | 0x0208 => s.writeSp1 v
    | 0x040C =>
      let s := if v.testBit 0 then s.flushCommands else s
      if v.testBit 1 then s.flushReplies else s
    | 0x2FF0 => s.calWindow v
    | 0x3000 => if v.testBit 0 then s.takeSnap else s
    | 0x4070 => if v.testBit 0 then s.clearSerial else s
    | _ => s

/-! ## Frames (R544 to R550) -/

/-- Whether SP0 is served: neither in RESET nor in BOOT (R549). -/
def State.sp0Served (s : State) : Bool := s.sys.hub != .reset && s.sys.hub != .boot

/-- The header word. -/
def spiHeader (f : SpiFrame) : Nat := (f.words.headD 0).toNat

/-- The operation of a header: 0 NOP, 1 READ, 2 WRITE, 3 MAILBOX. -/
def headerOp (h : Nat) : Nat := h / 2 ^ 30

/-- The word count of a READ or WRITE. -/
def headerCount (h : Nat) : Nat := let n := h / 2 ^ 24 % 64; if n = 0 then 64 else n

/-- The length of a mailbox packet. -/
def headerLength (h : Nat) : Nat := h % 2048

/-- Whether a MAILBOX frame pulls. -/
def headerPulls (h : Nat) : Bool := h.testBit 29

/-- The words that a header calls for. -/
def wordsFor (h : Nat) : Nat :=
  match headerOp h with
  | 0 => 1
  | 3 => 1 + (headerLength h + 3) / 4
  | _ => 1 + headerCount h

/-- The start address of a READ or WRITE. -/
def headerAddress (h : Nat) : Nat := h % 2 ^ 24

/-- Whether a header is bad (reason 6). -/
def badHeader (h : Nat) : Bool :=
  match headerOp h with
  | 0 => h != 0
  | 3 => h / 2048 % 2 ^ 18 != 0 || (!headerPulls h && (headerLength h == 0 || 1040 < headerLength h))
  | _ => headerAddress h % 4 != 0 || (blockOf (headerAddress h)).isNone

/-- The reason for which a frame is rejected (table "Frame rejection reasons"), the first that holds; 0 for none. The first three cannot arise in master mode (R550). (log 107: DEDUCED) -/
def State.rejection (s : State) (f : SpiFrame) (master : Bool) : Nat :=
  let h := spiHeader f
  let n := headerLength h
  if !master ∧ f.bits % 32 ≠ 0 then 1
  else if !master ∧ f.words.length ≠ wordsFor h then 2
  else if !master ∧ f.rdyWasLow then 3
  else if headerOp h = 3 ∧ !headerPulls h ∧ ringFree s.serial.commands < 4 + 4 * ((n + 3) / 4) then 4
  else if headerOp h = 3 ∧ headerPulls h ∧ (s.serial.replies.isEmpty ∨ s.serial.nextLength ≠ n) then 5
  else if badHeader h then 6
  else 0

/-- A frame ends: what the next status word says of it, and the words driven. -/
def State.frameEnds (s : State) (reason : Nat) (readEnd writeEnd : Bool) (driven : List Nat) : State :=
  (s.countSerial (if reason = 0 then 0 else 1) 1).setSerial (fun x => { x with reason, readEnd, writeEnd, driven })

/-- A READ (R547, R548): each word as the register stands, zeros past the last register of the block, and the fresh bits read cleared at commit. (log 41: DEDUCED; 107: DEDUCED) -/
def State.frameRead (s : State) (h : Nat) : State :=
  let a := headerAddress h
  let last := match blockOf a with | some b => b.2.2 | none => 0
  let addrs := (List.range (headerCount h)).map (fun i => a + 4 * i)
  let past := addrs.any (fun x => decide (last < x))
  let words := addrs.map (fun x => if last < x then 0 else s.readReg x)
  let s := s.frameEnds 0 past false (s.statusWord :: words)
  let s := if past then s.countSerial 2 1 else s
  let seq := addrs.filter (fun x => decide (x ≤ last) && decide (0x1000 ≤ x) && decide (x ≤ 0x17FC))
  seq.foldl (fun (s : State) x =>
    let i := (x - 0x1000) / 4
    if (Tbl.get 0x00300000 s.front.results i).getLsbD 19 then { s with front := { s.front with results := Tbl.modify 0x00300000 s.front.results i (fun v => v &&& 0xFFF7FFFF) } } else s) s

/-- A WRITE (R546, R548): its words in order, those past the last register discarded and counted. -/
def State.frameWrite (s : State) (f : SpiFrame) (h : Nat) : State :=
  let a := headerAddress h
  let last := match blockOf a with | some b => b.2.2 | none => 0
  let l := ((f.words.drop 1).take (headerCount h)).zipIdx.map (fun e => (a + 4 * e.2, e.1.toNat))
  let out := (l.filter (fun e => decide (last < e.1))).length
  let s := s.frameEnds 0 false (out != 0) (s.statusWord :: List.replicate (headerCount h) 0)
  let s := if out = 0 then s else s.countSerial 3 out
  (l.filter (fun e => decide (e.1 ≤ last))).foldl (fun (s : State) e => s.writeReg e.1 e.2) s

/-- A push appends one packet to the command ring (R551). -/
def State.framePush (s : State) (f : SpiFrame) (h : Nat) : State :=
  let n := headerLength h
  let b := (((f.words.drop 1).map (fun (w : BitVec 32) => le 4 w.toNat)).flatten).take n
  let s := s.frameEnds 0 false false (s.statusWord :: List.replicate ((n + 3) / 4) 0)
  (s.countSerial 4 1).setSerial (fun x => { x with commands := x.commands ++ [b] })

/-- A pull returns the next reply entry and removes it (R551). -/
def State.framePull (s : State) (h : Nat) : State :=
  let b := s.serial.replies.headD []
  let s := s.frameEnds 0 false false (s.statusWord :: words32 (b ++ zeros 4) 0 ((headerLength h + 3) / 4))
  (s.countSerial 6 1).setSerial (fun x => { x with replies := x.replies.drop 1 })

/-- A frame is committed or rejected whole (R545, R546). -/
def State.frame (s : State) (f : SpiFrame) (master : Bool) : State :=
  let h := spiHeader f
  match s.rejection f master with
  | 0 =>
    match headerOp h with
    | 0 => s.frameEnds 0 false false [s.statusWord]
    | 1 => s.frameRead h
    | 2 => s.frameWrite f h
    | _ => if headerPulls h then s.framePull h else s.framePush f h
  | r => s.frameEnds r false false [s.statusWord]

/-- A frame from the host as master, of the operation that its row names: 0 NOP, 1 READ, 2 WRITE, 3 push, 4 pull. SP0 ignores it in RESET and BOOT (R549), and there is none while SP0 is master. -/
def State.slaveFrame (s : State) (f : SpiFrame) (kind : Nat) : State :=
  let h := spiHeader f
  let k := if headerOp h = 3 ∧ headerPulls h then 4 else headerOp h
  if !s.sp0Served ∨ s.serial.sp0Ctrl.getLsbD 0 ∨ (!f.words.isEmpty ∧ k ≠ kind) then s else s.frame f false

/-- MPORT_MASTER_POLL (R550): the next poll comes after the poll interval, or 1 µs after a frame that was not a NOP. (log 107: DEDUCED) -/
def State.masterPoll (s : State) (f : SpiFrame) : State :=
  if !s.sp0Served ∨ !s.serial.sp0Ctrl.getLsbD 0 ∨ s.now < s.serial.polledAt then s
  else
    let nop := headerOp (spiHeader f) = 0
    (s.frame f true).setSerial (fun x => { x with polledAt := s.now + (if nop then 1000 * (x.sp0Ctrl.toNat / 65536) else 1000) })

/-- The level of SP0_RDY between commits: low in RESET and BOOT and for 1 µs after a change of SP0_CTRL, and high throughout in master mode (R549, R550). -/
def State.sp0Rdy (s : State) : Bool := s.sp0Served && (s.serial.sp0Ctrl.getLsbD 0 || decide (s.serial.rdyFrom ≤ s.now))

end Sys2Proof.Machine
end

