-- ==== Sys2Proof/Machine/Settings.lean ====
section
/-! DEFINITION. The settings in force as the commands that would set them: what the duty hub mirrors to a hub that joins its pair (R438). -/
namespace Sys2Proof.Machine

open Sys2Proof

/-- Runs of equal neighbours: first position, length and value. -/
def runsOf [BEq α] : List α → (i : Nat) → List (Nat × Nat × α)
  | [], _ => []
  | x :: r, i =>
    match runsOf r (i + 1) with
    | (j, n, y) :: rest => if x == y then (i, n + 1, x) :: rest else (i, 1, x) :: (j, n, y) :: rest
    | [] => [(i, 1, x)]

/-- A list cut into pieces of at most n entries, each with the position of its first. -/
def piecesOf (n : Nat) (l : List α) : List (Nat × List α) :=
  (List.range ((l.length + n - 1) / n)).map (fun i => (n * i, (l.drop (n * i)).take n))

/-- A command of settings for consecutive numbers: first, count, time 0 and one entry each, at most n of them in one packet. -/
def arraySetting (op n : Nat) (l : List Bytes) : List (Nat × Bytes) :=
  (piecesOf n l).map (fun e => (op, le 2 e.1 ++ le 2 e.2.length ++ zeros 8 ++ e.2.flatten))

/-- The settings of group 0x02. -/
def State.panSettings (s : State) : List (Nat × Bytes) :=
  let pans := List.range 32
  let on := pans.filter (fun p => (s.pan p).power != .off)
  let chans := (List.range 256).map s.chan
  (if on.isEmpty then [] else [(0x0210, le 4 (maskOf on) ++ [1] ++ zeros 11)])
    ++ arraySetting 0x0211 256 (chans.map (fun c => le 1 c.gain))
    ++ arraySetting 0x0212 256 (chans.map (fun c => le 1 (if c.filter then 1 else 0)))
    ++ pans.map (fun p => let q := (s.pan p).seq; (0x0213, le 1 p ++ le 1 q.length ++ zeros 10 ++ q ++ zeros (16 - q.length)))
    ++ pans.map (fun p => let x := s.pan p; (0x0215, le 1 p ++ le 1 x.testGain ++ leInt 2 x.testDac ++ le 1 (if x.testCheck then 1 else 0) ++ [0] ++ le 2 x.testTol ++ zeros 8))
    ++ arraySetting 0x0216 126 (chans.map Chan.compBytes)
    ++ [(0x0217, le 1 s.front.tripEnable.toNat ++ le 1 s.front.tripPolarity.toNat ++ zeros 10)]
    ++ (match s.substituted with | some p => [(0x0218, le 1 p ++ [1] ++ zeros 10)] | none => [])

/-- The settings of group 0x03. -/
def State.gridSettings (s : State) : List (Nat × Bytes) :=
  [(0x0310, le 2 s.front.gridN ++ zeros 6 ++ le 8 s.front.gridG0 ++ zeros 8)]
    ++ (List.range 32).map (fun p => (0x0312, le 4 (2 ^ p) ++ le 1 (s.pan p).log2D ++ zeros 11))
    ++ arraySetting 0x0313 256 ((List.range 256).map (fun c => leInt 1 (s.chan c).userDelay))

/-- The settings of one bank of a recipe. -/
def bankSettings (rn : Nat) (r : Recipe) (b : Bool) : List (Nat × Bytes) :=
  let k := r.bank b
  let head := le 1 rn ++ le 1 (if b then 1 else 0)
  (((List.range 4).filter r.has).map (fun i => (piecesOf 254 (k.stage (i + 1))).map (fun e => (0x0411, head ++ le 1 (i + 1) ++ [0] ++ le 2 e.1 ++ le 2 e.2.length ++ (e.2.map (leInt 4)).flatten)))).flatten
    ++ [(0x0412, head ++ zeros 2 ++ (k.shifts.map (le 1)).flatten)]

/-- The settings of one defined recipe. -/
def recipeSettings (rn : Nat) (r : Recipe) : List (Nat × Bytes) :=
  (0x0410, le 1 rn ++ le 1 r.w ++ le 1 r.k ++ le 1 r.stages.toNat ++ le 2 r.t1 ++ le 1 r.m1 ++ [0] ++ le 2 r.t2 ++ le 1 r.m2 ++ [0] ++ le 2 r.t3 ++ le 1 r.m3 ++ [0] ++ le 2 r.q ++ zeros 2)
    :: (bankSettings rn r false ++ bankSettings rn r true ++ (if r.activeB then [(0x0414, le 1 rn ++ [1] ++ le 2 1 ++ zeros 12)] else []))

/-- The settings of group 0x04. -/
def State.mashSettings (s : State) : List (Nat × Bytes) :=
  (s.mash.recipes.filter (·.2.isDefined)).flatMap (fun e => recipeSettings e.1 e.2)
    ++ arraySetting 0x0413 320 ((List.range 320).map (fun c => le 1 ((s.mchan c).recipe.getD 0xFF)))
    ++ s.mash.chans.flatMap (fun e => e.2.slots.map (fun x => let l := x.2
      (0x0416, le 2 e.1 ++ le 1 x.1 ++ le 1 l.op ++ le 1 l.source ++ le 1 (if l.incl then 1 else 0) ++ le 2 l.m ++ leInt 4 l.level ++ le 4 l.hyst ++ zeros 8)))

/-- The settings of group 0x05. -/
def State.captureSettings (s : State) : List (Nat × Bytes) :=
  let gs := s.capture.groups.filter (·.2.isDefined)
  let on := gs.filter (fun e => e.2.state != .disabled)
  gs.map (fun e => (0x0510, e.2.define))
    ++ gs.flatMap (fun e => e.2.terms.map (fun x => (0x0511, le 1 e.1 ++ x.2.bytes ++ zeros 8)))
    ++ (gs.filter (fun e => !e.2.measure.isEmpty)).map (fun e => (0x0516, le 1 e.1 ++ e.2.measure ++ zeros 8))
    ++ (if on.isEmpty then [] else [(0x0512, le 2 (maskOf (on.map (·.1))) ++ [1] ++ zeros 13)])

/-- The settings of group 0x06. -/
def State.edgeSettings (s : State) : List (Nat × Bytes) :=
  (List.range 16).flatMap (fun i => [(0x0610, le 1 i ++ (s.edge i).setting ++ zeros 8), (0x0611, le 1 i ++ (s.edge i).stream ++ zeros 8)])
    ++ (s.edges.units.filter (fun e => e.2.mode == 1)).map (fun e => (0x0612, e.2.setting.take 16 ++ zeros 8))
    ++ (s.edges.units.filter (fun e => e.2.mode == 2)).map (fun e => (0x0613, e.2.setting.take 24 ++ zeros 8))

/-- The settings of group 0x07. -/
def State.kilnSettings (s : State) : List (Nat × Bytes) :=
  let coding := fun (kind i : Nat) => let c := s.coder (settingOf kind i); le 1 kind ++ le 1 c.coding ++ le 1 c.mask ++ le 1 c.ref ++ le 2 i ++ le 2 1 ++ le 2 c.refresh ++ zeros 14
  (List.range 320).flatMap (fun i => [(0x0710, coding 0 i), (0x0710, coding 1 i)])
    ++ (List.range 16).map (fun g => (0x0710, coding 3 g))
    ++ (s.kiln.taps.filter (·.2.on)).map (fun e => let t := e.2; (0x0712, le 1 e.1 ++ [1] ++ le 2 t.chan ++ le 4 t.stream.toNat ++ le 4 t.rate ++ zeros 12))

/-- The settings of group 0x08: a feed channel's first sample lies at the first instant of its row that has yet to come. -/
def State.streamSettings (s : State) : List (Nat × Bytes) :=
  let f := s.feed
  let t := s.grid.next (s.grid.next s.now)
  let enable : Nat → List (Nat × Bytes) := fun kind => (runsOf ((List.range 320).map (s.streamOn kind)) 0).map (fun r => (0x0810, le 1 kind ++ le 1 (if r.2.2 then 1 else 0) ++ le 2 r.1 ++ le 2 r.2.1 ++ zeros 10))
  let size : Nat → Nat → List (Nat × Bytes) := fun kind n => (runsOf ((List.range n).map (fun i => Tbl.get (sizeDefault kind) s.streams.sizes (streamKey kind i))) 0).map (fun r => (0x0811, le 1 kind ++ [0] ++ le 2 r.1 ++ le 2 r.2.1 ++ le 2 r.2.2.1 ++ le 4 r.2.2.2 ++ zeros 12))
  enable 0 ++ enable 1 ++ size 0 320 ++ size 1 320 ++ size 2 320 ++ size 6 16
    ++ [(0x0814, le 1 s.streams.format ++ zeros 11), (0x0815, le 4 s.streams.spillLimit ++ zeros 4)]
    ++ (f.chans.filter (·.2.on)).map (fun e => let c := e.2; (0x0817, le 1 e.1 ++ [1] ++ le 1 c.width ++ [0] ++ le 4 c.period ++ le 8 (if c.first < t then c.first + ceilTo (t - c.first) c.period else c.first) ++ zeros 8))
    ++ [(0x0816, le 1 (if f.enabled then 1 else 0) ++ le 1 (if f.credit then 1 else 0) ++ zeros 2 ++ le 4 f.high ++ le 4 f.low ++ zeros 12)]

/-- Every setting in force (R438), and `STATE_RUN` where the hub samples. -/
def State.settings (s : State) : List (Nat × Bytes) :=
  s.gridSettings ++ s.mashSettings ++ s.panSettings ++ s.kilnSettings ++ s.streamSettings ++ s.captureSettings ++ s.edgeSettings
    ++ (if s.live then [(0x0110, zeros 8)] else [])

/-- A setting as the packet that a MIRROR carries. -/
def State.settingPacket (s : State) (e : Nat × Bytes) : Packet :=
  { opcode := BitVec.ofNat 16 e.1, cmd := { version := 3, flags := 0, tag := 0, queue := 0, paramLength := BitVec.ofNat 16 e.2.length, target := BitVec.ofNat 16 s.twin.partner, source := s.fabric.address.zeroExtend 16, sessionId := 0, params := e.2 } }

/-- Mirrors every setting in force to a hub that has joined (R438): no reply waits for these mirrors, and their MIRROR_DONE is not compared. -/
def State.mirrorSettings (s : State) : State :=
  s.settings.foldl (fun (s : State) e =>
    let n := s.twin.mirrorNo
    (s.tellTwin (4 :: le 4 n ++ packetBytes (s.settingPacket e))).setTwin (fun w => { w with mirrorNo := (n + 1) % 2 ^ 32 })) s

/-- PAIR_FORMED: the duty hub of a redundant pair then mirrors its settings (R438). -/
def State.formPair (s : State) : State :=
  let t := s.pairFormed
  if t.mirrors ∧ !s.twin.synced then t.mirrorSettings else t

end Sys2Proof.Machine
end

