-- ==== Sys2Proof/Machine/Session.lean ====
section
/-! DEFINITION. Sessions, admission and the commands of group 0x00 (chapter 02). -/
namespace Sys2Proof.Machine

open Sys2Proof

/-! ## Sessions (R30 to R38) -/

/-- Whether two packets come by the same path: the fabric, on any port, or MPORT (R31). (log 12: DESIGN CHOICE) -/
def samePath : Origin → Origin → Bool
  | .mport, .mport => true
  | .fabric _, .fabric _ => true
  | _, _ => false

/-- The open session of an id, with its slot. (log 15: DEDUCED) -/
def State.sessionById (s : State) (id : BitVec 32) : Option (Nat × Session) :=
  if id = 0 then none else s.cmds.sessions.find? (fun e => e.2.id == id)

/-- Whether a session takes a command that comes by a path from a source (R31, R65). -/
def Session.takes (x : Session) (o : Origin) (c : Cmd) : Bool :=
  samePath x.origin o && (o == .mport || x.source == c.source) && x.finishing.isNone

/-- The command that holds a tag for an owner (R34): until its final status has been sent. -/
def State.tagHolder (s : State) (owner : Owner) (tag : Byte) : Option Held :=
  s.cmds.held.find? (fun h => h.owner == owner && h.cmd.tag == tag && !(h.answered && h.replyOut.isNone))

/-- Admitted commands without final status (R35). -/
def State.incompletes (s : State) : Nat := (s.cmds.held.filter Held.incomplete).length

/-- Whether an admitted command has not started. -/
def Held.waits (h : Held) : Bool := match h.phase with | .queued => true | _ => false

/-- Ends a session (R37, R38, R66): what has not started is discarded, what has started runs on without notices. Answers how many were discarded. (log 17: DEDUCED) -/
def State.endSession (s : State) (slot : Nat) : Nat × State :=
  match s.cmds.sessions.lookup slot with
  | none => (0, s)
  | some x =>
    let mine := s.cmds.held.filter (fun h => h.ofSlot slot)
    let held := s.cmds.held.filterMap (fun h => if h.ofSlot slot then (if h.waits ∨ !h.incomplete then none else some { h with owner := .ended }) else some h)
    let s : State := { s with cmds := { s.cmds with held, sessions := Tbl.erase s.cmds.sessions slot, fences := s.cmds.fences.filter (fun e => e.1 / 8 != slot) } }
    ((mine.filter Held.waits).length, s.logFault 0x0062 slot x.label.toNat 2)

/-- SESSION_IDLE_TIMEOUT (R70), counted in fabric time. (log 113: DESIGN CHOICE) -/
def State.sessionIdle (s : State) (slot : Nat) : State :=
  match s.cmds.sessions.lookup slot with
  | none => s
  | some x =>
    if x.idleTimeout = 0 ∨ s.now < x.lastAdmit + 1000000000 * x.idleTimeout then s
    else
      let n := (s.cmds.held.filter (fun h => h.ofSlot slot && h.waits)).length
      ((s.notice slot 0x00C2 0 0 stOk 0 ([1, 0] ++ le 2 n)).endSession slot).2

/-- A session that GOODBYE finishes ends once every other admitted command of it is final (R65). -/
def State.settleGoodbye (s : State) : State :=
  (s.cmds.sessions.filter (·.2.finishing.isSome)).foldl (fun (s : State) e =>
    let r := e.2.finishing.getD 0
    if s.cmds.held.any (fun h => h.ofSlot e.1 && h.serial != r && (h.incomplete || h.owes)) then s
    else ((s.finish r stOk 0 []).endSession e.1).2) s

/-! ## Admission (R40 to R42, R55) -/

/-- Steps 3 to 7 of the table "Admission checks". -/
def shapeError (c : Cmd) (v2 : Bool) : Option (Nat × Nat) :=
  if 1024 < c.paramLength.toNat ∨ c.paramLength.toNat ≠ c.params.length then some (stMalformed, 6)
  else if 8 ≤ c.flags.toNat ∨ (v2 ∧ cmdDryRun c) then some (stMalformed, 1)
  else if 128 ≤ c.tag.toNat then some (stMalformed, 4)
  else if 8 ≤ c.queue.toNat then some (stMalformed, 5)
  else if 4096 ≤ c.target.toNat then some (stMalformed, 8)
  else if 4096 ≤ c.source.toNat then some (stMalformed, 10)
  else none

/-- Step 2: the version, against the session's where there is one. (log 15: DEDUCED) -/
def versionError (c : Cmd) (session : Option Session) : Option (Nat × Nat) :=
  let own := (session.map (fun x => x.version.toNat)).getD 3
  if (c.version ≠ 2 ∧ c.version ≠ 3) ∨ session.any (fun x => x.version != c.version) then some (stBadVersion, own) else none

/-- Steps 10 and 11: the tag, and the command slots. -/
def State.slotError (s : State) (owner : Owner) (c : Cmd) : Option (Nat × Nat) :=
  match s.tagHolder owner c.tag with
  | some h => if owner = .ended then (if 128 ≤ s.incompletes then some (stNoResource, 6) else none) else some (stTagBusy, h.cmd.queue.toNat)
  | none => if 128 ≤ s.incompletes then some (stNoResource, 6) else none

/-- The opcodes admitted without a session (R30). (log 14: DEDUCED) -/
def needsNoSession (op : BitVec 16) : Bool := op == 0x0001 || op == 0x0002

/-- Steps 2 to 11 of the table "Admission checks" (R40). -/
def State.admitError (s : State) (op : BitVec 16) (o : Origin) (c : Cmd) : Option (Nat × Nat) :=
  let ses := s.sessionById c.sessionId
  match versionError c (ses.map (·.2)) with
  | some e => some e
  | none =>
    match shapeError c (ses.any (fun e => e.2.version == 2)) with
    | some e => some e
    | none =>
      match ses.filter (fun e => e.2.takes o c) with
      | some (slot, x) => if !x.queues.getLsbD c.queue.toNat then some (stDenied, 5) else s.slotError (.session slot) c
      | none => if c.sessionId = 0 ∧ needsNoSession op then s.slotError .ended c else some (stDenied, 3)

/-- Logs a rejection at most once a second for each path and source address (R42). (log 12: DESIGN CHOICE) -/
def State.logReject (s : State) (op : BitVec 16) (o : Origin) (c : Cmd) (status : Nat) : State :=
  let src := if o = .mport then 0xFFFF else c.source.toNat
  let path := if o = .mport then Origin.mport else .fabric .up
  let same := fun (e : Origin × Nat × Nat) => e.1 == path && e.2.1 == src
  if s.cmds.lastReject.any (fun e => same e && decide (s.now < e.2.2 + 1000000000)) then s.withhold 0x0060
  else State.logFault { s with cmds := { s.cmds with lastReject := (path, src, s.now) :: s.cmds.lastReject.filter (fun e => !same e) } } 0x0060 src status op.toNat

/-- A rejected packet is answered at once (R25, R40, R42). -/
def State.rejectPacket (s : State) (op : BitVec 16) (o : Origin) (c : Cmd) (status detail : Nat) : State :=
  let s := s.count (counterOf status)
  let s := if status = stMalformed ∨ status = stBadVersion then s.logReject op o c status else s
  let version : Byte := match (s.sessionById c.sessionId).filter (fun e => e.2.takes o c) with | some e => e.2.version | none => 3
  s.emit o (replyPacket s op c version c.sessionId status detail [])

/-- Admits a command (R40): it takes its place among the admitted ones, and its session's idle timeout starts anew. A FENCE command opens the next segment of its queue (R51). -/
def State.admitCmd (s : State) (op : BitVec 16) (o : Origin) (c : Cmd) (owner : Owner) (version : Byte) (immediate : Bool) : Held × State :=
  let h : Held := { serial := s.cmds.nextSerial, owner, origin := o, opcode := op, cmd := c, version, replyId := c.sessionId, immediate, segment := 0, phase := .queued, admitted := s.now, started := 0, asked := version }
  let n := match h.line with | some q => (Tbl.get {} s.cmds.fences q).count | none => 0
  let h := { h with segment := n }
  let fences := match h.line with
    | some q => if cmdFence c then Tbl.modify {} s.cmds.fences q (fun f => { f with count := f.count + 1 }) else s.cmds.fences
    | none => s.cmds.fences
  let sessions := match owner with | .session slot => s.cmds.sessions.map (fun (e : Nat × Session) => if e.1 = slot then (slot, { e.2 with lastAdmit := s.now }) else e) | _ => s.cmds.sessions
  (h, State.count { s with cmds := { s.cmds with held := s.cmds.held ++ [h], nextSerial := s.cmds.nextSerial + 1, fences, sessions } } 0)

/-! ## Group 0x00 (R60 to R68) -/

/-- The version that `HELLO` chooses (R60). -/
def chosenVersion (lo hi : Nat) : Option Nat := if 3 < lo ∨ hi < 2 then none else some (min 3 hi)

/-- The first session id at or after the counter that may be issued (R32). -/
def sessionId (n : BitVec 32) : BitVec 32 := if n = 0 ∨ n = 0xFFFFFFFF then 1 else n

/-- The meaning of `HELLO` (R60, R64): a partial grant opens the session. The reply is the first of the new session (R25). (log 14: DEDUCED) -/
def runHello (h : Held) (s : State) : Answer :=
  let b := h.cmd.params
  match chosenVersion (u8 b 0) (u8 b 1) with
  | none => .fail stBadVersion h.version.toNat
  | some v =>
    let ses := s.cmds.sessions
    let taken := ses.foldl (fun (m : Byte) e => m ||| e.2.queues) 0
    let queues := BitVec.ofNat 8 (u8 b 2) &&& ~~~taken
    if 8 ≤ ses.length then .fail stNoResource 7
    else if queues = 0 then .fail stNoResource 8
    else
      let slot := ((List.range 8).find? (fun i => (ses.lookup i).isNone)).getD 0
      let id := sessionId s.cmds.nextId
      let lock := (u8 b 3).testBit 0 && v == 3 && !ses.any (·.2.lock)
      let notices := (u8 b 3).testBit 1
      let x : Session := { id, origin := h.origin, source := h.cmd.source, version := BitVec.ofNat 8 v, queues, lock, stateNotices := notices, idleTimeout := u16 b 4, lastAdmit := s.now, label := BitVec.ofNat 32 (u32 b 8), noticeTag := 128, finishing := none }
      let s : State := { s with cmds := { s.cmds with sessions := Tbl.set ses slot x, nextId := id + 1 } }
      let s := (s.setHeld h.serial (fun k => { k with version := x.version, replyId := id })).logFault 0x0062 slot x.label.toNat 1
      .done 0 (le 4 id.toNat ++ [x.version, queues] ++ le 1 ((if lock then 1 else 0) + (if notices then 2 else 0)) ++ le 1 s.cmds.sessions.length ++ le 8 capability ++ le 2 s.own ++ le 2 1024 ++ le 1 (128 - s.incompletes) ++ zeros 3) s

/-- The role byte of `GET_INFO`: a claiming hub has none yet. -/
def State.roleCode (s : State) : Nat := if s.twin.role = 5 then 0 else s.twin.role

/-- The result of `GET_INFO`. -/
def State.infoResult (s : State) : Bytes :=
  le 2 s.own ++ le 2 0x0A01 ++ le 4 s.sys.fwVersion.toNat ++ le 1 s.sys.hub.code ++ le 1 (if s.sys.orderingSB then 1 else 0) ++ le 1 s.roleCode
    ++ [2, 3, 2, 2, 0, 1] ++ le 1 s.cmds.sessions.length ++ le 2 s.sys.configGen.toNat ++ zeros 4 ++ le 8 s.sys.hubId.toNat ++ le 8 capability ++ le 8 s.now

/-- The slot of a command's session. -/
def Held.slot (h : Held) : Option Nat := match h.owner with | .session n => some n | _ => none

/-- The meaning of `GOODBYE` (R65, R66). -/
def runGoodbye (h : Held) (s : State) : Answer :=
  match h.slot with
  | none => .fail stDenied 3
  | some slot =>
    if u8 h.cmd.params 0 = 0 then
      .accepted [] { s with cmds := { s.cmds with sessions := s.cmds.sessions.map (fun (e : Nat × Session) => if e.1 = slot then (slot, { e.2 with finishing := some h.serial }) else e) } }
    else
      let (n, s) := s.endSession slot
      .done 0 (le 2 n ++ zeros 2) s

/-- The result of `CMD_ABORT`; with outcome 3 there is no queue and no opcode, and they read 0. (log 114: DESIGN CHOICE) -/
def abortResult (outcome : Nat) (t : Option Held) : Bytes :=
  le 1 outcome ++ (match t with | some t => [t.cmd.queue] ++ le 2 t.opcode.toNat | none => zeros 3)

/-- `CMD_ABORT` of a command that the gang partner executes (R453, `TWIN_RELAY`): the partner is asked to abort it, as abortable as it is there, and its outcome is the answer. A `CMD_ABORT` that waits so cannot itself be aborted. (log 17: DEDUCED) -/
def State.abortRelayed (s : State) (h t : Held) : Answer :=
  match s.twin.relays.find? (fun e => e.ref == t.serial) with
  | some x =>
    if t.opcode = 0x0005 ∨ !s.linkUp .twin then .done 0 (abortResult 2 (some t)) s
    else .asks (s.sendRelay { opcode := 0x0005, cmd := { h.cmd with flags := h.cmd.flags &&& 4, params := le 1 (x.key % 256) ++ zeros 3 } } h.serial ((abortResult 1 (some t)).drop 1))
  | none => .done 0 (abortResult 2 (some t)) s

/-- The meaning of `CMD_ABORT` (R67), given how an opcode's entry stops its command. A command at its final status whose notice still waits is no longer abortable, and one removed already is removed again. (log 17: DEDUCED) -/
def runAbort (stop : Held → State → Option State) (h : Held) (s : State) : Answer :=
  match s.tagHolder h.owner (h.cmd.params.getD 0 0) with
  | none => .done 0 (abortResult 3 none) s
  | some t =>
    match t.phase with
    | .queued => .done 0 (abortResult 0 (some t)) (s.setHeld t.serial (fun k => { k with removed := true }))
    | .finished _ => .done 0 (abortResult 2 (some t)) s
    | _ =>
      if s.twin.relays.any (fun e => e.ref == t.serial) then s.abortRelayed h t
      else match stop t s with
      | some s' => .done 0 (abortResult 1 (some t)) (s'.finish t.serial stAborted 1 [])
      | none => .done 0 (abortResult 2 (some t)) s

/-- The condition of a tag as `CMD_QUERY` codes it: a command at its final status that holds its tag until its reply or notice has left shows as one whose effect is pending. (log 17: DEDUCED) -/
def Held.condition (h : Held) : Nat := match h.phase with | .queued => 1 | .executing => 2 | _ => 3

/-- The result of `CMD_QUERY`: a queued command counts those of its queue before it that have not started. (log 17: DEDUCED) -/
def State.queryResult (s : State) (h : Held) : Bytes :=
  match s.tagHolder h.owner (h.cmd.params.getD 0 0) with
  | none => zeros 8
  | some t =>
    let ahead := if t.waits then (s.cmds.held.filter (fun k => decide (k.serial < t.serial) && k.waits && k.line == t.line)).length else 0
    le 1 t.condition ++ [t.cmd.queue] ++ le 2 t.opcode.toNat ++ le 2 ahead ++ zeros 2

/-- The result of `CMD_STATS`. -/
def State.statsResult (s : State) : Bytes := ((List.range 16).map (fun i => le 4 (Tbl.get 0 s.cmds.counters i))).flatten

/-- The entries of group 0x00 by operation (table "Group 0x00 commands"). -/
def sessionOps (stop : Held → State → Option State) (n : Nat) : Option Op :=
  match n with
  | 0x01 => some
    { need := fun _ => 12, states := allStates, immediate := true, run := runHello
      params := fun h _ => let b := h.cmd.params
        [(0, 1 ≤ u8 b 0), (1, u8 b 0 ≤ u8 b 1), (2, u8 b 2 != 0), (3, u8 b 3 < 4), (4, u16 b 4 ≤ 3600), (5, zeroAt b 6 2)] }
  | 0x02 => some { need := fun _ => 0, states := allStates, immediate := true, run := fun _ s => .done 0 s.infoResult s }
  | 0x03 => some { need := fun _ => 4, states := allStates, immediate := true, run := runGoodbye, params := fun h _ => [(0, u8 h.cmd.params 0 < 2), (1, zeroAt h.cmd.params 1 3)] }
  | 0x04 => some { need := fun b => b.length, states := allStates, run := fun h s => .done 0 h.cmd.params s }
  | 0x05 => some { need := fun _ => 4, states := allStates, immediate := true, run := runAbort stop, params := fun h _ => [(1, zeroAt h.cmd.params 1 1), (2, zeroAt h.cmd.params 2 2)] }
  | 0x06 => some { need := fun _ => 4, states := allStates, immediate := true, run := fun h s => .done 0 (s.queryResult h) s, params := fun h _ => [(1, zeroAt h.cmd.params 1 3)] }
  | 0x07 => some
    { need := fun _ => 4, states := allStates, immediate := true, params := fun h _ => [(1, zeroAt h.cmd.params 1 3)]
      run := fun h s => .done 0 s.statsResult (if u8 h.cmd.params 0 = 1 then { s with cmds := { s.cmds with counters := [] } } else s) }
  | _ => none

end Sys2Proof.Machine
end

