-- ==== Sys2Proof/Machine/Commands.lean ====
section
/-! DEFINITION. The command processor at work (chapter 02): the entry of every opcode, the start of a command, budgets judged over the epochs to come, the mirror and the relay of commands between twins, the queues, broadcasts, and the arrival of packets. -/
namespace Sys2Proof.Machine

open Sys2Proof

/-! ## Opcodes (R62) -/

/-- The entry of an opcode of groups 0x01 to 0x10. -/
def opOf (op : BitVec 16) : Option Op :=
  let n := op.toNat % 256
  match op.toNat / 256 with
  | 0x01 => stateOps n
  | 0x02 => panOps n
  | 0x03 => gridOps n
  | 0x04 => mashOps n
  | 0x05 => captureOps n
  | 0x06 => edgeOps n
  | 0x07 => kilnOps n
  | 0x08 => (streamOps n).or (feedOps n)
  | 0x09 => if n = 0x12 then some opFabricLeave else if n < 0x80 then fabricOps n else laneOps n
  | 0x0A => timeOps n
  | 0x0B => twinOps n
  | 0x0C => calOps n
  | 0x0D => powerOps n
  | 0x0E => safetyOps n
  | 0x0F => faultOps n
  | 0x10 => (fwOps n).or (flashOps n)
  | _ => none

/-- How `CMD_ABORT` stops a running command: one that waits for leave to open streams (R496) withdraws its request, and otherwise as its entry gives (R67). (log 17: DEDUCED) -/
def stopCmd (h : Held) (s : State) : Option State :=
  if s.sluice.normal.any (fun r => r.op == 7 && r.ref == some h.serial) then some (s.withdraw h.serial)
  else (opOf h.opcode).bind (fun op => op.abort h s)

/-- The entry of any opcode. -/
def opEntry (op : BitVec 16) : Option Op := if op.toNat < 256 then sessionOps stopCmd op.toNat else opOf op

/-- The detail of `BAD_OPCODE` (R56, R61). -/
def opcodeFault (version : Byte) (op : BitVec 16) : Option Nat :=
  if 0x10 < op.toNat / 256 then some 0
  else if (opEntry op).isNone then some 1
  else if version = 2 ∧ (op = 0x0006 ∨ op = 0x0007) then some 2
  else none

/-! ## Changes at their epoch (R17, R48, R157) -/

/-- A change takes effect: config_gen advances, unless the entry sees to that itself. -/
def State.applyChange (s : State) (c : Change) : State × Option (Nat × Nat × Bytes) :=
  match opOf c.opcode with
  | some op => op.effect c.ref c.params (if op.ownGen then s else s.nextGen)
  | none => (s, some (0, 0, []))

/-- A change of recipe of a filtered group's channels ends the conditions that the group was defined under (R216). -/
def State.afterAssign (s : State) (before : State) (opcode : BitVec 16) (p : Bytes) : State :=
  if opcode ≠ 0x0413 then s
  else
    let hit := (List.range (u16 p 2)).map (fun i => u16 p 0 + i) |>.filter (fun ch => (before.mchan ch).recipe != (s.mchan ch).recipe)
    s.captureChange (fun _ x => x.isFiltered && x.channels.any hit.contains) true

/-- A pending change takes effect, and its command completes unless a later event completes it. -/
def State.takeChange (s : State) (c : Change) : State :=
  let s : State := { s with cmds := { s.cmds with changes := s.cmds.changes.filter (·.ref != c.ref) } }
  let (t, r) := s.applyChange c
  let t := (t.afterAssign s c.opcode c.params).noteNewGen c.ref s
  match r with
  | some (st, d, b) => t.finish c.ref st d b
  | none => t

/-- The configuration changes still pending come into force at a stop epoch, and the stop's own notice waits for theirs; a swap that waits for a fade starts, since the fade has no further outputs (R78). -/
def State.bringForward (s : State) (ref : Nat) : State :=
  let l := s.cmds.changes.filter (fun d => isConfig d.opcode)
  let queued := s.mash.recipes.filterMap (fun (e : Nat × Recipe) => e.2.queued.map (·.ref))
  let s := s.setHeld ref (fun h => { h with behind := l.map (·.ref) ++ queued })
  let s := l.foldl (fun (s : State) d => s.takeChange d) s
  ((s.mash.recipes.filter (·.2.queued.isSome)).map (·.1)).foldl (fun (s : State) r => (s.cutFade r).startQueuedSwap r) s

/-- The changes of an epoch take effect in the order accepted. STATE_STOP brings the configuration changes still pending into force first (R78). -/
def State.takeChanges : List Change → State → State
  | [], s => s
  | c :: r, s =>
    if !s.cmds.changes.any (·.ref == c.ref) then s.takeChanges r
    else
      let s := if c.opcode = 0x0111 then s.bringForward c.ref else s
      (s.takeChange c).takeChanges r

/-! ## Budgets (R45 step 6) -/

/-- The first budget that does not hold: converter slots, mash array, kiln, streams. (log 20: DEDUCED) -/
def State.overBudget (s : State) (swaps : List Nat) : Option (Nat × Nat) :=
  if s.front.pans.any (fun e => e.2.power != .off && !seqFits e.2.seq (s.slots e.1)) then some (stNoResource, 1)
  else if !s.mashFits swaps then some (stNoResource, 2)
  else if !s.kilnFits then some (stNoResource, 3)
  else if 8192 < s.openStreams then some (stNoResource, 9)
  else none

/-- Fabric time as it will be when a change of a later epoch takes effect. -/
def State.atEpoch (s : State) (e : Nat) : State := { s with time := { s.time with counter := max s.time.counter (e * 2 ^ 40) } }

/-- In a trial, the fade of a recipe that will be over by time t is over, and a swap queued behind it starts at the epoch that follows (R164, R181). -/
def State.fadeBy (t : Nat) (s : State) (rn : Nat) : State :=
  let r := s.recipe rn
  let s := if r.fading ∧ r.fadeTo ≤ t then s.cutFade rn else s
  if r.queued.isSome ∧ !(s.recipe rn).fading ∧ s.grid.nextFrom r.fadeTo ≤ t then
    let u := ({ s with time := { s.time with counter := s.grid.nextFrom r.fadeTo * 2 ^ 40 } } : State).startQueuedSwap rn
    if (u.recipe rn).fading ∧ (u.recipe rn).fadeTo ≤ t then u.cutFade rn else u
  else s

/-- The state in which budgets are tried: a fade that stands still, without outputs, has no end in sight. -/
def State.trial (s : State) : State :=
  { s with mash := { s.mash with recipes := s.mash.recipes.map (fun (e : Nat × Recipe) => if e.2.fading ∧ e.2.fadeTo ≤ s.now then (e.1, { e.2 with fadeTo := 2 ^ 64 }) else e) } }

/-- Judges the budgets from an epoch on, as each later epoch's changes come into force; `swaps` are the recipes and epochs of the swaps among them. (log 20: DEDUCED) -/
def judgeChanges (s : State) (from' : Nat) (swaps : List (Nat × Nat)) : List Change → Option (Nat × Nat)
  | [] => none
  | c :: r =>
    let t := ((((s.mash.recipes.map (·.1)).foldl (fun (s : State) rn => s.fadeBy c.epoch rn) s).atEpoch c.epoch).applyChange c).1
    let last := match r with | d :: _ => d.epoch != c.epoch | [] => true
    if c.epoch < from' ∨ !last then judgeChanges t from' swaps r
    else match t.overBudget ((swaps.filter (fun e => e.2 == c.epoch)).map (·.1)) with
      | some e => some e
      | none => judgeChanges t from' swaps r

/-- The budgets of a command that makes a change, over the changes already accepted and those accepted that wait for the sluice; a definition, which has no epoch, is judged with them all (R270). (log 20: DEDUCED) -/
def State.budgetError (s : State) (op : Op) (h : Held) : Option (Nat × Nat) :=
  match op.epoch h s with
  | some e =>
    let l := insertChange (h.change e) s.foreseen
    judgeChanges s.trial e ((l.filter (fun c => c.opcode == 0x0414)).map (fun c => (u8 c.params 0, c.epoch))) l
  | none =>
    if h.opcode = 0x0510 then
      let d := h.cmd.params.take 64
      let t := s.setGroup (u8 d 0) (fun x => { x with state := .disabled, define := d })
      if !t.kilnFits then some (stNoResource, 3) else judgeChanges t.trial s.now [] s.foreseen
    else none

/-- Where the time_ns stands of a command that can open 256 or more streams at one epoch. (log 19: DEDUCED) -/
def openingTime (op : BitVec 16) : Option Nat :=
  match op.toNat with
  | 0x0110 => some 0
  | 0x0413 => some 4
  | 0x0512 => some 8
  | 0x0810 => some 8
  | 0x0816 => some 16
  | _ => none

/-- How many streams a command's change opens at its epoch. (log 19: DEDUCED) -/
def State.opens (s : State) (h : Held) (e : Nat) : Nat :=
  let before := (s.foreseen.filter (fun c => decide (c.epoch ≤ e))).foldl (fun (s : State) c => (s.applyChange c).1) s
  let after := (before.applyChange (h.change e)).1
  (after.streams.table.filter (fun x => x.2.isOpen && !(before.stream x.1).isOpen)).length

/-- A command that would open 256 or more streams at one epoch asks for leave first (R496). (log 19: DEDUCED) -/
def State.askLeave (s : State) (op : Op) (h : Held) : Option State :=
  match op.epoch h s, openingTime h.opcode with
  | some e, some i =>
    if !s.live ∧ h.opcode ≠ 0x0110 then none
    else
      let n := s.opens h e
      let t := u64 h.cmd.params i
      if n < 256 then none
      else some (s.ask 7 t { vdd := (n + 255) / 256 } false (some h.serial) (if t = 0 then none else some (e - 1000000)))
  | _, _ => none

/-! ## Twins (R440, R452) -/

/-- Where the parameters of a command hold its time_ns. -/
def timeOffset (op : BitVec 16) : Option Nat :=
  match op.toNat with
  | 0x0110 | 0x0111 => some 0
  | 0x0211 | 0x0212 | 0x0213 | 0x0216 | 0x0217 | 0x0218 | 0x0313 | 0x0413 | 0x0611 | 0x0614 | 0x0814 => some 4
  | 0x0210 | 0x0215 | 0x0311 | 0x0312 | 0x0414 | 0x0415 | 0x0512 | 0x0711 | 0x0810 => some 8
  | 0x0310 | 0x0416 | 0x0516 | 0x0610 | 0x0612 | 0x0710 | 0x0712 | 0x0811 | 0x0816 | 0x0817 => some 16
  | 0x0613 => some 24
  | 0x0511 => some 32
  | _ => none

/-- The packet of a held command as another hub of the pair executes it: a time_ns of 0 stands for the epoch that this hub takes (R440, R452). -/
def State.timedPacket (s : State) (h : Held) : Packet :=
  let b := h.cmd.params
  match timeOffset h.opcode, (opEntry h.opcode).bind (fun op => op.epoch h s) with
  | some i, some e =>
    if u64 b i = 0 ∧ (s.live ∨ h.opcode.toNat / 256 = 1 ∨ h.opcode.toNat / 256 = 3) then { opcode := h.opcode, cmd := { h.cmd with params := b.take i ++ le 8 e ++ b.drop (i + 8) } }
    else { opcode := h.opcode, cmd := h.cmd }
  | _, _ => { opcode := h.opcode, cmd := h.cmd }

/-- How a RELAY marks, in the session id that the partner ignores otherwise, a command that it is only to judge (1), and one whose time the lead has judged (2). (log 22: DEDUCED) -/
def Packet.marked (p : Packet) (m : BitVec 32) : Packet := { p with cmd := { p.cmd with sessionId := m } }

/-- Where a setting of groups 0x04 to 0x08 names the stream index of a channel. -/
def partnerIndex (op : BitVec 16) : Option Nat :=
  match op.toNat with
  | 0x0413 | 0x0415 | 0x0416 => some 0
  | 0x0711 | 0x0810 | 0x0811 => some 2
  | 0x0710 => some 4
  | _ => none

/-- Whether a setting names a gang partner's stream. -/
def Held.namesPartner (h : Held) : Bool := (partnerIndex h.opcode).any (fun i => decide (32768 ≤ u16 h.cmd.params i))

/-- A setting that names a partner stream, by the partner's own number (R453). -/
def Packet.renumbered (p : Packet) : Packet :=
  match partnerIndex p.opcode with
  | some i => if 32768 ≤ u16 p.cmd.params i then { p with cmd := { p.cmd with params := p.cmd.params.take i ++ le 2 (u16 p.cmd.params i - 32768) ++ p.cmd.params.drop (i + 2) } } else p
  | none => p

/-- Whether a command is passed to the gang partner as well as executed (R452): groups 0x01 and 0x03, the codings of the partner's streams, which the lead codes (R271), and an acknowledgement of streams of both hubs. -/
def State.passesOn (s : State) (h : Held) : Bool :=
  let n := h.opcode.toNat
  let b := h.cmd.params
  s.twin.mode == 2 && s.twin.paired && s.twin.role == 3 && s.linkUp .twin && !cmdDryRun h.cmd && h.owner != .relay
    && (((n / 256 == 1 || n / 256 == 3) && !isQuery n) || (n / 256 == 7 && h.namesPartner) || (n == 0x0812 && (List.range (u16 b 0)).any (fun i => partnerKey (u32 b (4 + 8 * i)))))

/-- The packet of a command that the lead has executed, for the partner (R452). -/
def State.passedPacket (s : State) (h : Held) : Packet := (s.timedPacket h).renumbered.marked 2

/-- A setting that names a partner stream, as the partner takes it (R452, R453): by its own number, at the epoch that the lead takes. A time that this hub's rule refuses is left for the partner to refuse. -/
def State.partnerPacket (s : State) (h : Held) : Option Packet :=
  if h.namesPartner ∧ h.opcode.toNat / 256 ≠ 7 ∧ s.twin.mode = 2 ∧ s.twin.paired ∧ s.twin.role = 3 ∧ s.linkUp .twin then
    let good := (timeOffset h.opcode).all (fun i => timeRule h s (u64 h.cmd.params i))
    some ((s.timedPacket h).renumbered.marked (if good then 2 else 0))
  else none

/-- Whether the duty hub mirrors a command (R440). -/
def State.mirrorsCmd (s : State) (h : Held) : Bool :=
  s.mirrors && isMirrored h.opcode.toNat && !cmdDryRun h.cmd && (match h.owner with | .mirror _ => false | .relay => false | _ => true)

/-- Gives a command that has passed its checks its effect; the duty hub mirrors it, and holds its `OK` for MIRROR_DONE (R440). (log 21: DEDUCED) -/
def State.perform (s : State) (h : Held) (a : Answer) : State :=
  let a := match a with | .done d r t => .done d r (t.afterAssign s h.opcode h.cmd.params) | a => a
  let s' := s.settleAnswer h a
  if !s.mirrorsCmd h then s'
  else match a with
    | .done d r t => (t.noteNewGen h.serial s).sendMirror (s.timedPacket h) h.serial stOk d r true
    | .accepted _ _ => s'.sendMirror (s.timedPacket h) h.serial stAccepted 0 [] false
    | _ => s'

/-! ## The start of a command (R45) -/

/-- Whether the duty hub's mirror brought a command. -/
def Held.mirrored (h : Held) : Bool := match h.owner with | .mirror _ => true | _ => false

/-- The lead keeps which BRINE and FILTERED streams it has enabled at its partner, for the loads of R270. -/
def State.partnerEnable (s : State) (h : Held) : State :=
  let p := h.cmd.params
  if h.opcode ≠ 0x0810 then s
  else { s with streams := { s.streams with enabled := (List.range (u16 p 4)).foldl (fun t i => Tbl.set t (streamKey (u8 p 0) (u16 p 2 + i)) (u8 p 1 == 1)) s.streams.enabled } }

/-- Starts a command whose opcode is known. A setting that names a gang partner's stream goes to the partner, once this hub's own lock and state allow it; the partner makes every check that turns on what is its own. Where they do not, bad parameters still come first, judged by what this hub knows (R45, R452). (log 21: DEDUCED; 22: DEDUCED) -/
def State.startKnown (s : State) (op : Op) (h : Held) : State :=
  let sized := h.cmd.params.length == op.need h.cmd.params
  match (s.partnerPacket h).filter (fun _ => sized) with
  | some p =>
    match stateError op h s true with
    | some (st, d) =>
      (match firstBad (op.params { h with cmd := p.cmd } s) with
       | some i => s.finish h.serial stBadParam i []
       | none => s.finish h.serial st d [])
    | none =>
      let t := s.partnerEnable h
      if s.kilnFits && !t.kilnFits then s.finish h.serial stNoResource 3 [] else t.sendRelay p h.serial []
  | none =>
    match (startError op h s).or (if h.mirrored then none else s.budgetError op h) with
    | some (st, d) => s.finish h.serial st d []
    | none =>
      let a := match s.askLeave op h with | some t => Answer.accepted [] t | none => op.run h s
      let t := s.perform h a
      if s.passesOn h then t.tellTwin (6 :: packetBytes (s.passedPacket h)) else t

/-- Starts a command: its checks, then its effect (R45). -/
def State.startCmd (s : State) (h : Held) : State :=
  let s := s.setHeld h.serial (fun k => { k with phase := .executing, started := s.now })
  let h := { h with phase := .executing, started := s.now }
  match opcodeFault h.version h.opcode, opEntry h.opcode with
  | none, some op => s.startKnown op h
  | e, _ => s.finish h.serial stBadOpcode (e.getD 1) []

/-- A command whose turn has come in its queue (R44, R51, R67): one removed ends ABORTED 1, a FENCE behind a failure ABORTED 3. (log 17: DEDUCED) -/
def State.startQueued (s : State) (h : Held) : State :=
  let failed : Bool := match h.line with | some q => (Tbl.get {} s.cmds.fences q).failed.contains h.segment | none => false
  let ends := fun (d : Nat) => (s.setHeld h.serial (fun k => { k with phase := .executing, started := s.now })).finish h.serial stAborted d []
  if h.removed then ends 1
  else if cmdFence h.cmd ∧ failed then ends 3
  else s.startCmd h

/-- A reply or notice goes on its way: into the reply ring, or in CONTROL frames; to a gang lead over TWIN, where the link is up (R20, R21, R435). -/
def State.sendReply (s : State) (e : Origin × Bytes) : State :=
  match e.1 with
  | .mport => s.appendReply e.2
  | .fabric .twin => if s.linkUp .twin then s.queuePayload .twin 1 (u16 (s.link .twin).peer 12) s.own 0 e.2 none none else s
  | .fabric p => s.queuePayload p 1 (u16 e.2 8) s.own 0 e.2 none none

/-- Replies and notices leave (R20, R21). During a firmware pause they wait. -/
def State.sendReplies (s : State) : State :=
  if s.sys.fwPaused then s
  else
    let l := s.cmds.waiting
    let s : State := { s with cmds := { s.cmds with waiting := [] } }
    l.foldl (fun (s : State) e => s.sendReply e) s

/-- Whether a packet that the hub has formed is still here: not yet on its way, held for room in the reply ring, or with its last fragment in a frame that waits at its port. -/
def State.stillHere (s : State) (e : Origin × Bytes) : Bool :=
  s.cmds.waiting.contains e ||
    (match e.1 with
     | .mport => s.serial.held.contains e.2
     | .fabric p =>
       let m := (s.link p).limit
       (s.link p).waiting.any (fun w => w.owe.isNone && w.frame.type == 1 && frameLast w.frame && w.frame.payload == slice e.2 ((max 1 ((e.2.length + m - 1) / m) - 1) * m) m))

/-- Replies and notices that have left are no longer out, and a command of which nothing more is to come is gone: its tag is free (R34). -/
def State.noteLeft (s : State) : State :=
  State.dropOver { s with cmds := { s.cmds with held := s.cmds.held.map (fun h => { h with replyOut := h.replyOut.filter s.stillHere, noticeOut := h.noticeOut.filter s.stillHere }) } }

/-- The next admitted command to start, in the order of admission: `busy` lists the queues in which an earlier command has not been answered or its reply has not left, `open'` those in which one has no final status. A FENCE command that finds one is marked, and waits for FENCE_WAIT_END. (log 18: DEDUCED) -/
def nextStart : List Held → (busy open' : List Nat) → Option (Held × Bool)
  | [], _, _ => none
  | h :: r, busy, open' =>
    match h.line with
    | none => nextStart r busy open'
    | some q =>
      let left := fun (b : List Nat) => if h.replyOut.isSome then q :: b else b
      match h.phase with
      | .finished _ => nextStart r (left busy) open'
      | .accepted => nextStart r (left busy) (q :: open')
      | .executing => nextStart r (q :: busy) (q :: open')
      | .queued =>
        if busy.contains q then nextStart r busy (q :: open')
        else if h.removed ∨ !cmdFence h.cmd then some (h, false)
        else if h.fenceWaits then nextStart r (q :: busy) (q :: open')
        else some (h, open'.contains q)

/-- Starts every command whose turn has come, each after the reply of the one before it has been sent; none while the firmware pauses or an activation waits (R44, R92, R93). (log 5: DESIGN CHOICE) -/
def State.pump : (fuel : Nat) → State → State
  | 0, s => s
  | fuel + 1, s =>
    if s.sys.fwPaused ∨ s.fwWaits then s
    else match nextStart s.cmds.held [] [] with
      | none => s
      | some (h, true) => (s.setHeld h.serial (fun k => { k with fenceWaits := true })).pump fuel
      | some (h, false) => (s.startQueued h).sendReplies.noteLeft.pump fuel

/-- FENCE_WAIT_END: the FENCE commands that wait in a queue are judged anew (R51). (log 18: DEDUCED) -/
def State.fenceEnd (s : State) (queue : Nat) : State :=
  { s with cmds := { s.cmds with held := s.cmds.held.map (fun h => if h.cmd.queue.toNat = queue then { h with fenceWaits := false } else h) } }

/-! ## Packets that arrive (R22, R40, R55) -/

/-- Whether an opcode is immediate (R43). -/
def isImmediate (op : BitVec 16) : Bool := (opEntry op).any (·.immediate)

/-- A broadcast is refused (R55). (log 16: DEDUCED) -/
def State.refuseBroadcast (s : State) (op : BitVec 16) (c : Cmd) (status : Nat) : State :=
  (s.count 11).logFault 0x0061 c.source.toNat status op.toNat

/-- A broadcast arrives (R55). (log 16: DEDUCED) -/
def State.broadcast (s : State) (op : BitVec 16) (o : Origin) (c : Cmd) : State :=
  match (versionError c none).or (shapeError c false) with
  | some (st, _) => s.refuseBroadcast op c st
  | none =>
    if c.source ≠ 0 ∨ c.sessionId ≠ 0 then s.refuseBroadcast op c stDenied
    else if !(opEntry op).any (fun e => e.bcast c.params) then s.refuseBroadcast op c stBadOpcode
    else if 128 ≤ s.incompletes then s.refuseBroadcast op c stNoResource
    else
      let (h, s) := s.admitCmd op o { c with flags := c.flags &&& 5 } .broadcast 3 true
      s.startCmd h

/-- A packet is admitted or rejected (R40); an immediate command executes on admission (R43). -/
def State.admitPacket (s : State) (op : BitVec 16) (o : Origin) (c : Cmd) : State :=
  match s.admitError op o c with
  | some (st, d) => s.rejectPacket op o c st d
  | none =>
    let ses := s.sessionById c.sessionId
    let owner : Owner := match ses with | some (slot, _) => .session slot | none => .ended
    let version : Byte := match ses with | some (_, x) => x.version | none => 3
    let (h, s) := s.admitCmd op o c owner version (isImmediate op)
    if h.immediate then s.startCmd h else s

/-- A packet reaches the command processor. -/
def State.arrive (s : State) (op : BitVec 16) (o : Origin) (c : Cmd) : State :=
  let s := s.wakeCommands
  if o ≠ .mport ∧ c.target = 0xFFF then s.broadcast op o c else s.admitPacket op o c

/-- MIRROR arrives at the standby, which executes the command at once (R440). -/
def State.mirrorArrive (s : State) (n : Nat) (p : Packet) : State :=
  if s.twin.role ≠ 2 then s
  else
    let (h, s) := s.admitCmd p.opcode (.fabric .twin) p.cmd (.mirror n) p.cmd.version true
    s.startCmd h

/-- RELAY arrives at the gang partner: its command is admitted in the session held for the lead, under every rule of chapter 02 (R42, R453, TWIN_RELAY). (log 22: DEDUCED; 88: DEDUCED) -/
def State.relayArrive (s : State) (p : Packet) : State :=
  let c := { p.cmd with target := 0, source := 0 }
  if s.twin.mode ≠ 2 ∨ !s.twin.paired then s
  else match ((versionError c none).or (shapeError c (c.version == 2))).or (s.slotError .relay c) with
    | some (st, d) =>
      let s := s.count (counterOf st)
      let s := if st = stMalformed ∨ st = stBadVersion then s.logReject p.opcode (.fabric .twin) { c with source := BitVec.ofNat 16 s.twin.partner } st else s
      s.tellLead (7 :: packetBytes (replyPacket s p.opcode c (if c.version = 2 then 2 else 3) 0 st d []))
    | none =>
      let c := if c.sessionId = 1 then { c with flags := c.flags ||| 4 } else c
      let (h, s) := s.admitCmd p.opcode (.fabric .twin) c .relay c.version (isImmediate p.opcode)
      if h.immediate then s.startCmd h else s

/-- A packet that waited comes to the command processor; its frame's credit goes back (R92). -/
def State.takeArrival (s : State) (a : Arrival) : State :=
  let s := s.payBack a.owe
  match a.owner with
  | .mirror n => s.mirrorArrive n a.packet
  | .relay => s.relayArrive a.packet
  | _ => s.arrive a.packet.opcode a.origin a.packet.cmd

/-- A packet comes in a CONTROL frame: it waits while the firmware pauses (R92). (log 23: DESIGN CHOICE) -/
def State.controlPacket (s : State) (a : Arrival) : State :=
  if s.sys.fwPaused then { s with cmds := { s.cmds with arrivals := s.cmds.arrivals ++ [{ a with ring := s.serial.commands.length }] } } else s.takeArrival a

/-- COMMAND_RING_READ (R92, R551, R552): the next entry of the command ring, none while the reply ring lacks room. -/
def State.ringRead (s : State) : State :=
  if s.sys.hub = .reset ∨ s.sys.hub = .boot ∨ s.sys.fwPaused ∨ !s.serial.held.isEmpty then s
  else match s.serial.commands with
    | [] => s
    | b :: r =>
      let s := s.setSerial (fun x => { x with commands := r })
      match packetOf b with
      | none => s.count 1
      | some p => s.arrive p.opcode .mport p.cmd

/-- Reads n entries of the command ring. -/
def State.ringReads : (n : Nat) → State → State
  | 0, s => s
  | n + 1, s => s.ringRead.ringReads n

/-- What waited for the end of the pause is admitted in the order of arrival (R92): before each packet the ring entries that came before it, `read` of which have been read. (log 23: DESIGN CHOICE) -/
def takeInOrder : List Arrival → (read : Nat) → State → State
  | [], _, s => s.ringReads s.serial.commands.length
  | a :: r, n, s => takeInOrder r (max n a.ring) ((s.ringReads (a.ring - n)).takeArrival a)

/-- The hub admits what waited for the end of the pause, the packets in CONTROL frames and the entries of the command ring (R92). (log 23: DESIGN CHOICE) -/
def State.takeArrivals (s : State) : State := takeInOrder s.cmds.arrivals 0 { s with cmds := { s.cmds with arrivals := [] } }

/-- A command packet comes to the hub (R20, R22): over MPORT it needs RDY high (R90), and stands in the command ring while earlier entries do or the hub reads none; over the fabric it needs a port whose link is up. (log 23: DESIGN CHOICE) -/
def State.packetComes (s : State) (op : BitVec 16) (o : Origin) (c : Cmd) : State :=
  let p : Packet := { opcode := op, cmd := c }
  match o with
  | .mport =>
    if s.sys.hub = .reset ∨ s.sys.hub = .boot then s
    else if s.sys.fwPaused ∨ !s.serial.held.isEmpty ∨ !s.serial.commands.isEmpty then
      (if entrySize (packetBytes p) ≤ ringFree s.serial.commands then s.setSerial (fun x => { x with commands := x.commands ++ [packetBytes p] }) else s)
    else s.arrive op .mport c
  | .fabric q => if s.sys.hub = .reset ∨ s.sys.hub = .boot ∨ !s.linkUp q then s else s.controlPacket { origin := o, owner := .ended, packet := p, owe := none }

end Sys2Proof.Machine
end

