-- ==== Sys2Proof/Machine/Messages.lean ====
section
/-! DEFINITION. Messages in PAYLOAD frames (chapters 12 and 14): assembly of fragments, delivery, forwarding, twin messages and fabric triggers. -/
namespace Sys2Proof.Machine

open Sys2Proof

/-! ## Fabric triggers (R224, R225) -/

/-- The payload of a fabric trigger message (table "Fabric trigger message"). -/
def triggerMessage (own num t16 : Nat) : Bytes := le 1 num ++ [0] ++ le 2 own ++ le 2 (t16 % 65536) ++ zeros 2 ++ le 8 (t16 / 65536)

/-- FABRIC_TRIGGER_RECEIVE: a hub ignores its own message when it comes back. -/
def State.triggerReceive (s : State) (m : Bytes) : State :=
  if u16 m 2 % 4096 = s.own ∧ s.own ≠ 0 then s else s.fabricTrigger (u8 m 0 % 64) (65536 * u64 m 8 + u16 m 4)

/-- Sends the fabric triggers of groups that have committed, on every port whose partner takes broadcast EVENT frames (R224, R387). (log 77: DEDUCED) -/
def State.sendTriggers (s : State) : State :=
  let l := s.capture.issued
  let s : State := { s with capture := { s.capture with issued := [] } }
  l.foldl (fun (s : State) e =>
    ([Port.up, .dn0, .dn1].filter s.linkUp).foldl (fun (s : State) q =>
      if (s.link q).old then s.countLink q 12 else s.queuePayload q 2 0xFFF s.own 0 (triggerMessage s.own e.1 e.2) none none) s) s

/-! ## Twin messages (R435) -/

/-- A twin message, told by its kind byte. (log 91: DEDUCED) -/
def State.twinMessage (s : State) (m : Bytes) (owe : Option (Nat × Nat × Nat)) : State :=
  let packet := fun (n : Nat) (owner : Owner) => match packetOf (m.drop n) with
    | some p => s.controlPacket { origin := .fabric .twin, owner, packet := p, owe }
    | none => s.payBack owe
  match u8 m 0 with
  | 4 => packet 5 (.mirror (u32 m 1))
  | 6 => packet 1 .relay
  | k =>
    let s := s.payBack owe
    match k with
    | 1 => s.heartbeatTake .link m
    | 2 => s.copyTake m
    | 3 => s.copyAck m
    | 5 => s.mirrorDone m
    | 7 => s.relayReply m
    | 8 => s.linkedTrigger m
    | _ => s

/-- A twin message whose row names its kind; one of another kind is not that row's. (log 91: DEDUCED) -/
def State.twinRow (s : State) (kind : Nat) (m : Bytes) : State := if u8 m 0 = kind then s.twinMessage m none else s

/-! ## Delivery and forwarding (R372, R373, R389) -/

/-- A CONTROL message for this hub is one command packet (R20); one of fewer than 16 bytes is a runt. -/
def State.deliverControl (s : State) (p : Port) (m : Bytes) (owe : Option (Nat × Nat × Nat)) : State :=
  match packetOf m with
  | none => (s.payBack owe).count 1
  | some x => s.controlPacket { origin := .fabric p, owner := .ended, packet := x, owe }

/-- A complete message of one class that arrived on a port: a record from below waits in the outbound buffer (R373), and what is for this hub or for others goes as the table "Routing" has it. A hub without an address takes and forwards nothing; a DATA record for this hub ends here, for the spec gives a hub no use of one, and a broadcast one goes on towards the root (R371). (log 74: DEDUCED) -/
def State.message (s : State) (p : Port) (cls target source hops : Nat) (m : Bytes) (owe : Option (Nat × Nat × Nat)) : State :=
  if p = .twin then (if cls = 1 then s.twinMessage m owe else s.gangRecord m owe)
  else if s.own = 0 then s.payBack owe
  else if target = s.own ∧ cls = 3 then s.payBack owe
  else if (cls = 3 ∨ (cls = 2 ∧ target ≠ 0xFFF ∧ target ≠ s.own)) ∧ isDn p then
    if 254 ≤ hops then (s.payBack owe).countLink p 11
    else
      let s := s.admitForwarded m target source hops owe false (cls == 2)
      if cls = 3 then s.copyToTaps m else s
  else
    let (mine, ports) := s.route p target
    let ports := if !s.forwards ∧ isDn p then [] else ports
    if cls = 2 then
      let s := if mine ∧ target = 0xFFF then s.triggerReceive m else s
      s.forward p 1 2 target source hops m owe ports
    else if mine then
      if ports.isEmpty then s.deliverControl p m owe
      else (s.forward p 1 1 target source hops m none ports).deliverControl p m owe
    else if ports.isEmpty then
      let s := s.payBack owe
      if p = .up ∧ s.own ≠ 0 then s.unreachable p target source else s
    else s.forward p 1 1 target source hops m owe ports

/-- PAYLOAD_RECEIVE (R372, R380): an accepted fragment joins those of its class, and the last completes the message. One of class TIME has no sequence and goes no further (R371, R378). -/
def State.payloadReceive (s : State) (p : Port) (f : Frame) : State :=
  let (ok, s) := if f.type = 1 ∧ frameClass f = 0 then (false, s.timeFrame p f 0 (fun s => s) (fun s => s)) else s.acceptFrame p f 1
  if !ok then s
  else
    let c := frameClass f
    let (b, u) := ((s.link p).frags.lookup c).getD ([], 0)
    let m := b ++ f.payload
    let units := u + frameCost f
    if frameLast f then
      State.message (s.setLink p (fun l => { l with frags := Tbl.erase l.frags c })) p c f.target.toNat f.source.toNat f.hops.toNat m (some (Port.code p, c, units))
    else s.setLink p (fun l => { l with frags := Tbl.set l.frags c (m, units) })

end Sys2Proof.Machine
end

