-- ==== Sys2Proof/Machine/Settle.lean ====
section
/-! DEFINITION. What frames every event: the passage of fabric time, grid epoch boundaries, the entry to FAULT_HOLD, and what settles by itself once an event has been taken: queues that start, waits that end, replies and messages that leave. -/
namespace Sys2Proof.Machine

open Sys2Proof

/-! ## Time -/

/-- The reset commanded has come due (R98): 100 µs after its reply left. (log 25: DEDUCED) -/
def State.resetDue (s : State) (t : Nat) : Bool := match s.cmds.resetAfter with | some (some t0) => decide (t0 + 100000 ≤ t) | _ => false

/-- What has ended by the present time ends: spot conversions whose slots are over (R141), repeats of calibration pairs (R243), the interruptions of foreground calibration (R471), and the wait for an edge of PPS_IN (R427). -/
def State.timePassed (s : State) : State := s.endSpots.endRenewals.endInterruptions.ppsAbsent

/-- Fabric time comes to t ns, and never goes back by this; in `RESET` it stands. The spot conversions whose slots are over by then have ended (R141). (log 1: DESIGN CHOICE; 6: DEDUCED) -/
def State.advanceTo (s : State) (t : Nat) : State :=
  if s.sys.hub = .reset then s
  else if s.resetDue t then s.hubReset true
  else (State.rollRate { s with time := { s.time with counter := max s.time.counter (t * 2 ^ 40) } }).timePassed

/-! ## Epoch boundaries (R17, R143, R157) -/

/-- Opens a stream anew whose instance ended by a restart or the end of a pair (R396, R448, R458). (log 30: DEDUCED) -/
def State.reopen (s : State) (key : Nat) : State :=
  let s := s.setStream key (fun x => { x with resume := false })
  let i := key % 65536
  let (u, l) := s.sizes key
  match key / 65536 with
  | 0 => s.openChannel 0 i 2
  | 1 => s.openChannel 1 i 2
  | 2 => s.openSlot (i / 4) (i % 4) 2
  | 3 =>
    let x := s.group (i / 512)
    if s.running ∧ x.active then s.openStream key 2 { width := if x.isFiltered then 24 else 18, first := s.now, period := (s.capturePeriod x.isFiltered (i % 512)).getD 0, epoch := s.now } u l else s
  | 4 => s.startStamps i 2
  | 5 =>
    if !s.running then s
    else if i < 16 then (if (s.group i).active then s.openStream key 2 { first := s.now, period := ((s.group i).channels.head?.bind (s.capturePeriod (s.group i).isFiltered)).getD 0, epoch := s.now } u l else s)
    else if (s.unit (i - 256)).mode ≠ 0 then s.openStream key 2 { index := irregular, first := s.now, epoch := s.now } u l else s
  | _ => s.openStream key 2 { first := s.now, epoch := s.now } u l

/-- The streams that open anew at the next epoch. -/
def State.resuming (s : State) : List Nat := (s.streams.table.filter (fun e => e.2.resume && !e.2.awaiting && !e.2.isOpen)).map (·.1)

/-- An unsynchronised claim of a pair that did not sample begins no stream (R448): each that it would begin awaits the watermark of its acknowledgement. (log 90: DEDUCED) -/
def State.keepClosed (s : State) : State :=
  let keys := (s.runStreams.streams.table.filter (fun x => x.2.isOpen && !(s.stream x.1).isOpen)).map (·.1)
  (keys.foldl (fun (s : State) k => s.setStream k (fun x => { x with awaiting := true, resume := true })) s).setTwin (fun w => { w with startDue := false })

/-- The streams that a duty claim is to begin ask the sluice first where they are 256 or more: a recovery request, for which the claim stands in place of a command (R446, R491, R493). (log 97: DEDUCED) -/
def State.askDuty (s : State) : State :=
  if !s.twin.startDue ∨ s.twin.startAsked then s
  else if s.twin.unsync then s.keepClosed
  else
    let n := (s.runStreams.streams.table.filter (fun x => x.2.isOpen && !(s.stream x.1).isOpen)).length
    let s := s.setTwin (fun w => { w with startAsked := true })
    if n < 256 then s else s.ask 7 0 { vdd := (n + 255) / 256 } true none none

/-- The duty hub of a pair that did not sample begins its streams (R446), once the sluice has given leave where it was asked (R491). (log 97: DEDUCED) -/
def State.startDuty (s : State) : State := if s.twin.startDue && !s.sluice.recovery.any (fun r => r.op == 7) then (s.setTwin (fun w => { w with startDue := false })).runStreams else s

/-- What a boundary brings besides the changes accepted for it. -/
def State.epochWork (s : State) : State :=
  let s := s.twinEpoch.startDuty
  let s := (s.strikeStep.mapLanes 0).mapLanes 1
  let s := s.resuming.foldl (fun (s : State) k => s.reopen k) s
  s.leaveReconfigure

/-- The START records of an epoch carry the config_gen of its last change (R157): those that joined the closed records behind the first n. -/
def State.lastGen (s : State) (n : Nat) : State :=
  { s with streams := { s.streams with closed := s.streams.closed.zipIdx.map (fun e => if n ≤ e.2 ∧ e.1.kind = 8 ∧ !e.1.fixed then { e.1 with gen := s.sys.configGen } else e.1) } }

/-- EPOCH_BOUNDARY: units before it pass the crossings, swaps that are queued start where their recipes fade no more (R181), every change accepted for it takes effect in order, streams that the lanes no longer carry go plain (R287), and what waited for an epoch happens. In `FAULT_HOLD` only failed lanes are mapped (R11). A boundary is passed once. (log 27: DEDUCED) -/
def State.epochBoundary (s : State) : State :=
  if !s.grid.isEpoch s.now ∨ s.sys.hub = .reset ∨ s.sys.hub = .boot ∨ s.front.epochAt = some s.now then s
  else
    let s : State := { s with front := { s.front with epochAt := some s.now }, sys := { s.sys with genBefore := s.sys.configGen } }
    if s.sys.hub = .faultHold then (s.mapLanes 0).mapLanes 1 else
    let s := if s.running then s.drain else s
    let s := (s.mash.recipes.map (·.1)).foldl (fun (s : State) r => s.startQueuedSwap r) s
    (((s.takeChanges (s.cmds.changes.filter (fun c => decide (c.epoch ≤ s.now)))).lastGen s.streams.closed.length).plainDown 8192).epochWork

/-! ## FAULT_HOLD (R54, R535) -/

/-- The running commands that FAULT_HOLD ends: those answered `ACCEPTED`, but for group 0x00, whose operations are legal there. (log 24: DEDUCED) -/
def State.doomed (s : State) : List Held := s.cmds.held.filter (fun h => (match h.phase with | .accepted => true | _ => false) && decide (256 ≤ h.opcode.toNat))

/-- Ends a running command, with what its chapter gives for being stopped. (log 24: DEDUCED) -/
def State.endCmd (detail : Nat) (s : State) (h : Held) : State := ((stopCmd h s).getD s).finish h.serial stAborted detail []

/-- The engines stop, and what was under way towards a record is not produced. -/
def State.freeze (s : State) : State :=
  let f := s.front
  let pans := f.pans.map (fun (e : Nat × Pan) => (e.1, { e.2 with frame := none, power := if e.2.power = .poweringUp then .off else e.2.power, powerRef := none, strobes := [], armed := [], samples := [], outWait := [], holes := [], calUntil := none, release := none }))
  let groups := s.capture.groups.map (fun (e : Nat × Group) => (e.1, { e.2 with readouts := [] }))
  let s : State := { s with
    front := { f with pans, nextSub := none, roving := match f.roving with | .loan _ => .idle | r => r }
    mash := { s.mash with toMem := [], outWait := [], recipes := s.mash.recipes.map (fun (e : Nat × Recipe) => (e.1, { e.2 with queued := none })) }
    capture := { s.capture with groups, timed := [] }
    cmds := { s.cmds with changes := [] }
    fabric := { s.fabric with leaving := none }
    streams := { s.streams with awaited := [] }
    kiln := { s.kiln with workWait := none } }
  let s := (s.setCal (fun c => { c with fore := none, rotation := none, waiting := none })).setPower (fun w => { w with wakes := [] })
  let s := (s.setTwin (fun w => { w with swap := none, swapStage := 0, startDue := false })).returnTokens (fun r => r.op == 2)
  let s := if s.kiln.job.state = 1 then (s.setJob (fun j => { j with state := 3, outcome := 4, running := false })).returnTokens (fun r => r.op == 3) else s
  (f.pans.map (·.1)).foldl (fun (s : State) p =>
    let s := match (s.pan p).spot with | some r => (s.setPan p (fun x => { x with spot := none })).finish r.ref stAborted 4 [] | none => s
    s.dropUrgent p 4 (fun _ => true)) s

/-- The hub enters FAULT_HOLD (R535): it gives up duty, its running commands end, its engines stop, and nothing of this leaves the state again. (log 24: DEDUCED) -/
def State.enterFaultHold (s : State) : State :=
  let s := (s.go .faultHold 0x00F0).dropDuty
  let s := s.doomed.foldl (fun (s : State) h => s.endCmd 4 h) s
  (s.freeze.setSys (fun x => { x with hub := .faultHold })).driveTrip

/-- A Fatal fault takes the hub to FAULT_HOLD from every state but RESET and BOOT (R77). -/
def State.checkFatal (s : State) : State :=
  if s.faults.fatal.isSome ∧ s.sys.hub ≠ .reset ∧ s.sys.hub ≠ .boot ∧ s.sys.hub ≠ .faultHold then s.enterFaultHold else s

/-! ## What settles by itself -/

/-- Commands that waited for the END records of some streams, and for the notices of the changes that a stop brought into force, complete (R78, R96, R217). (log 37: DESIGN CHOICE) -/
def State.settleAwaited (s : State) : State :=
  s.streams.awaited.foldl (fun (s : State) e =>
    if e.2.any s.endPending ∨ s.standsBehind e.1 then s
    else State.finish { s with streams := { s.streams with awaited := s.streams.awaited.filter (fun x => x.1 != e.1) } } e.1 stOk 0 []) s

/-- A swap outside sampling states starts at once, after its reply (R198); a pair that does not sample dissolves so (R458). -/
def State.settleSwaps (s : State) : State :=
  (s.cmds.changes.filter (fun c => ((c.opcode == 0x0414 && !s.live) || (c.opcode == 0x0B10 && (!s.live || s.sys.hub == .shadow))) && decide (c.epoch ≤ s.now))).foldl (fun (s : State) c => s.takeChange c) s

/-- Outside sampling states the pans of a power-up enter service at its time. -/
def State.panServiceNow (s : State) : State := s.powerUpsDue.foldl (fun (s : State) c => s.takeChange c) s

/-- The transition that the present conditions call for, if one does: a transition not taken when its condition arose is taken once the state allows it (R73, R77). Lost time comes before what makes the hub a standby. (log 30: DEDUCED) -/
def State.dueTransition (s : State) : State :=
  let lost := s.time.phase = 7 ∨ s.time.phase = 8
  let standby := s.twin.paired && s.twin.mode == 1 && s.twin.role == 2 && !s.twin.barred
  match s.sys.hub with
  | .run | .reconfigure => if lost then s.go .holdover 0x0080 else if standby then s.go .shadow 0x0060 else s
  | .ready => if lost then s.waitAgain.go .timelock 0x0083 else if standby then s.go .shadow 0x0060 else s
  | .dormant => if lost then (s.waitAgain.restoreGroups).go .timelock 0x0083 else s
  | .holdover => if standby then s.go .shadow 0x0060 else if s.time.phase = 5 then s.go .run 0x0081 else s
  | _ => s

/-- Waits whose condition has come about end. (log 5: DESIGN CHOICE) -/
def State.settleWaits (s : State) : State :=
  let s := ((s.noteLeft.runOwn 20).settleSwaps.settleAwaited.purge).settleDefine
  let s := (s.settleWorkspace.settleLeave.startWaiting.loanNext).panServiceNow
  let s := s.boundQueues.settleReadouts.settleSafety.settleConfirm.swapStep.settlePair.endPass.settleGoodbye.askDuty
  s.leaveReconfigure

/-- Whether the reply of every STATE_RESET has left. (log 25: DEDUCED) -/
def State.repliesLeft (s : State) : Bool := s.cmds.held.all (fun h => h.opcode != 0x0113 || h.replyOut.isNone)

/-- A commanded reset counts from the reply's leaving (R98). (log 25: DEDUCED) -/
def State.noteReset (s : State) : State :=
  match s.cmds.resetAfter with
  | some none => if s.repliesLeft then { s with cmds := { s.cmds with resetAfter := some (some s.now) } } else s
  | _ => s

/-- A firmware restart begins (R39, R98, R532): the executing commands end, and the pause runs. (log 24: DEDUCED) -/
def State.beginRestart (s : State) : State :=
  if !s.sys.fwRestartDue ∨ s.sys.fwPaused ∨ !s.cmds.waiting.isEmpty ∨ !s.repliesLeft then s
  else
    let l := s.cmds.held.filter (fun h => match h.phase with | .executing => true | _ => false)
    let s := s.setTwin (fun w => { w with mirrors := w.mirrors.map (fun (m : Mirror) => if l.any (fun h => h.serial == m.ref) then { m with holds := false } else m) })
    let s := l.foldl (fun (s : State) h => s.endCmd 6 h) s
    s.setSys (fun x => { x with fwRestartDue := false, fwPaused := true, fwPausedAt := s.now, fwRestartRef := none })

/-- config_gen as last notified (R49, R533): the firmware notifies it once it runs. -/
def State.noteGen (s : State) : State := if s.sys.fwPaused then s else { s with streams := { s.streams with notified := s.sys.configGen } }

/-- What has been formed leaves, in the order in which it was formed. (log 5: DESIGN CHOICE) -/
def State.sendFormed (s : State) : State := s.sendReplies.noteLeft.noteGen.noteReset

/-- Since when UP has been attached no more is noted (R449). -/
def State.noteAttach (s : State) : State :=
  if s.upAttached = s.fabric.wasAttached then s
  else { s with fabric := { s.fabric with wasAttached := s.upAttached, lostAt := if s.upAttached then s.fabric.lostAt else s.now } }

/-- The state just before queued commands start (R44). -/
def State.beforeQueues (s : State) : State := s.noteAttach.checkFatal.dueTransition.interlock.checkFatal.settleWaits.dueTransition

/-- Queued commands start, as many as `fuel` allows, and the rest settles. -/
def State.settleRest (s : State) (fuel : Nat) : State :=
  let s := (s.pump fuel).checkFatal.settleWaits.dueTransition.notePower
  let s := s.tellCommits.sendTriggers.sendFormed.beginRestart
  s.checkFatal.driveTrip.dropStrobes.sendFormed.sendOutbox

/-- After every event: a Fatal fault, a transition that is due and the interlock act first (R77), then waits end and queues start; a firmware restart waits until its reply has left (R92). Last the TRIP outputs follow, and what has been formed leaves. In `RESET` nothing does. (log 5: DESIGN CHOICE) -/
def State.settle (s : State) : State :=
  if s.sys.hub = .reset then s
  else
    let s := s.beforeQueues
    s.settleRest (2 * s.cmds.held.length)

/-- One GRID cycle with nothing commanded: the counter takes its increment (R399), and where a spot conversion ends with the cycle the hub settles. (log 1: DESIGN CHOICE; 7: DESIGN CHOICE) -/
def State.tick (s : State) : State :=
  if s.sys.hub = .reset then s
  else
    let s : State := { s with time := { s.time with counter := (s.time.counter + s.time.inc) % 2 ^ 104 } }
    if s.resetDue s.now then s.hubReset true
    else if s.rollRate.spotsOver.isEmpty then s.rollRate.timePassed
    else s.rollRate.timePassed.settle

/-- A command packet arrives at the hub, which then settles; the queue of commands is no business of theirs. -/
def State.submit (op : BitVec 16) (o : Origin) (c : Cmd) (s : State) : State := { (s.packetComes op o c).settle with pending := s.pending }

/-- An event at time t: fabric time comes to t, the event is taken, and the hub settles. (log 1: DESIGN CHOICE; 4: DESIGN CHOICE) -/
def State.event (s : State) (t : Nat) (f : State → State) : State := { (f (s.advanceTo t)).settle with pending := s.pending }

/-- An event of what runs only once BOOT is over: in `RESET` and `BOOT` it changes nothing (R73, R88). (log 4: DESIGN CHOICE; 6: DEDUCED) -/
def State.runEvent (s : State) (t : Nat) (f : State → State) : State :=
  s.event t (fun s => if s.sys.hub = .reset ∨ s.sys.hub = .boot then s else f s)

end Sys2Proof.Machine
end

