-- ==== Sys2Proof/Machine/FabricRows.lean ====
section
/-! DEFINITION. The rows of lanes, frames, attachment and fabric time. Each comes about at fabric time t; one that is not due changes nothing but the time. -/
namespace Sys2Proof.Machine

open Sys2Proof

/-- `TRAINING_STEP_ADVANCE` (R355). -/
def execTrainingStepAdvance (t : Nat) (port : Port) (r : TrainingReport) (s : State) : Host.Outcome State Fault Refusal := .next (s.runEvent t (fun s => s.trainingAdvance port r))

/-- `TRAINING_STEP_LIMIT` (R355). -/
def execTrainingStepLimit (t : Nat) (port : Port) (s : State) : Host.Outcome State Fault Refusal := .next (s.runEvent t (fun s => s.trainingLimit port))

/-- `VERIFY_END` (R357). -/
def execVerifyEnd (t : Nat) (port : Port) (errs : List LaneErrors) (s : State) : Host.Outcome State Fault Refusal := .next (s.runEvent t (fun s => s.verifyEnd port errs))

/-- `TRAINING_RESTART_WAIT` (R356). -/
def execTrainingRestartWait (t : Nat) (port : Port) (s : State) : Host.Outcome State Fault Refusal := .next (s.runEvent t (fun s => s.trainingRetry port))

/-- `LOSS_OF_SIGNAL` (R361). -/
def execLossOfSignal (t : Nat) (port : Port) (lane : Nat) (d : Detector) (asserted : Bool) (s : State) : Host.Outcome State Fault Refusal := .next (s.runEvent t (fun s => s.detector port lane d asserted))

/-- `LANE_FAILED` (R362). -/
def execLaneFailed (t : Nat) (port : Port) (lane : Nat) (s : State) : Host.Outcome State Fault Refusal := .next (s.runEvent t (fun s => s.laneFailed port lane))

/-- `DEGRADE_TRAINING_END` (R362). -/
def execDegradeTrainingEnd (t : Nat) (port : Port) (passed : Bool) (s : State) : Host.Outcome State Fault Refusal := .next (s.runEvent t (fun s => s.degradeEnd port passed))

/-- `ELECTRICAL_IDLE_ENTRY` (R363). -/
def execElectricalIdleEntry (t : Nat) (port : Port) (s : State) : Host.Outcome State Fault Refusal := .next (s.runEvent t (fun s => s.enterIdle port))

/-- `PORT_WAKE` (R363). -/
def execPortWake (t : Nat) (port : Port) (s : State) : Host.Outcome State Fault Refusal := .next (s.runEvent t (fun s => s.wakePort port))

/-- `WAKE_BURST_FAIL` (R364). -/
def execWakeBurstFail (t : Nat) (port : Port) (lane : Nat) (s : State) : Host.Outcome State Fault Refusal := .next (s.runEvent t (fun s => s.wakeFails port lane))

/-- `LANE_OFF_ENTRY` (R365). -/
def execLaneOffEntry (t : Nat) (port : Port) (s : State) : Host.Outcome State Fault Refusal := .next (s.runEvent t (fun s => s.enterOff port))

/-- `PAYLOAD_RECEIVE` (R380). -/
def execPayloadReceive (t : Nat) (port : Port) (f : Frame) (s : State) : Host.Outcome State Fault Refusal := .next (s.runEvent t (fun s => s.payloadReceive port f))

/-- `ACK_RECEIVE` (R381). -/
def execAckReceive (t : Nat) (port : Port) (f : Frame) (s : State) : Host.Outcome State Fault Refusal := .next (s.runEvent t (fun s => s.ackFrame port f))

/-- `NAK_RECEIVE` (R382). -/
def execNakReceive (t : Nat) (port : Port) (f : Frame) (s : State) : Host.Outcome State Fault Refusal := .next (s.runEvent t (fun s => s.nakFrame port f))

/-- `REPLAY_TIMEOUT` (R382). -/
def execReplayTimeout (t : Nat) (port : Port) (s : State) : Host.Outcome State Fault Refusal := .next (s.runEvent t (fun s => s.replayTimeout port))

/-- `CREDIT_RECEIVE` (R375). -/
def execCreditReceive (t : Nat) (port : Port) (f : Frame) (s : State) : Host.Outcome State Fault Refusal := .next (s.runEvent t (fun s => s.creditFrame port f))

/-- `CREDIT_SEND_TIMER` (R376). -/
def execCreditSendTimer (t : Nat) (port : Port) (s : State) : Host.Outcome State Fault Refusal := .next (s.runEvent t (fun s => s.creditTimer port))

/-- `HELLO_SEND_TIMER` (R384). -/
def execHelloSendTimer (t : Nat) (port : Port) (linkId : BitVec 32) (s : State) : Host.Outcome State Fault Refusal := .next (s.runEvent t (fun s => s.helloTimer port linkId))

/-- `HELLO_RECEIVE` (R384). -/
def execHelloReceive (t : Nat) (port : Port) (f : Frame) (s : State) : Host.Outcome State Fault Refusal := .next (s.runEvent t (fun s => s.helloFrame port f))

/-- `ABANDON_RECEIVE` (R374). -/
def execAbandonReceive (t : Nat) (port : Port) (f : Frame) (s : State) : Host.Outcome State Fault Refusal := .next (s.runEvent t (fun s => s.abandonFrame port f))

/-- `ATTACH_RECEIVE` (R388). -/
def execAttachReceive (t : Nat) (port : Port) (f : Frame) (s : State) : Host.Outcome State Fault Refusal := .next (s.runEvent t (fun s => s.attachFrame port f))

/-- `ASSIGN_RECEIVE` (R388). -/
def execAssignReceive (t : Nat) (port : Port) (f : Frame) (s : State) : Host.Outcome State Fault Refusal := .next (s.runEvent t (fun s => s.assignFrame port f))

/-- `RESTART_ENTRIES_TIMEOUT` (R396). -/
def execRestartEntriesTimeout (t : Nat) (s : State) : Host.Outcome State Fault Refusal := .next (s.runEvent t (fun s => s.restartLate))

/-- `DETACH_RECEIVE` (R394). -/
def execDetachReceive (t : Nat) (port : Port) (f : Frame) (s : State) : Host.Outcome State Fault Refusal := .next (s.runEvent t (fun s => s.detachFrame port f))

/-- `UNREACHABLE_RECEIVE` (R389). -/
def execUnreachableReceive (t : Nat) (port : Port) (f : Frame) (s : State) : Host.Outcome State Fault Refusal := .next (s.runEvent t (fun s => s.unreachableFrame port f))

/-- `PARTNER_LOST` (R394). -/
def execPartnerLost (t : Nat) (port : Port) (s : State) : Host.Outcome State Fault Refusal := .next (s.runEvent t (fun s => s.partnerLost port))

/-- `UP_DETACHED` (R396). -/
def execUpDetached (t : Nat) (s : State) : Host.Outcome State Fault Refusal := .next (s.runEvent t (fun s => s.upDetached))

/-- `SYNC_SEND_TIMER` (R402). -/
def execSyncSendTimer (t : Nat) (port : Port) (txFrac : Nat) (s : State) : Host.Outcome State Fault Refusal := .next (s.runEvent t (fun s => s.syncSend port txFrac))

/-- `PDELAY_REQ_SEND` (R407). -/
def execPdelayReqSend (t : Nat) (port : Port) (t1 : Int) (s : State) : Host.Outcome State Fault Refusal := .next (s.runEvent t (fun s => s.delayAsk port t1))

/-- `PDELAY_REQ_RECEIVE` (R402). -/
def execPdelayReqReceive (t : Nat) (port : Port) (f : Frame) (t2 t3 : Int) (s : State) : Host.Outcome State Fault Refusal := .next (s.runEvent t (fun s => s.delayAskFrame port f t2 t3))

/-- `PDELAY_RESP_RECEIVE` (R406). -/
def execPdelayRespReceive (t : Nat) (port : Port) (f : Frame) (t4 : Int) (s : State) : Host.Outcome State Fault Refusal := .next (s.runEvent t (fun s => s.delayFrame port f t4))

/-- `SYNC_RECEIVE` (R409). -/
def execSyncReceive (t : Nat) (port : Port) (f : Frame) (rx : Int) (s : State) : Host.Outcome State Fault Refusal := .next (s.runEvent t (fun s => s.syncFrame port f rx))

/-- `SYNC_MISSING` (R415). -/
def execSyncMissing (t : Nat) (s : State) : Host.Outcome State Fault Refusal := .next (s.runEvent t (fun s => s.syncMissing))

/-- `BRIDGE_TIMEOUT` (R415). -/
def execBridgeTimeout (t : Nat) (s : State) : Host.Outcome State Fault Refusal := .next (s.runEvent t (fun s => s.bridgeEnd))

/-- `PPS_IN_EDGE` (R425). -/
def execPpsInEdge (t : Nat) (stamp : PairCodes) (s : State) : Host.Outcome State Fault Refusal := .next (s.runEvent t (fun s => s.ppsEdge stamp))

/-- `TREF_IN_PRESENCE` (R426). -/
def execTrefInPresence (t : Nat) (present : Bool) (freqErr : Int) (s : State) : Host.Outcome State Fault Refusal := .next (s.event t (fun s => s.trefChange present freqErr))

/-- `PPS_OUT_SECOND` (R423). -/
def execPpsOutSecond (t : Nat) (s : State) : Host.Outcome State Fault Refusal := .next (s.runEvent t (fun s => s.ppsSecond))

end Sys2Proof.Machine
end

