-- ==== Sys2Proof/Machine/HostRows.lean ====
section
/-! DEFINITION. The rows that are command packets of the host: each gives its opcode to the command processor, whose tables hold its checks and its effect. -/
namespace Sys2Proof.Machine

open Sys2Proof

/-! ## Group 0x00: sessions and command control -/

/-- `HELLO` (R64). -/
def execHello (o : Origin) (c : Cmd) (s : State) : Host.Outcome State Fault Refusal := .next (State.submit 0x0001 o c s)

/-- `GET_INFO` (R63). -/
def execGetInfo (o : Origin) (c : Cmd) (s : State) : Host.Outcome State Fault Refusal := .next (State.submit 0x0002 o c s)

/-- `GOODBYE` (R65). -/
def execGoodbye (o : Origin) (c : Cmd) (s : State) : Host.Outcome State Fault Refusal := .next (State.submit 0x0003 o c s)

/-- `ECHO` (R63). -/
def execEcho (o : Origin) (c : Cmd) (s : State) : Host.Outcome State Fault Refusal := .next (State.submit 0x0004 o c s)

/-- `CMD_ABORT` (R67). -/
def execCmdAbort (o : Origin) (c : Cmd) (s : State) : Host.Outcome State Fault Refusal := .next (State.submit 0x0005 o c s)

/-- `CMD_QUERY` (R63). -/
def execCmdQuery (o : Origin) (c : Cmd) (s : State) : Host.Outcome State Fault Refusal := .next (State.submit 0x0006 o c s)

/-- `CMD_STATS` (R42). -/
def execCmdStats (o : Origin) (c : Cmd) (s : State) : Host.Outcome State Fault Refusal := .next (State.submit 0x0007 o c s)

/-! ## Group 0x01: hub states -/

/-- `STATE_GET` (R95). -/
def execStateGet (o : Origin) (c : Cmd) (s : State) : Host.Outcome State Fault Refusal := .next (State.submit 0x0101 o c s)

/-- `STATE_HISTORY` (R95). -/
def execStateHistory (o : Origin) (c : Cmd) (s : State) : Host.Outcome State Fault Refusal := .next (State.submit 0x0102 o c s)

/-- `STATE_RUN` (R96). -/
def execStateRun (o : Origin) (c : Cmd) (s : State) : Host.Outcome State Fault Refusal := .next (State.submit 0x0110 o c s)

/-- `STATE_STOP` (R96). -/
def execStateStop (o : Origin) (c : Cmd) (s : State) : Host.Outcome State Fault Refusal := .next (State.submit 0x0111 o c s)

/-- `STATE_GO_LOCAL` (R97). -/
def execStateGoLocal (o : Origin) (c : Cmd) (s : State) : Host.Outcome State Fault Refusal := .next (State.submit 0x0112 o c s)

/-- `STATE_RESET` (R98). -/
def execStateReset (o : Origin) (c : Cmd) (s : State) : Host.Outcome State Fault Refusal := .next (State.submit 0x0113 o c s)

/-- `STATE_LEAVE_FAULT` (R99). -/
def execStateLeaveFault (o : Origin) (c : Cmd) (s : State) : Host.Outcome State Fault Refusal := .next (State.submit 0x0114 o c s)

/-! ## Group 0x10: firmware and flash -/

/-- `FW_GET_STATUS` (R100). -/
def execFwGetStatus (o : Origin) (c : Cmd) (s : State) : Host.Outcome State Fault Refusal := .next (State.submit 0x1001 o c s)

/-- `FW_VERIFY` (R101). -/
def execFwVerify (o : Origin) (c : Cmd) (s : State) : Host.Outcome State Fault Refusal := .next (State.submit 0x1041 o c s)

/-- `FW_ACTIVATE` (R102). -/
def execFwActivate (o : Origin) (c : Cmd) (s : State) : Host.Outcome State Fault Refusal := .next (State.submit 0x1040 o c s)

/-! ## Group 0x02: pans -/

/-- `PAN_GET_CONFIG` (R137). -/
def execPanGetConfig (o : Origin) (c : Cmd) (s : State) : Host.Outcome State Fault Refusal := .next (State.submit 0x0201 o c s)

/-- `PAN_READ_RESULTS` (R137). -/
def execPanReadResults (o : Origin) (c : Cmd) (s : State) : Host.Outcome State Fault Refusal := .next (State.submit 0x0202 o c s)

/-- `COMP_GET` (R137). -/
def execCompGet (o : Origin) (c : Cmd) (s : State) : Host.Outcome State Fault Refusal := .next (State.submit 0x0203 o c s)

/-- `PAN_GET_STATUS` (R137). -/
def execPanGetStatus (o : Origin) (c : Cmd) (s : State) : Host.Outcome State Fault Refusal := .next (State.submit 0x0204 o c s)

/-- `PAN_POWER` (R140). -/
def execPanPower (o : Origin) (c : Cmd) (s : State) : Host.Outcome State Fault Refusal := .next (State.submit 0x0210 o c s)

/-- `PAN_SET_GAIN` (R107). -/
def execPanSetGain (o : Origin) (c : Cmd) (s : State) : Host.Outcome State Fault Refusal := .next (State.submit 0x0211 o c s)

/-- `PAN_SET_FILTER` (R107). -/
def execPanSetFilter (o : Origin) (c : Cmd) (s : State) : Host.Outcome State Fault Refusal := .next (State.submit 0x0212 o c s)

/-- `PAN_SET_SEQUENCE` (R110). -/
def execPanSetSequence (o : Origin) (c : Cmd) (s : State) : Host.Outcome State Fault Refusal := .next (State.submit 0x0213 o c s)

/-- `PAN_SPOT` (R141). -/
def execPanSpot (o : Origin) (c : Cmd) (s : State) : Host.Outcome State Fault Refusal := .next (State.submit 0x0214 o c s)

/-- `PAN_SET_TEST_DAC` (R122). -/
def execPanSetTestDac (o : Origin) (c : Cmd) (s : State) : Host.Outcome State Fault Refusal := .next (State.submit 0x0215 o c s)

/-- `COMP_SET` (R129). -/
def execCompSet (o : Origin) (c : Cmd) (s : State) : Host.Outcome State Fault Refusal := .next (State.submit 0x0216 o c s)

/-- `TRIP_SET` (R126). -/
def execTripSet (o : Origin) (c : Cmd) (s : State) : Host.Outcome State Fault Refusal := .next (State.submit 0x0217 o c s)

/-- `PAN_SUBSTITUTE` (R133). -/
def execPanSubstitute (o : Origin) (c : Cmd) (s : State) : Host.Outcome State Fault Refusal := .next (State.submit 0x0218 o c s)

/-! ## Group 0x03: the sampling grid -/

/-- `GRID_GET_CONFIG` (R160). -/
def execGridGetConfig (o : Origin) (c : Cmd) (s : State) : Host.Outcome State Fault Refusal := .next (State.submit 0x0301 o c s)

/-- `GRID_GET_STATUS` (R160). -/
def execGridGetStatus (o : Origin) (c : Cmd) (s : State) : Host.Outcome State Fault Refusal := .next (State.submit 0x0302 o c s)

/-- `GRID_GET_DELAYS` (R160). -/
def execGridGetDelays (o : Origin) (c : Cmd) (s : State) : Host.Outcome State Fault Refusal := .next (State.submit 0x0303 o c s)

/-- `GRID_SET_ORIGIN` (R162). -/
def execGridSetOrigin (o : Origin) (c : Cmd) (s : State) : Host.Outcome State Fault Refusal := .next (State.submit 0x0310 o c s)

/-- `GRID_SET_PERIOD` (R154). -/
def execGridSetPeriod (o : Origin) (c : Cmd) (s : State) : Host.Outcome State Fault Refusal := .next (State.submit 0x0311 o c s)

/-- `GRID_SET_DIVISOR` (R155). -/
def execGridSetDivisor (o : Origin) (c : Cmd) (s : State) : Host.Outcome State Fault Refusal := .next (State.submit 0x0312 o c s)

/-- `GRID_SET_DELAY` (R147). -/
def execGridSetDelay (o : Origin) (c : Cmd) (s : State) : Host.Outcome State Fault Refusal := .next (State.submit 0x0313 o c s)

/-! ## Group 0x04: the mash array -/

/-- `RECIPE_GET` (R192). -/
def execRecipeGet (o : Origin) (c : Cmd) (s : State) : Host.Outcome State Fault Refusal := .next (State.submit 0x0401 o c s)

/-- `RECIPE_READ_BANK` (R192). -/
def execRecipeReadBank (o : Origin) (c : Cmd) (s : State) : Host.Outcome State Fault Refusal := .next (State.submit 0x0402 o c s)

/-- `RECIPE_GET_ASSIGN` (R192). -/
def execRecipeGetAssign (o : Origin) (c : Cmd) (s : State) : Host.Outcome State Fault Refusal := .next (State.submit 0x0403 o c s)

/-- `RECIPE_GET_STATS` (R192). -/
def execRecipeGetStats (o : Origin) (c : Cmd) (s : State) : Host.Outcome State Fault Refusal := .next (State.submit 0x0404 o c s)

/-- `REDUCE_GET` (R192). -/
def execReduceGet (o : Origin) (c : Cmd) (s : State) : Host.Outcome State Fault Refusal := .next (State.submit 0x0405 o c s)

/-- `RECIPE_DEFINE` (R196). -/
def execRecipeDefine (o : Origin) (c : Cmd) (s : State) : Host.Outcome State Fault Refusal := .next (State.submit 0x0410 o c s)

/-- `RECIPE_LOAD_COEFS` (R178). -/
def execRecipeLoadCoefs (o : Origin) (c : Cmd) (s : State) : Host.Outcome State Fault Refusal := .next (State.submit 0x0411 o c s)

/-- `RECIPE_SET_SHIFTS` (R178). -/
def execRecipeSetShifts (o : Origin) (c : Cmd) (s : State) : Host.Outcome State Fault Refusal := .next (State.submit 0x0412 o c s)

/-- `RECIPE_ASSIGN` (R197). -/
def execRecipeAssign (o : Origin) (c : Cmd) (s : State) : Host.Outcome State Fault Refusal := .next (State.submit 0x0413 o c s)

/-- `RECIPE_SWAP` (R198). -/
def execRecipeSwap (o : Origin) (c : Cmd) (s : State) : Host.Outcome State Fault Refusal := .next (State.submit 0x0414 o c s)

/-- `RECIPE_RESET` (R174). -/
def execRecipeReset (o : Origin) (c : Cmd) (s : State) : Host.Outcome State Fault Refusal := .next (State.submit 0x0415 o c s)

/-- `REDUCE_SET` (R190). -/
def execReduceSet (o : Origin) (c : Cmd) (s : State) : Host.Outcome State Fault Refusal := .next (State.submit 0x0416 o c s)

/-! ## Group 0x05: captures -/

/-- `CAPTURE_GET` (R230). -/
def execCaptureGet (o : Origin) (c : Cmd) (s : State) : Host.Outcome State Fault Refusal := .next (State.submit 0x0501 o c s)

/-- `CAPTURE_GET_STATUS` (R230). -/
def execCaptureGetStatus (o : Origin) (c : Cmd) (s : State) : Host.Outcome State Fault Refusal := .next (State.submit 0x0502 o c s)

/-- `CAPTURE_GET_MEMORY` (R230). -/
def execCaptureGetMemory (o : Origin) (c : Cmd) (s : State) : Host.Outcome State Fault Refusal := .next (State.submit 0x0503 o c s)

/-- `CAPTURE_LIST_HELD` (R230). -/
def execCaptureListHeld (o : Origin) (c : Cmd) (s : State) : Host.Outcome State Fault Refusal := .next (State.submit 0x0504 o c s)

/-- `CAPTURE_DEFINE` (R233). -/
def execCaptureDefine (o : Origin) (c : Cmd) (s : State) : Host.Outcome State Fault Refusal := .next (State.submit 0x0510 o c s)

/-- `CAPTURE_SET_TRIGGER` (R218). -/
def execCaptureSetTrigger (o : Origin) (c : Cmd) (s : State) : Host.Outcome State Fault Refusal := .next (State.submit 0x0511 o c s)

/-- `CAPTURE_ENABLE` (R217). -/
def execCaptureEnable (o : Origin) (c : Cmd) (s : State) : Host.Outcome State Fault Refusal := .next (State.submit 0x0512 o c s)

/-- `CAPTURE_FORCE` (R234). -/
def execCaptureForce (o : Origin) (c : Cmd) (s : State) : Host.Outcome State Fault Refusal := .next (State.submit 0x0513 o c s)

/-- `CAPTURE_READOUT` (R213). -/
def execCaptureReadout (o : Origin) (c : Cmd) (s : State) : Host.Outcome State Fault Refusal := .next (State.submit 0x0514 o c s)

/-- `CAPTURE_RELEASE` (R213). -/
def execCaptureRelease (o : Origin) (c : Cmd) (s : State) : Host.Outcome State Fault Refusal := .next (State.submit 0x0515 o c s)

/-- `CAPTURE_SET_MEASURE` (R228). -/
def execCaptureSetMeasure (o : Origin) (c : Cmd) (s : State) : Host.Outcome State Fault Refusal := .next (State.submit 0x0516 o c s)

/-- `CAPTURE_FREE` (R232). -/
def execCaptureFree (o : Origin) (c : Cmd) (s : State) : Host.Outcome State Fault Refusal := .next (State.submit 0x0517 o c s)

/-! ## Group 0x06: edges and measurement units -/

/-- `EDGE_GET_CONFIG` (R262). -/
def execEdgeGetConfig (o : Origin) (c : Cmd) (s : State) : Host.Outcome State Fault Refusal := .next (State.submit 0x0601 o c s)

/-- `EDGE_GET_STATUS` (R262). -/
def execEdgeGetStatus (o : Origin) (c : Cmd) (s : State) : Host.Outcome State Fault Refusal := .next (State.submit 0x0602 o c s)

/-- `MEAS_GET` (R262). -/
def execMeasGet (o : Origin) (c : Cmd) (s : State) : Host.Outcome State Fault Refusal := .next (State.submit 0x0603 o c s)

/-- `EDGE_SET_INPUT` (R265). -/
def execEdgeSetInput (o : Origin) (c : Cmd) (s : State) : Host.Outcome State Fault Refusal := .next (State.submit 0x0610 o c s)

/-- `EDGE_SET_STREAM` (R248). -/
def execEdgeSetStream (o : Origin) (c : Cmd) (s : State) : Host.Outcome State Fault Refusal := .next (State.submit 0x0611 o c s)

/-- `MEAS_SET_INTERVAL` (R250). -/
def execMeasSetInterval (o : Origin) (c : Cmd) (s : State) : Host.Outcome State Fault Refusal := .next (State.submit 0x0612 o c s)

/-- `MEAS_SET_FREQUENCY` (R255). -/
def execMeasSetFrequency (o : Origin) (c : Cmd) (s : State) : Host.Outcome State Fault Refusal := .next (State.submit 0x0613 o c s)

/-- `MEAS_OFF` (R264). -/
def execMeasOff (o : Origin) (c : Cmd) (s : State) : Host.Outcome State Fault Refusal := .next (State.submit 0x0614 o c s)

/-! ## Group 0x07: the kiln -/

/-- `KILN_GET_CODING` (R298). -/
def execKilnGetCoding (o : Origin) (c : Cmd) (s : State) : Host.Outcome State Fault Refusal := .next (State.submit 0x0701 o c s)

/-- `KILN_GET_STATUS` (R298). -/
def execKilnGetStatus (o : Origin) (c : Cmd) (s : State) : Host.Outcome State Fault Refusal := .next (State.submit 0x0702 o c s)

/-- `KILN_JOB_GET` (R298). -/
def execKilnJobGet (o : Origin) (c : Cmd) (s : State) : Host.Outcome State Fault Refusal := .next (State.submit 0x0703 o c s)

/-- `KILN_READ` (R298). -/
def execKilnRead (o : Origin) (c : Cmd) (s : State) : Host.Outcome State Fault Refusal := .next (State.submit 0x0704 o c s)

/-- `KILN_GET_STATE` (R298). -/
def execKilnGetState (o : Origin) (c : Cmd) (s : State) : Host.Outcome State Fault Refusal := .next (State.submit 0x0705 o c s)

/-- `KILN_SET_CODING` (R301). -/
def execKilnSetCoding (o : Origin) (c : Cmd) (s : State) : Host.Outcome State Fault Refusal := .next (State.submit 0x0710 o c s)

/-- `KILN_SET_STATE` (R291). -/
def execKilnSetState (o : Origin) (c : Cmd) (s : State) : Host.Outcome State Fault Refusal := .next (State.submit 0x0711 o c s)

/-- `KILN_TAP` (R292). -/
def execKilnTap (o : Origin) (c : Cmd) (s : State) : Host.Outcome State Fault Refusal := .next (State.submit 0x0712 o c s)

/-- `KILN_WORKSPACE` (R294). -/
def execKilnWorkspace (o : Origin) (c : Cmd) (s : State) : Host.Outcome State Fault Refusal := .next (State.submit 0x0713 o c s)

/-- `KILN_WRITE` (R294). -/
def execKilnWrite (o : Origin) (c : Cmd) (s : State) : Host.Outcome State Fault Refusal := .next (State.submit 0x0714 o c s)

/-- `KILN_JOB_START` (R302). -/
def execKilnJobStart (o : Origin) (c : Cmd) (s : State) : Host.Outcome State Fault Refusal := .next (State.submit 0x0715 o c s)

/-- `KILN_JOB_RESUME` (R296). -/
def execKilnJobResume (o : Origin) (c : Cmd) (s : State) : Host.Outcome State Fault Refusal := .next (State.submit 0x0716 o c s)

/-! ## Group 0x08: streams and the feed -/

/-- `STREAM_GET` (R340). -/
def execStreamGet (o : Origin) (c : Cmd) (s : State) : Host.Outcome State Fault Refusal := .next (State.submit 0x0801 o c s)

/-- `STREAM_GET_OUTBOUND` (R325). -/
def execStreamGetOutbound (o : Origin) (c : Cmd) (s : State) : Host.Outcome State Fault Refusal := .next (State.submit 0x0802 o c s)

/-- `STREAM_LIST` (R340). -/
def execStreamList (o : Origin) (c : Cmd) (s : State) : Host.Outcome State Fault Refusal := .next (State.submit 0x0803 o c s)

/-- `FEED_GET_STATUS` (R340). -/
def execFeedGetStatus (o : Origin) (c : Cmd) (s : State) : Host.Outcome State Fault Refusal := .next (State.submit 0x0804 o c s)

/-- `STREAM_SET_ENABLE` (R310). -/
def execStreamSetEnable (o : Origin) (c : Cmd) (s : State) : Host.Outcome State Fault Refusal := .next (State.submit 0x0810 o c s)

/-- `STREAM_SET_RECORD` (R308). -/
def execStreamSetRecord (o : Origin) (c : Cmd) (s : State) : Host.Outcome State Fault Refusal := .next (State.submit 0x0811 o c s)

/-- `STREAM_ACK` (R327). -/
def execStreamAck (o : Origin) (c : Cmd) (s : State) : Host.Outcome State Fault Refusal := .next (State.submit 0x0812 o c s)

/-- `STREAM_DROP_REST` (R328). -/
def execStreamDropRest (o : Origin) (c : Cmd) (s : State) : Host.Outcome State Fault Refusal := .next (State.submit 0x0813 o c s)

/-- `STREAM_SET_FORMAT` (R341). -/
def execStreamSetFormat (o : Origin) (c : Cmd) (s : State) : Host.Outcome State Fault Refusal := .next (State.submit 0x0814 o c s)

/-- `STREAM_SET_SPILL` (R323). -/
def execStreamSetSpill (o : Origin) (c : Cmd) (s : State) : Host.Outcome State Fault Refusal := .next (State.submit 0x0815 o c s)

/-- `FEED_SET_CONFIG` (R337). -/
def execFeedSetConfig (o : Origin) (c : Cmd) (s : State) : Host.Outcome State Fault Refusal := .next (State.submit 0x0816 o c s)

/-- `FEED_SET_CHANNEL` (R335). -/
def execFeedSetChannel (o : Origin) (c : Cmd) (s : State) : Host.Outcome State Fault Refusal := .next (State.submit 0x0817 o c s)

/-- `FEED_FLUSH` (R339). -/
def execFeedFlush (o : Origin) (c : Cmd) (s : State) : Host.Outcome State Fault Refusal := .next (State.submit 0x0818 o c s)

/-! ## Group 0x09: lanes and the fabric -/

/-- `LANE_GET_STATUS` (R366). -/
def execLaneGetStatus (o : Origin) (c : Cmd) (s : State) : Host.Outcome State Fault Refusal := .next (State.submit 0x0981 o c s)

/-- `LANE_GET_EQ` (R366). -/
def execLaneGetEq (o : Origin) (c : Cmd) (s : State) : Host.Outcome State Fault Refusal := .next (State.submit 0x0982 o c s)

/-- `LANE_GET_COUNTERS` (R366). -/
def execLaneGetCounters (o : Origin) (c : Cmd) (s : State) : Host.Outcome State Fault Refusal := .next (State.submit 0x0983 o c s)

/-- `LANE_SET_RATES` (R356). -/
def execLaneSetRates (o : Origin) (c : Cmd) (s : State) : Host.Outcome State Fault Refusal := .next (State.submit 0x0990 o c s)

/-- `LANE_RETRAIN` (R360). -/
def execLaneRetrain (o : Origin) (c : Cmd) (s : State) : Host.Outcome State Fault Refusal := .next (State.submit 0x0991 o c s)

/-- `LANE_SET_EQ` (R352). -/
def execLaneSetEq (o : Origin) (c : Cmd) (s : State) : Host.Outcome State Fault Refusal := .next (State.submit 0x0992 o c s)

/-- `LANE_PORT_ENABLE` (R366). -/
def execLanePortEnable (o : Origin) (c : Cmd) (s : State) : Host.Outcome State Fault Refusal := .next (State.submit 0x0993 o c s)

/-- `LANE_TEST` (R366). -/
def execLaneTest (o : Origin) (c : Cmd) (s : State) : Host.Outcome State Fault Refusal := .next (State.submit 0x0994 o c s)

/-- `FABRIC_GET_PORT` (R398). -/
def execFabricGetPort (o : Origin) (c : Cmd) (s : State) : Host.Outcome State Fault Refusal := .next (State.submit 0x0901 o c s)

/-- `FABRIC_GET_COUNTERS` (R398). -/
def execFabricGetCounters (o : Origin) (c : Cmd) (s : State) : Host.Outcome State Fault Refusal := .next (State.submit 0x0902 o c s)

/-- `FABRIC_GET_ROUTES` (R398). -/
def execFabricGetRoutes (o : Origin) (c : Cmd) (s : State) : Host.Outcome State Fault Refusal := .next (State.submit 0x0903 o c s)

/-- `FABRIC_GET_CONFIG` (R398). -/
def execFabricGetConfig (o : Origin) (c : Cmd) (s : State) : Host.Outcome State Fault Refusal := .next (State.submit 0x0904 o c s)

/-- `FABRIC_SET_CREDIT` (R377). -/
def execFabricSetCredit (o : Origin) (c : Cmd) (s : State) : Host.Outcome State Fault Refusal := .next (State.submit 0x0910 o c s)

/-- `FABRIC_SET_LIMITS` (R393). -/
def execFabricSetLimits (o : Origin) (c : Cmd) (s : State) : Host.Outcome State Fault Refusal := .next (State.submit 0x0911 o c s)

/-- `FABRIC_LEAVE` (R397). -/
def execFabricLeave (o : Origin) (c : Cmd) (s : State) : Host.Outcome State Fault Refusal := .next (State.submit 0x0912 o c s)

/-- `FABRIC_REJOIN` (R396). -/
def execFabricRejoin (o : Origin) (c : Cmd) (s : State) : Host.Outcome State Fault Refusal := .next (State.submit 0x0913 o c s)

/-- `FABRIC_SET_VERSIONS` (R385). -/
def execFabricSetVersions (o : Origin) (c : Cmd) (s : State) : Host.Outcome State Fault Refusal := .next (State.submit 0x0914 o c s)

/-! ## Group 0x0A: fabric time -/

/-- `TIME_GET_STATUS` (R428). -/
def execTimeGetStatus (o : Origin) (c : Cmd) (s : State) : Host.Outcome State Fault Refusal := .next (State.submit 0x0A01 o c s)

/-- `TIME_GET_PORT` (R428). -/
def execTimeGetPort (o : Origin) (c : Cmd) (s : State) : Host.Outcome State Fault Refusal := .next (State.submit 0x0A02 o c s)

/-- `TIME_GET_PPS` (R428). -/
def execTimeGetPps (o : Origin) (c : Cmd) (s : State) : Host.Outcome State Fault Refusal := .next (State.submit 0x0A03 o c s)

/-- `TIME_SET_SERVO` (R411). -/
def execTimeSetServo (o : Origin) (c : Cmd) (s : State) : Host.Outcome State Fault Refusal := .next (State.submit 0x0A10 o c s)

/-- `TIME_SET_ASYMMETRY` (R408). -/
def execTimeSetAsymmetry (o : Origin) (c : Cmd) (s : State) : Host.Outcome State Fault Refusal := .next (State.submit 0x0A11 o c s)

/-- `TIME_SET_AGEING` (R417). -/
def execTimeSetAgeing (o : Origin) (c : Cmd) (s : State) : Host.Outcome State Fault Refusal := .next (State.submit 0x0A12 o c s)

/-- `TIME_SET_OUTPUTS` (R423). -/
def execTimeSetOutputs (o : Origin) (c : Cmd) (s : State) : Host.Outcome State Fault Refusal := .next (State.submit 0x0A13 o c s)

/-- `TIME_SET_LOCAL_REF` (R427). -/
def execTimeSetLocalRef (o : Origin) (c : Cmd) (s : State) : Host.Outcome State Fault Refusal := .next (State.submit 0x0A14 o c s)

/-! ## Group 0x0B: twinning -/

/-- `TWIN_GET_STATUS` (R457). -/
def execTwinGetStatus (o : Origin) (c : Cmd) (s : State) : Host.Outcome State Fault Refusal := .next (State.submit 0x0B01 o c s)

/-- `TWIN_GET_COUNTERS` (R457). -/
def execTwinGetCounters (o : Origin) (c : Cmd) (s : State) : Host.Outcome State Fault Refusal := .next (State.submit 0x0B02 o c s)

/-- `TWIN_SET_MODE` (R458). -/
def execTwinSetMode (o : Origin) (c : Cmd) (s : State) : Host.Outcome State Fault Refusal := .next (State.submit 0x0B10 o c s)

/-- `TWIN_SET_TIMING` (R441). -/
def execTwinSetTiming (o : Origin) (c : Cmd) (s : State) : Host.Outcome State Fault Refusal := .next (State.submit 0x0B11 o c s)

/-- `TWIN_SWAP` (R450). -/
def execTwinSwap (o : Origin) (c : Cmd) (s : State) : Host.Outcome State Fault Refusal := .next (State.submit 0x0B12 o c s)

/-- `TWIN_RELAY` (R453). -/
def execTwinRelay (o : Origin) (c : Cmd) (s : State) : Host.Outcome State Fault Refusal := .next (State.submit 0x0B13 o c s)

/-! ## Group 0x0C: calibration -/

/-- `CAL_GET_STATUS` (R480). -/
def execCalGetStatus (o : Origin) (c : Cmd) (s : State) : Host.Outcome State Fault Refusal := .next (State.submit 0x0C01 o c s)

/-- `CAL_READ` (R480). -/
def execCalRead (o : Origin) (c : Cmd) (s : State) : Host.Outcome State Fault Refusal := .next (State.submit 0x0C02 o c s)

/-- `CAL_SET_MODE` (R464). -/
def execCalSetMode (o : Origin) (c : Cmd) (s : State) : Host.Outcome State Fault Refusal := .next (State.submit 0x0C10 o c s)

/-- `CAL_SET_REFERENCE` (R459). -/
def execCalSetReference (o : Origin) (c : Cmd) (s : State) : Host.Outcome State Fault Refusal := .next (State.submit 0x0C11 o c s)

/-- `CAL_RUN` (R470). -/
def execCalRun (o : Origin) (c : Cmd) (s : State) : Host.Outcome State Fault Refusal := .next (State.submit 0x0C12 o c s)

/-- `CAL_WRITE` (R478). -/
def execCalWrite (o : Origin) (c : Cmd) (s : State) : Host.Outcome State Fault Refusal := .next (State.submit 0x0C13 o c s)

/-- `CAL_STAGE` (R478). -/
def execCalStage (o : Origin) (c : Cmd) (s : State) : Host.Outcome State Fault Refusal := .next (State.submit 0x0C14 o c s)

/-- `CAL_APPLY` (R481). -/
def execCalApply (o : Origin) (c : Cmd) (s : State) : Host.Outcome State Fault Refusal := .next (State.submit 0x0C15 o c s)

/-! ## Group 0x0D: power and the sluice -/

/-- `POWER_GET_STATUS` (R499). -/
def execPowerGetStatus (o : Origin) (c : Cmd) (s : State) : Host.Outcome State Fault Refusal := .next (State.submit 0x0D01 o c s)

/-- `SLUICE_GET_STATUS` (R499). -/
def execSluiceGetStatus (o : Origin) (c : Cmd) (s : State) : Host.Outcome State Fault Refusal := .next (State.submit 0x0D02 o c s)

/-- `POWER_SET_TOLERANCE` (R501). -/
def execPowerSetTolerance (o : Origin) (c : Cmd) (s : State) : Host.Outcome State Fault Refusal := .next (State.submit 0x0D10 o c s)

/-- `SLUICE_SET_BUDGET` (R497). -/
def execSluiceSetBudget (o : Origin) (c : Cmd) (s : State) : Host.Outcome State Fault Refusal := .next (State.submit 0x0D11 o c s)

/-- `POWER_WAKE` (R490). -/
def execPowerWake (o : Origin) (c : Cmd) (s : State) : Host.Outcome State Fault Refusal := .next (State.submit 0x0D12 o c s)

/-! ## Group 0x0E: the safety island -/

/-- `SAFETY_GET_STATUS` (R521). -/
def execSafetyGetStatus (o : Origin) (c : Cmd) (s : State) : Host.Outcome State Fault Refusal := .next (State.submit 0x0E01 o c s)

/-- `SAFETY_GET_PARAMS` (R521). -/
def execSafetyGetParams (o : Origin) (c : Cmd) (s : State) : Host.Outcome State Fault Refusal := .next (State.submit 0x0E02 o c s)

/-- `SAFETY_GET_COUNTERS` (R521). -/
def execSafetyGetCounters (o : Origin) (c : Cmd) (s : State) : Host.Outcome State Fault Refusal := .next (State.submit 0x0E03 o c s)

/-- `SAFETY_WRITE` (R518). -/
def execSafetyWrite (o : Origin) (c : Cmd) (s : State) : Host.Outcome State Fault Refusal := .next (State.submit 0x0E10 o c s)

/-- `SAFETY_CONFIRM` (R518). -/
def execSafetyConfirm (o : Origin) (c : Cmd) (s : State) : Host.Outcome State Fault Refusal := .next (State.submit 0x0E11 o c s)

/-- `SAFETY_DISCARD` (R518). -/
def execSafetyDiscard (o : Origin) (c : Cmd) (s : State) : Host.Outcome State Fault Refusal := .next (State.submit 0x0E12 o c s)

/-! ## Group 0x0F: faults and diagnosis -/

/-- `FAULT_GET_SUMMARY` (R541). -/
def execFaultGetSummary (o : Origin) (c : Cmd) (s : State) : Host.Outcome State Fault Refusal := .next (State.submit 0x0F01 o c s)

/-- `FAULT_READ_LOG` (R541). -/
def execFaultReadLog (o : Origin) (c : Cmd) (s : State) : Host.Outcome State Fault Refusal := .next (State.submit 0x0F02 o c s)

/-- `FAULT_GET_MEMORY` (R541). -/
def execFaultGetMemory (o : Origin) (c : Cmd) (s : State) : Host.Outcome State Fault Refusal := .next (State.submit 0x0F03 o c s)

/-- `DIAG_GET_TEMPS` (R541). -/
def execDiagGetTemps (o : Origin) (c : Cmd) (s : State) : Host.Outcome State Fault Refusal := .next (State.submit 0x0F04 o c s)

/-- `FAULT_CLEAR_LOG` (R523). -/
def execFaultClearLog (o : Origin) (c : Cmd) (s : State) : Host.Outcome State Fault Refusal := .next (State.submit 0x0F10 o c s)

/-- `FAULT_SET_SCRUB` (R529). -/
def execFaultSetScrub (o : Origin) (c : Cmd) (s : State) : Host.Outcome State Fault Refusal := .next (State.submit 0x0F11 o c s)

/-- `FAULT_SET_MIRROR` (R527). -/
def execFaultSetMirror (o : Origin) (c : Cmd) (s : State) : Host.Outcome State Fault Refusal := .next (State.submit 0x0F12 o c s)

/-- `DIAG_INJECT` (R528). -/
def execDiagInject (o : Origin) (c : Cmd) (s : State) : Host.Outcome State Fault Refusal := .next (State.submit 0x0F13 o c s)

/-! ## Group 0x10: firmware and flash -/

/-- `FLASH_GET_INFO` (R560). -/
def execFlashGetInfo (o : Origin) (c : Cmd) (s : State) : Host.Outcome State Fault Refusal := .next (State.submit 0x1002 o c s)

/-- `FLASH_READ` (R555). -/
def execFlashRead (o : Origin) (c : Cmd) (s : State) : Host.Outcome State Fault Refusal := .next (State.submit 0x1003 o c s)

/-- `FLASH_ERASE` (R556). -/
def execFlashErase (o : Origin) (c : Cmd) (s : State) : Host.Outcome State Fault Refusal := .next (State.submit 0x1010 o c s)

/-- `FLASH_PROGRAM` (R556). -/
def execFlashProgram (o : Origin) (c : Cmd) (s : State) : Host.Outcome State Fault Refusal := .next (State.submit 0x1011 o c s)

/-- `SPI_TRANSFER` (R559). -/
def execSpiTransfer (o : Origin) (c : Cmd) (s : State) : Host.Outcome State Fault Refusal := .next (State.submit 0x1012 o c s)

end Sys2Proof.Machine
end

