-- ==== Sys2Proof/Machine/SamplingRows.lean ====
section
/-! DEFINITION. The rows of strobes, epochs, conversions, comparators, captures, edges and measurement units. Each comes about at fabric time t; one that is not due changes nothing but the time. -/
namespace Sys2Proof.Machine

open Sys2Proof

/-- `D2D_LANE_FAILURE` (R11). -/
def execD2dLaneFailure (t : Nat) (die lane : Nat) (s : State) : Host.Outcome State Fault Refusal := .next (s.event t (fun s => s.d2dFailure die lane))

/-- `GRID_STROBE` (R142). -/
def execGridStrobe (t : Nat) (k : Nat) (s : State) : Host.Outcome State Fault Refusal := .next (s.runEvent t (fun s => s.gridStrobe k))

/-- `STROBE_MESSAGE_SEND` (R146). -/
def execStrobeMessageSend (t : Nat) (pan k : Nat) (s : State) : Host.Outcome State Fault Refusal := .next (s.runEvent t (fun s => s.sendStrobe pan k))

/-- `STROBE_MESSAGE_RECEIVE` (R16). -/
def execStrobeMessageReceive (t : Nat) (pan : Nat) (s : State) : Host.Outcome State Fault Refusal := .next (s.runEvent t (fun s => s.takeStrobe pan))

/-- `EPOCH_BOUNDARY` (R17). -/
def execEpochBoundary (t : Nat) (s : State) : Host.Outcome State Fault Refusal := .next (s.runEvent t (fun s => s.epochBoundary))

/-- `CONVERSION_END` (R108). -/
def execConversionEnd (t : Nat) (pan : Nat) (c : Conversion) (s : State) : Host.Outcome State Fault Refusal := .next (s.runEvent t (fun s => s.conversionEnd pan c))

/-- `URGENT_SLOT_BOUNDARY` (R116). -/
def execUrgentSlotBoundary (t : Nat) (pan : Nat) (c : Conversion) (s : State) : Host.Outcome State Fault Refusal := .next (s.runEvent t (fun s => s.urgentSlot pan c))

/-- `SPOT_REPLY_TIMEOUT` (R141). (log 26: DESIGN CHOICE) -/
def execSpotReplyTimeout (t : Nat) (s : State) : Host.Outcome State Fault Refusal := .next (s.runEvent t (fun s => s.spotTimeout))

/-- `URGENT_REQUEST_END_UNSERVED` (R121). -/
def execUrgentRequestEndUnserved (t : Nat) (pan : Nat) (s : State) : Host.Outcome State Fault Refusal := .next (s.runEvent t (fun s => s.endUrgent pan))

/-- `COMPARATOR_CROSSING` (R130). -/
def execComparatorCrossing (t : Nat) (ch : Nat) (input : Int) (s : State) : Host.Outcome State Fault Refusal := .next (s.event t (fun s => s.compInput ch input))

/-- `TDC_CONVERSION_END` (R260). -/
def execTdcConversionEnd (t : Nat) (ch beats : Nat) (s : State) : Host.Outcome State Fault Refusal := .next (s.runEvent t (fun s => s.tdcEnd ch beats))

/-- `COMPARATOR_EVENT_DELIVERY` (R130). -/
def execComparatorEventDelivery (t : Nat) (pan : Nat) (s : State) : Host.Outcome State Fault Refusal := .next (s.runEvent t (fun s => s.crossingArrives pan))

/-- `OVERLOAD_INTERVAL_END` (R106). -/
def execOverloadIntervalEnd (t : Nat) (s : State) : Host.Outcome State Fault Refusal := .next (s.runEvent t (fun s => s.overloadInterval))

/-- `SAMPLE_ARRIVAL_MASH` (R163). -/
def execSampleArrivalMash (t : Nat) (src : MashSource) (s : State) : Host.Outcome State Fault Refusal := .next (s.runEvent t (fun s => s.sampleArrival src))

/-- `CAPTURE_SAMPLE` (R205). -/
def execCaptureSample (t : Nat) (s : State) : Host.Outcome State Fault Refusal := .next (s.runEvent t (fun s => s.captureNext))

/-- `CASK_HANDOVER` (R213). -/
def execCaskHandover (t : Nat) (group : Nat) (s : State) : Host.Outcome State Fault Refusal := .next (s.runEvent t (fun s => s.caskHandover group))

/-- `TIMED_TRIGGER_APPLY` (R223). -/
def execTimedTriggerApply (t : Nat) (entry : Nat) (s : State) : Host.Outcome State Fault Refusal := .next (s.runEvent t (fun s => s.applyTimed entry))

/-- `SCHEDULE_TIME` (R218). -/
def execScheduleTime (t : Nat) (group term : Nat) (s : State) : Host.Outcome State Fault Refusal := .next (s.runEvent t (fun s => s.scheduleTime group term))

/-- `FABRIC_TRIGGER_RECEIVE` (R224). -/
def execFabricTriggerReceive (t : Nat) (msg : Bytes) (s : State) : Host.Outcome State Fault Refusal := .next (s.runEvent t (fun s => s.triggerReceive msg))

/-- `EDGE_ARRIVAL` (R241). -/
def execEdgeArrival (t : Nat) (input : Nat) (rising : Bool) (s : State) : Host.Outcome State Fault Refusal := .next (s.runEvent t (fun s => s.edgeArrives input rising))

/-- `INTERPOLATOR_STAMP_END` (R239). -/
def execInterpolatorStampEnd (t : Nat) (input : Nat) (b : Bool) (code a1 a2 : Nat) (s : State) : Host.Outcome State Fault Refusal := .next (s.runEvent t (fun s => s.stampEnd input b code a1 a2))

/-- `INTERPOLATOR_CAL_REPEAT` (R243). -/
def execInterpolatorCalRepeat (t : Nat) (input : Nat) (b : Bool) (a1 a2 : Nat) (s : State) : Host.Outcome State Fault Refusal := .next (s.runEvent t (fun s => s.pairRepeat input b a1 a2))

/-- `STAMP_ARRIVAL_MEM` (R245). -/
def execStampArrivalMem (t : Nat) (input : Nat) (s : State) : Host.Outcome State Fault Refusal := .next (s.runEvent t (fun s => s.stampArrives input))

/-- `INTERVAL_TIMEOUT` (R254). -/
def execIntervalTimeout (t : Nat) (unit : Nat) (s : State) : Host.Outcome State Fault Refusal := .next (s.runEvent t (fun s => s.intervalTimeout unit))

/-- `FREQUENCY_GATE_END` (R257). -/
def execFrequencyGateEnd (t : Nat) (unit : Nat) (s : State) : Host.Outcome State Fault Refusal := .next (s.runEvent t (fun s => s.gateEnd unit))

end Sys2Proof.Machine
end

