-- ==== Sys2Proof/Machine/StreamRows.lean ====
section
/-! DEFINITION. The rows of records, the kiln and the feed. Each comes about at fabric time t; one that is not due changes nothing but the time. -/
namespace Sys2Proof.Machine

open Sys2Proof

/-- `RECORD_LATENCY_EXPIRY` (R308). -/
def execRecordLatencyExpiry (t : Nat) (stream : Nat) (s : State) : Host.Outcome State Fault Refusal := .next (s.runEvent t (fun s => s.latencyExpiry stream))

/-- `RECORD_ADMIT` (R313). -/
def execRecordAdmit (t : Nat) (s : State) : Host.Outcome State Fault Refusal := .next (s.runEvent t (fun s => s.admitNext))

/-- `PENDING_GAP_TIMEOUT` (R316). -/
def execPendingGapTimeout (t : Nat) (stream : Nat) (s : State) : Host.Outcome State Fault Refusal := .next (s.runEvent t (fun s => s.gapTimeout stream))

/-- `EVENT_ENTRY_ARISE` (R320). -/
def execEventEntryArise (t : Nat) (s : State) : Host.Outcome State Fault Refusal := .next (s.runEvent t (fun s => s.placeEvent))

/-- `UP_RECORD_SEND` (R321). -/
def execUpRecordSend (t : Nat) (s : State) : Host.Outcome State Fault Refusal := .next (s.runEvent t (fun s => s.sendNext))

/-- `SPILL_DRAIN` (R323). -/
def execSpillDrain (t : Nat) (s : State) : Host.Outcome State Fault Refusal := .next (s.runEvent t (fun s => s.spillDrain))

/-- `KILN_RECORD_CODE` (R269). -/
def execKilnRecordCode (t : Nat) (lane : Nat) (failedBlocks : List Nat) (s : State) : Host.Outcome State Fault Refusal := .next (s.runEvent t (fun s => s.codeRecord lane failedBlocks))

/-- `TAP_RECORD_DECODE` (R292). -/
def execTapRecordDecode (t : Nat) (tap : Nat) (s : State) : Host.Outcome State Fault Refusal := .next (s.runEvent t (fun s => s.tapDecode tap))

/-- `KILN_JOB_BLOCK` (R296). -/
def execKilnJobBlock (t : Nat) (s : State) : Host.Outcome State Fault Refusal := .next (s.runEvent t (fun s => s.jobBlock))

/-- `FEED_ITEM` (R334). -/
def execFeedItem (t : Nat) (item : Bytes) (s : State) : Host.Outcome State Fault Refusal := .next (s.runEvent t (fun s => s.feedTake item))

/-- `FEED_SYNC_ITEM` (R336). -/
def execFeedSyncItem (t : Nat) (item : Bytes) (s : State) : Host.Outcome State Fault Refusal := .next (s.runEvent t (fun s => s.feedTake item))

/-- `FEED_VALID_LOW` (R333). -/
def execFeedValidLow (t : Nat) (bytes : Nat) (s : State) : Host.Outcome State Fault Refusal := .next (s.runEvent t (fun s => s.feedCut bytes))

/-- `FEED_WATERMARK` (R337). -/
def execFeedWatermark (t : Nat) (s : State) : Host.Outcome State Fault Refusal := .next (s.runEvent t (fun s => s.feedWatermark))

/-- `FEED_CREDIT_RETURN` (R338). -/
def execFeedCreditReturn (t : Nat) (s : State) : Host.Outcome State Fault Refusal := .next (s.runEvent t (fun s => s.feedCredit))

end Sys2Proof.Machine
end

