-- ==== Sys2Proof/Machine/SystemRows.lean ====
section
/-! DEFINITION. The rows of the command queues, firmware, flash, the serial ports, the registers, and the way from RESET to the end of BOOT. Each comes about at fabric time t; one that is not due changes nothing but the time. -/
namespace Sys2Proof.Machine

open Sys2Proof

/-- `FENCE_WAIT_END` (R51). -/
def execFenceWaitEnd (t : Nat) (queue : Nat) (s : State) : Host.Outcome State Fault Refusal := .next (s.runEvent t (fun s => s.fenceEnd queue))

/-- `SESSION_IDLE_TIMEOUT` (R37). -/
def execSessionIdleTimeout (t : Nat) (slot : Nat) (s : State) : Host.Outcome State Fault Refusal := .next (s.runEvent t (fun s => s.sessionIdle slot))

/-- `FIRMWARE_ACTIVATION_START` (R93). -/
def execFirmwareActivationStart (t : Nat) (s : State) : Host.Outcome State Fault Refusal := .next (s.runEvent t (fun s => s.activationStart))

/-- `FIRMWARE_RESTART_END` (R92). -/
def execFirmwareRestartEnd (t : Nat) (s : State) : Host.Outcome State Fault Refusal := .next (s.runEvent t (fun s => s.restartEnd.takeArrivals))

/-- `FLASH_OPERATION_DONE` (R556). -/
def execFlashOperationDone (t : Nat) (status : Byte) (s : State) : Host.Outcome State Fault Refusal := .next (s.event t (fun s => s.flashDone status))

/-- `FLASH_OPERATION_TIMEOUT` (R556). -/
def execFlashOperationTimeout (t : Nat) (s : State) : Host.Outcome State Fault Refusal := .next (s.event t (fun s => s.flashTimeout))

/-- `FLASH_WINDOW_READ` (R557). -/
def execFlashWindowRead (t : Nat) (offset : Nat) (s : State) : Host.Outcome State Fault Refusal := .next (s.runEvent t (fun s => s.windowRead offset))

/-- `MPORT_READ_FRAME` (R547). -/
def execMportReadFrame (t : Nat) (f : SpiFrame) (s : State) : Host.Outcome State Fault Refusal := .next (s.runEvent t (fun s => s.slaveFrame f 1))

/-- `MPORT_WRITE_FRAME` (R548). -/
def execMportWriteFrame (t : Nat) (f : SpiFrame) (s : State) : Host.Outcome State Fault Refusal := .next (s.runEvent t (fun s => s.slaveFrame f 2))

/-- `MPORT_NOP_FRAME` (R544). -/
def execMportNopFrame (t : Nat) (f : SpiFrame) (s : State) : Host.Outcome State Fault Refusal := .next (s.runEvent t (fun s => s.slaveFrame f 0))

/-- `MAILBOX_PUSH` (R551). -/
def execMailboxPush (t : Nat) (f : SpiFrame) (s : State) : Host.Outcome State Fault Refusal := .next (s.runEvent t (fun s => s.slaveFrame f 3))

/-- `MAILBOX_PULL` (R551). -/
def execMailboxPull (t : Nat) (f : SpiFrame) (s : State) : Host.Outcome State Fault Refusal := .next (s.runEvent t (fun s => s.slaveFrame f 4))

/-- `MPORT_MASTER_POLL` (R550). -/
def execMportMasterPoll (t : Nat) (f : SpiFrame) (s : State) : Host.Outcome State Fault Refusal := .next (s.runEvent t (fun s => s.masterPoll f))

/-- `COMMAND_RING_READ` (R551). -/
def execCommandRingRead (t : Nat) (s : State) : Host.Outcome State Fault Refusal := .next (s.runEvent t (fun s => s.ringRead))

/-- `REPLY_RING_APPEND` (R552). -/
def execReplyRingAppend (t : Nat) (s : State) : Host.Outcome State Fault Refusal := .next (s.runEvent t (fun s => s.replyAppend))

/-- `FLUSH_CMD` (R553). -/
def execFlushCmd (t : Nat) (s : State) : Host.Outcome State Fault Refusal := .next (s.runEvent t (fun s => s.flushCommands))

/-- `FLUSH_REPLY` (R553). -/
def execFlushReply (t : Nat) (s : State) : Host.Outcome State Fault Refusal := .next (s.runEvent t (fun s => s.flushReplies))

/-- `SP0_CTRL_WRITE` (R550). -/
def execSp0CtrlWrite (t : Nat) (value : BitVec 32) (s : State) : Host.Outcome State Fault Refusal := .next (s.runEvent t (fun s => s.writeSp0 value.toNat))

/-- `SP1_CTRL_WRITE` (R555). -/
def execSp1CtrlWrite (t : Nat) (value : BitVec 32) (s : State) : Host.Outcome State Fault Refusal := .next (s.runEvent t (fun s => s.writeSp1 value.toNat))

/-- `TIME_SNAP_TAKE` (R561). -/
def execTimeSnapTake (t : Nat) (s : State) : Host.Outcome State Fault Refusal := .next (s.runEvent t (fun s => s.takeSnap))

/-- `SP_CNT_CLEAR` (R561). -/
def execSpCntClear (t : Nat) (s : State) : Host.Outcome State Fault Refusal := .next (s.runEvent t (fun s => s.clearSerial))

/-- `CAL_WINDOW_WRITE` (R479). -/
def execCalWindowWrite (t : Nat) (value : BitVec 32) (s : State) : Host.Outcome State Fault Refusal := .next (s.runEvent t (fun s => s.calWindow value.toNat))

/-- `CAL_IMAGE_WINDOW_WRITE` (R479). -/
def execCalImageWindowWrite (t : Nat) (addr : Nat) (value : BitVec 32) (s : State) : Host.Outcome State Fault Refusal := .next (s.runEvent t (fun s => s.calImageWindow addr value.toNat))

/-- `REGISTER_WRITE` (R548). -/
def execRegisterWrite (t : Nat) (addr : Nat) (value : BitVec 32) (s : State) : Host.Outcome State Fault Refusal := .next (s.runEvent t (fun s => s.writeReg addr value.toNat))

/-- `RESET_N_LOW` (R82). -/
def execResetNLow (t : Nat) (lowNs : Nat) (taken : Bool) (s : State) : Host.Outcome State Fault Refusal := .next (s.event t (fun s => s.resetLow lowNs taken))

/-- `LEAVE_RESET` (R82). -/
def execLeaveReset (t : Nat) (straps : Straps) (idStart : BitVec 32) (temps : List Int) (s : State) : Host.Outcome State Fault Refusal := .next (s.event t (fun s => s.leaveReset straps idStart temps))

/-- `RAIL_OUT_OF_REGULATION` (R81). -/
def execRailOutOfRegulation (t : Nat) (_rail : Rail) (ns : Nat) (s : State) : Host.Outcome State Fault Refusal := .next (s.event t (fun s => s.railOut ns))

/-- `SUPERVISOR_RELEASE` (R81). -/
def execSupervisorRelease (t : Nat) (s : State) : Host.Outcome State Fault Refusal := .next (s.event t (fun s => s.supervisorRelease))

/-- `MEMORY_SELF_TEST_END` (R84). -/
def execMemorySelfTestEnd (t : Nat) (single double : List (Nat × Nat)) (s : State) : Host.Outcome State Fault Refusal := .next (s.event t (fun s => s.selfTestEnd single double))

/-- `D2D_LINK_BRINGUP_END` (R85). -/
def execD2dLinkBringupEnd (t : Nat) (die : Nat) (locked : Bool) (failed : List Nat) (s : State) : Host.Outcome State Fault Refusal := .next (s.event t (fun s => s.bringupEnd die locked failed))

/-- `PATCH_READ_END` (R88). -/
def execPatchReadEnd (t : Nat) (s : State) : Host.Outcome State Fault Refusal := .next (s.event t (fun s => s.patchReadEnd))

/-- `BOOT_COMPLETE` (R90). -/
def execBootComplete (t : Nat) (s : State) : Host.Outcome State Fault Refusal := .next (s.event t (fun s => s.bootComplete))

end Sys2Proof.Machine
end

