-- ==== Sys2Proof/Machine/TwinRows.lean ====
section
/-! DEFINITION. The rows of the interlock and of the twin link. Each comes about at fabric time t; one that is not due changes nothing but the time. -/
namespace Sys2Proof.Machine

open Sys2Proof

/-- `HEARTBEAT_SEND` (R433). -/
def execHeartbeatSend (t : Nat) (path : HbPath) (s : State) : Host.Outcome State Fault Refusal := .next (s.runEvent t (fun s => s.heartbeatSend path))

/-- `HEARTBEAT_RECEIVE` (R433). -/
def execHeartbeatReceive (t : Nat) (path : HbPath) (msg : Bytes) (s : State) : Host.Outcome State Fault Refusal := .next (s.runEvent t (fun s => s.heartbeatTake path msg))

/-- `HEARTBEAT_PATH_DEAD` (R434). -/
def execHeartbeatPathDead (t : Nat) (path : HbPath) (s : State) : Host.Outcome State Fault Refusal := .next (s.runEvent t (fun s => s.pathDead path))

/-- `DUTY_IN_CHANGE` (R434). -/
def execDutyInChange (t : Nat) (level : Bool) (s : State) : Host.Outcome State Fault Refusal := .next (s.event t (fun s => s.dutyInChange level))

/-- `CLAIM_WINDOW_END` (R432). -/
def execClaimWindowEnd (t : Nat) (s : State) : Host.Outcome State Fault Refusal := .next (s.runEvent t (fun s => s.claimEnd))

/-- `DUTY_KEEPER_DROP` (R433). -/
def execDutyKeeperDrop (t : Nat) (s : State) : Host.Outcome State Fault Refusal := .next (s.runEvent t (fun s => s.keeperDrop))

/-- `TWIN_CYCLE_END` (R441). -/
def execTwinCycleEnd (t : Nat) (s : State) : Host.Outcome State Fault Refusal := .next (s.runEvent t (fun s => s.twinCycle))

/-- `COPY_RECEIVE` (R443). -/
def execCopyReceive (t : Nat) (msg : Bytes) (s : State) : Host.Outcome State Fault Refusal := .next (s.runEvent t (fun s => s.twinRow 2 msg))

/-- `COPY_ACK_RECEIVE` (R444). -/
def execCopyAckReceive (t : Nat) (msg : Bytes) (s : State) : Host.Outcome State Fault Refusal := .next (s.runEvent t (fun s => s.twinRow 3 msg))

/-- `MIRROR_RECEIVE` (R440). -/
def execMirrorReceive (t : Nat) (msg : Bytes) (s : State) : Host.Outcome State Fault Refusal := .next (s.runEvent t (fun s => s.twinRow 4 msg))

/-- `MIRROR_DONE_RECEIVE` (R440). -/
def execMirrorDoneReceive (t : Nat) (msg : Bytes) (s : State) : Host.Outcome State Fault Refusal := .next (s.runEvent t (fun s => s.twinRow 5 msg))

/-- `MIRROR_TIMEOUT` (R440). -/
def execMirrorTimeout (t : Nat) (number : Nat) (s : State) : Host.Outcome State Fault Refusal := .next (s.runEvent t (fun s => s.mirrorTimeout number))

/-- `RELAY_RECEIVE` (R453). -/
def execRelayReceive (t : Nat) (msg : Bytes) (s : State) : Host.Outcome State Fault Refusal := .next (s.runEvent t (fun s => s.twinRow 6 msg))

/-- `RELAY_REPLY_RECEIVE` (R453). -/
def execRelayReplyReceive (t : Nat) (msg : Bytes) (s : State) : Host.Outcome State Fault Refusal := .next (s.runEvent t (fun s => s.twinRow 7 msg))

/-- `TWIN_TRIGGER_RECEIVE` (R454). -/
def execTwinTriggerReceive (t : Nat) (msg : Bytes) (s : State) : Host.Outcome State Fault Refusal := .next (s.runEvent t (fun s => s.twinRow 8 msg))

/-- `GANG_PARTNER_RECORD` (R453). -/
def execGangPartnerRecord (t : Nat) (record : Bytes) (s : State) : Host.Outcome State Fault Refusal := .next (s.runEvent t (fun s => s.gangRecord record none))

/-- `YIELD_TIMEOUT` (R449). -/
def execYieldTimeout (t : Nat) (s : State) : Host.Outcome State Fault Refusal := .next (s.runEvent t (fun s => s.yieldDuty))

/-- `PAIRING_TIMEOUT` (R458). -/
def execPairingTimeout (t : Nat) (s : State) : Host.Outcome State Fault Refusal := .next (s.runEvent t (fun s => s.pairingTimeout))

/-- `PAIR_FORMED` (R437). -/
def execPairFormed (t : Nat) (s : State) : Host.Outcome State Fault Refusal := .next (s.runEvent t (fun s => s.formPair))

end Sys2Proof.Machine
end

