-- ==== Sys2Proof/Machine/UpkeepRows.lean ====
section
/-! DEFINITION. The rows of calibration, power, the sluice, the safety island, and faults. Each comes about at fabric time t; one that is not due changes nothing but the time. -/
namespace Sys2Proof.Machine

open Sys2Proof

/-- `ROTATION_TRIGGER` (R464). -/
def execRotationTrigger (t : Nat) (temps : List Int) (s : State) : Host.Outcome State Fault Refusal := .next (s.runEvent t (fun s => s.rotationTrigger temps))

/-- `CONVERTER_LOAN_END` (R467). -/
def execConverterLoanEnd (t : Nat) (weights : List Int) (offset : Int) (s : State) : Host.Outcome State Fault Refusal := .next (s.runEvent t (fun s => s.loanEnd weights offset))

/-- `TDC_SELF_MEASURE` (R464). -/
def execTdcSelfMeasure (t : Nat) (ch fs : Nat) (s : State) : Host.Outcome State Fault Refusal := .next (s.runEvent t (fun s => s.tdcMeasured ch fs))

/-- `FOREGROUND_PAN_START` (R470). -/
def execForegroundPanStart (t : Nat) (pan : Nat) (vcal senseErr : Int) (s : State) : Host.Outcome State Fault Refusal := .next (s.runEvent t (fun s => s.forePanStart pan vcal senseErr))

/-- `FOREGROUND_PAN_END` (R472). -/
def execForegroundPanEnd (t : Nat) (pan : Nat) (results : PanResults) (s : State) : Host.Outcome State Fault Refusal := .next (s.runEvent t (fun s => s.forePanEnd pan results))

/-- `GROUP_IDLE_TIMEOUT` (R485). -/
def execGroupIdleTimeout (t : Nat) (group : Nat) (s : State) : Host.Outcome State Fault Refusal := .next (s.runEvent t (fun s => s.groupIdle group))

/-- `GROUP_WAKE` (R486). -/
def execGroupWake (t : Nat) (group : Nat) (s : State) : Host.Outcome State Fault Refusal := .next (s.runEvent t (fun s => s.groupWake group))

/-- `DORMANT_ENTRY` (R489). -/
def execDormantEntry (t : Nat) (s : State) : Host.Outcome State Fault Refusal := .next (s.runEvent t (fun s => s.enterDormant))

/-- `DORMANT_EXIT` (R490). -/
def execDormantExit (t : Nat) (s : State) : Host.Outcome State Fault Refusal := .next (s.runEvent t (fun s => s.leaveDormant))

/-- `WAKE_HOLD_EXPIRY` (R490). -/
def execWakeHoldExpiry (t : Nat) (s : State) : Host.Outcome State Fault Refusal := .next (s.runEvent t (fun s => s.wakeHoldEnd))

/-- `SLUICE_REQUEST` (R491). -/
def execSluiceRequest (t : Nat) (op : Nat) (port : Port) (s : State) : Host.Outcome State Fault Refusal := .next (s.runEvent t (fun s => s.sluiceRequest op port))

/-- `SLUICE_GRANT` (R492). -/
def execSluiceGrant (t : Nat) (recovery : Bool) (s : State) : Host.Outcome State Fault Refusal := .next (s.runEvent t (fun s => s.sluiceGrant recovery))

/-- `SLUICE_TOKEN_RETURN` (R491). -/
def execSluiceTokenReturn (t : Nat) (op : Nat) (s : State) : Host.Outcome State Fault Refusal := .next (s.runEvent t (fun s => s.tokenReturn op))

/-- `SLUICE_TIMEOUT` (R495). -/
def execSluiceTimeout (t : Nat) (recovery : Bool) (s : State) : Host.Outcome State Fault Refusal := .next (s.runEvent t (fun s => s.sluiceTimeout recovery))

/-- `SAFETY_CYCLE` (R502). -/
def execSafetyCycle (t : Nat) (ch : SafeCh) (sin sfb : Nat) (srst : Bool) (selfTestOk : Bool) (s : State) : Host.Outcome State Fault Refusal := .next (s.event t (fun s => s.safetyCycle ch sin sfb srst selfTestOk))

/-- `CROSS_COMPARE_RECEIVE` (R503). -/
def execCrossCompareReceive (t : Nat) (ch : SafeCh) (s : State) : Host.Outcome State Fault Refusal := .next (s.event t (fun s => s.crossReceive ch))

/-- `TEST_PULSE_END` (R513). -/
def execTestPulseEnd (t : Nat) (ch : SafeCh) (pair : Nat) (sfbLow : Bool) (s : State) : Host.Outcome State Fault Refusal := .next (s.event t (fun s => s.pulseEnd ch pair sfbLow))

/-- `SAFETY_RAIL_FAULT` (R504). -/
def execSafetyRailFault (t : Nat) (ch : SafeCh) (s : State) : Host.Outcome State Fault Refusal := .next (s.event t (fun s => s.railFault ch))

/-- `HUB_ENABLE_CHANGE` (R505). -/
def execHubEnableChange (t : Nat) (ch : SafeCh) (level : Bool) (s : State) : Host.Outcome State Fault Refusal := .next (s.event t (fun s => s.enableChange ch level))

/-- `SAFETY_SET_PENDING_TIMEOUT` (R518). -/
def execSafetySetPendingTimeout (t : Nat) (s : State) : Host.Outcome State Fault Refusal := .next (s.event t (fun s => s.setTimeout))

/-- `ECC_READ_ERROR` (R528). -/
def execEccReadError (t : Nat) (store word : Nat) (double : Bool) (s : State) : Host.Outcome State Fault Refusal := .next (s.runEvent t (fun s => s.eccReadError store word double))

/-- `SCRUB_PASS_START` (R529). -/
def execScrubPassStart (t : Nat) (s : State) : Host.Outcome State Fault Refusal := .next (s.runEvent t (fun s => s.scrubStart))

/-- `SCRUB_PASS_END` (R529). -/
def execScrubPassEnd (t : Nat) (s : State) : Host.Outcome State Fault Refusal := .next (s.runEvent t (fun s => s.scrubEndPass))

/-- `AFE_LOST` (R530). -/
def execAfeLost (t : Nat) (die cause lanes : Nat) (s : State) : Host.Outcome State Fault Refusal := .next (s.runEvent t (fun s => s.declareLost die cause lanes))

/-- `AFE_END_STROBE` (R531). -/
def execAfeEndStrobe (t : Nat) (die : Nat) (s : State) : Host.Outcome State Fault Refusal := .next (s.runEvent t (fun s => s.endLost die))

/-- `WATCHDOG_EXPIRY` (R532). -/
def execWatchdogExpiry (t : Nat) (s : State) : Host.Outcome State Fault Refusal := .next (s.runEvent t (fun s => s.watchdog))

/-- `ISLAND_DEAD` (R534). -/
def execIslandDead (t : Nat) (i : Island) (s : State) : Host.Outcome State Fault Refusal := .next (s.runEvent t (fun s => s.islandDead i))

/-- `FW_SLOT_VERIFY_END` (R101). -/
def execFwSlotVerifyEnd (t : Nat) (s : State) : Host.Outcome State Fault Refusal := .next (s.runEvent t (fun s => s.slotVerified))

/-- `LOCAL_TIME_LOCK` (R97). -/
def execLocalTimeLock (t : Nat) (s : State) : Host.Outcome State Fault Refusal := .next (s.runEvent t (fun s => s.localLock))

/-- `LANE_TEST_END` (R366). -/
def execLaneTestEnd (t : Nat) (port : Port) (bits errs : List Nat) (s : State) : Host.Outcome State Fault Refusal := .next (s.runEvent t (fun s => s.laneTestEnd port bits errs))

/-- `LANE_OFF_WAKE_TIMEOUT` (R365). -/
def execLaneOffWakeTimeout (t : Nat) (port : Port) (s : State) : Host.Outcome State Fault Refusal := .next (s.runEvent t (fun s => s.wakeTimeout port))

/-- `MARKER_LOCK_LOST` (R349). -/
def execMarkerLockLost (t : Nat) (port : Port) (lane : LaneSeen) (s : State) : Host.Outcome State Fault Refusal := .next (s.runEvent t (fun s => s.markerLost port lane.lane lane.markers))

/-- `IDLE_ENTRY_BLOCK_RECEIVE` (R361). -/
def execIdleEntryBlockReceive (t : Nat) (port : Port) (lane : Nat) (s : State) : Host.Outcome State Fault Refusal := .next (s.runEvent t (fun s => s.idleHeard port lane))

/-- `COPY_ACK_TIMEOUT` (R441). -/
def execCopyAckTimeout (t : Nat) (s : State) : Host.Outcome State Fault Refusal := .next (s.runEvent t (fun s => s.copyLate))

/-- `SAFETY_CHANNEL_START` (R504). -/
def execSafetyChannelStart (t : Nat) (ch : SafeCh) (s : State) : Host.Outcome State Fault Refusal := .next (s.event t (fun s => s.channelStart ch))

end Sys2Proof.Machine
end

