-- ==== Sys2Proof/Machine/Dispatch.lean ====
section
/-! DEFINITION. One arm for each command of the block. -/
namespace Sys2Proof.Machine

open Sys2Proof

def exec (i : Instr) (s : State) : Host.Outcome State Fault Refusal :=
  match i with
  | .hello o c => Sys2Proof.Machine.execHello o c s
  | .getInfo o c => Sys2Proof.Machine.execGetInfo o c s
  | .goodbye o c => Sys2Proof.Machine.execGoodbye o c s
  | .echo o c => Sys2Proof.Machine.execEcho o c s
  | .cmdAbort o c => Sys2Proof.Machine.execCmdAbort o c s
  | .cmdQuery o c => Sys2Proof.Machine.execCmdQuery o c s
  | .cmdStats o c => Sys2Proof.Machine.execCmdStats o c s
  | .fenceWaitEnd t queue => Sys2Proof.Machine.execFenceWaitEnd t queue s
  | .sessionIdleTimeout t slot => Sys2Proof.Machine.execSessionIdleTimeout t slot s
  | .stateGet o c => Sys2Proof.Machine.execStateGet o c s
  | .stateHistory o c => Sys2Proof.Machine.execStateHistory o c s
  | .stateRun o c => Sys2Proof.Machine.execStateRun o c s
  | .stateStop o c => Sys2Proof.Machine.execStateStop o c s
  | .stateGoLocal o c => Sys2Proof.Machine.execStateGoLocal o c s
  | .stateReset o c => Sys2Proof.Machine.execStateReset o c s
  | .stateLeaveFault o c => Sys2Proof.Machine.execStateLeaveFault o c s
  | .fwGetStatus o c => Sys2Proof.Machine.execFwGetStatus o c s
  | .fwVerify o c => Sys2Proof.Machine.execFwVerify o c s
  | .fwActivate o c => Sys2Proof.Machine.execFwActivate o c s
  | .firmwareActivationStart t => Sys2Proof.Machine.execFirmwareActivationStart t s
  | .firmwareRestartEnd t => Sys2Proof.Machine.execFirmwareRestartEnd t s
  | .panGetConfig o c => Sys2Proof.Machine.execPanGetConfig o c s
  | .panReadResults o c => Sys2Proof.Machine.execPanReadResults o c s
  | .compGet o c => Sys2Proof.Machine.execCompGet o c s
  | .panGetStatus o c => Sys2Proof.Machine.execPanGetStatus o c s
  | .panPower o c => Sys2Proof.Machine.execPanPower o c s
  | .panSetGain o c => Sys2Proof.Machine.execPanSetGain o c s
  | .panSetFilter o c => Sys2Proof.Machine.execPanSetFilter o c s
  | .panSetSequence o c => Sys2Proof.Machine.execPanSetSequence o c s
  | .panSpot o c => Sys2Proof.Machine.execPanSpot o c s
  | .panSetTestDac o c => Sys2Proof.Machine.execPanSetTestDac o c s
  | .compSet o c => Sys2Proof.Machine.execCompSet o c s
  | .tripSet o c => Sys2Proof.Machine.execTripSet o c s
  | .panSubstitute o c => Sys2Proof.Machine.execPanSubstitute o c s
  | .gridGetConfig o c => Sys2Proof.Machine.execGridGetConfig o c s
  | .gridGetStatus o c => Sys2Proof.Machine.execGridGetStatus o c s
  | .gridGetDelays o c => Sys2Proof.Machine.execGridGetDelays o c s
  | .gridSetOrigin o c => Sys2Proof.Machine.execGridSetOrigin o c s
  | .gridSetPeriod o c => Sys2Proof.Machine.execGridSetPeriod o c s
  | .gridSetDivisor o c => Sys2Proof.Machine.execGridSetDivisor o c s
  | .gridSetDelay o c => Sys2Proof.Machine.execGridSetDelay o c s
  | .recipeGet o c => Sys2Proof.Machine.execRecipeGet o c s
  | .recipeReadBank o c => Sys2Proof.Machine.execRecipeReadBank o c s
  | .recipeGetAssign o c => Sys2Proof.Machine.execRecipeGetAssign o c s
  | .recipeGetStats o c => Sys2Proof.Machine.execRecipeGetStats o c s
  | .reduceGet o c => Sys2Proof.Machine.execReduceGet o c s
  | .recipeDefine o c => Sys2Proof.Machine.execRecipeDefine o c s
  | .recipeLoadCoefs o c => Sys2Proof.Machine.execRecipeLoadCoefs o c s
  | .recipeSetShifts o c => Sys2Proof.Machine.execRecipeSetShifts o c s
  | .recipeAssign o c => Sys2Proof.Machine.execRecipeAssign o c s
  | .recipeSwap o c => Sys2Proof.Machine.execRecipeSwap o c s
  | .recipeReset o c => Sys2Proof.Machine.execRecipeReset o c s
  | .reduceSet o c => Sys2Proof.Machine.execReduceSet o c s
  | .captureGet o c => Sys2Proof.Machine.execCaptureGet o c s
  | .captureGetStatus o c => Sys2Proof.Machine.execCaptureGetStatus o c s
  | .captureGetMemory o c => Sys2Proof.Machine.execCaptureGetMemory o c s
  | .captureListHeld o c => Sys2Proof.Machine.execCaptureListHeld o c s
  | .captureDefine o c => Sys2Proof.Machine.execCaptureDefine o c s
  | .captureSetTrigger o c => Sys2Proof.Machine.execCaptureSetTrigger o c s
  | .captureEnable o c => Sys2Proof.Machine.execCaptureEnable o c s
  | .captureForce o c => Sys2Proof.Machine.execCaptureForce o c s
  | .captureReadout o c => Sys2Proof.Machine.execCaptureReadout o c s
  | .captureRelease o c => Sys2Proof.Machine.execCaptureRelease o c s
  | .captureSetMeasure o c => Sys2Proof.Machine.execCaptureSetMeasure o c s
  | .captureFree o c => Sys2Proof.Machine.execCaptureFree o c s
  | .edgeGetConfig o c => Sys2Proof.Machine.execEdgeGetConfig o c s
  | .edgeGetStatus o c => Sys2Proof.Machine.execEdgeGetStatus o c s
  | .measGet o c => Sys2Proof.Machine.execMeasGet o c s
  | .edgeSetInput o c => Sys2Proof.Machine.execEdgeSetInput o c s
  | .edgeSetStream o c => Sys2Proof.Machine.execEdgeSetStream o c s
  | .measSetInterval o c => Sys2Proof.Machine.execMeasSetInterval o c s
  | .measSetFrequency o c => Sys2Proof.Machine.execMeasSetFrequency o c s
  | .measOff o c => Sys2Proof.Machine.execMeasOff o c s
  | .kilnGetCoding o c => Sys2Proof.Machine.execKilnGetCoding o c s
  | .kilnGetStatus o c => Sys2Proof.Machine.execKilnGetStatus o c s
  | .kilnJobGet o c => Sys2Proof.Machine.execKilnJobGet o c s
  | .kilnRead o c => Sys2Proof.Machine.execKilnRead o c s
  | .kilnGetState o c => Sys2Proof.Machine.execKilnGetState o c s
  | .kilnSetCoding o c => Sys2Proof.Machine.execKilnSetCoding o c s
  | .kilnSetState o c => Sys2Proof.Machine.execKilnSetState o c s
  | .kilnTap o c => Sys2Proof.Machine.execKilnTap o c s
  | .kilnWorkspace o c => Sys2Proof.Machine.execKilnWorkspace o c s
  | .kilnWrite o c => Sys2Proof.Machine.execKilnWrite o c s
  | .kilnJobStart o c => Sys2Proof.Machine.execKilnJobStart o c s
  | .kilnJobResume o c => Sys2Proof.Machine.execKilnJobResume o c s
  | .streamGet o c => Sys2Proof.Machine.execStreamGet o c s
  | .streamGetOutbound o c => Sys2Proof.Machine.execStreamGetOutbound o c s
  | .streamList o c => Sys2Proof.Machine.execStreamList o c s
  | .feedGetStatus o c => Sys2Proof.Machine.execFeedGetStatus o c s
  | .streamSetEnable o c => Sys2Proof.Machine.execStreamSetEnable o c s
  | .streamSetRecord o c => Sys2Proof.Machine.execStreamSetRecord o c s
  | .streamAck o c => Sys2Proof.Machine.execStreamAck o c s
  | .streamDropRest o c => Sys2Proof.Machine.execStreamDropRest o c s
  | .streamSetFormat o c => Sys2Proof.Machine.execStreamSetFormat o c s
  | .streamSetSpill o c => Sys2Proof.Machine.execStreamSetSpill o c s
  | .feedSetConfig o c => Sys2Proof.Machine.execFeedSetConfig o c s
  | .feedSetChannel o c => Sys2Proof.Machine.execFeedSetChannel o c s
  | .feedFlush o c => Sys2Proof.Machine.execFeedFlush o c s
  | .laneGetStatus o c => Sys2Proof.Machine.execLaneGetStatus o c s
  | .laneGetEq o c => Sys2Proof.Machine.execLaneGetEq o c s
  | .laneGetCounters o c => Sys2Proof.Machine.execLaneGetCounters o c s
  | .laneSetRates o c => Sys2Proof.Machine.execLaneSetRates o c s
  | .laneRetrain o c => Sys2Proof.Machine.execLaneRetrain o c s
  | .laneSetEq o c => Sys2Proof.Machine.execLaneSetEq o c s
  | .lanePortEnable o c => Sys2Proof.Machine.execLanePortEnable o c s
  | .laneTest o c => Sys2Proof.Machine.execLaneTest o c s
  | .fabricGetPort o c => Sys2Proof.Machine.execFabricGetPort o c s
  | .fabricGetCounters o c => Sys2Proof.Machine.execFabricGetCounters o c s
  | .fabricGetRoutes o c => Sys2Proof.Machine.execFabricGetRoutes o c s
  | .fabricGetConfig o c => Sys2Proof.Machine.execFabricGetConfig o c s
  | .fabricSetCredit o c => Sys2Proof.Machine.execFabricSetCredit o c s
  | .fabricSetLimits o c => Sys2Proof.Machine.execFabricSetLimits o c s
  | .fabricLeave o c => Sys2Proof.Machine.execFabricLeave o c s
  | .fabricRejoin o c => Sys2Proof.Machine.execFabricRejoin o c s
  | .fabricSetVersions o c => Sys2Proof.Machine.execFabricSetVersions o c s
  | .timeGetStatus o c => Sys2Proof.Machine.execTimeGetStatus o c s
  | .timeGetPort o c => Sys2Proof.Machine.execTimeGetPort o c s
  | .timeGetPps o c => Sys2Proof.Machine.execTimeGetPps o c s
  | .timeSetServo o c => Sys2Proof.Machine.execTimeSetServo o c s
  | .timeSetAsymmetry o c => Sys2Proof.Machine.execTimeSetAsymmetry o c s
  | .timeSetAgeing o c => Sys2Proof.Machine.execTimeSetAgeing o c s
  | .timeSetOutputs o c => Sys2Proof.Machine.execTimeSetOutputs o c s
  | .timeSetLocalRef o c => Sys2Proof.Machine.execTimeSetLocalRef o c s
  | .twinGetStatus o c => Sys2Proof.Machine.execTwinGetStatus o c s
  | .twinGetCounters o c => Sys2Proof.Machine.execTwinGetCounters o c s
  | .twinSetMode o c => Sys2Proof.Machine.execTwinSetMode o c s
  | .twinSetTiming o c => Sys2Proof.Machine.execTwinSetTiming o c s
  | .twinSwap o c => Sys2Proof.Machine.execTwinSwap o c s
  | .twinRelay o c => Sys2Proof.Machine.execTwinRelay o c s
  | .calGetStatus o c => Sys2Proof.Machine.execCalGetStatus o c s
  | .calRead o c => Sys2Proof.Machine.execCalRead o c s
  | .calSetMode o c => Sys2Proof.Machine.execCalSetMode o c s
  | .calSetReference o c => Sys2Proof.Machine.execCalSetReference o c s
  | .calRun o c => Sys2Proof.Machine.execCalRun o c s
  | .calWrite o c => Sys2Proof.Machine.execCalWrite o c s
  | .calStage o c => Sys2Proof.Machine.execCalStage o c s
  | .calApply o c => Sys2Proof.Machine.execCalApply o c s
  | .powerGetStatus o c => Sys2Proof.Machine.execPowerGetStatus o c s
  | .sluiceGetStatus o c => Sys2Proof.Machine.execSluiceGetStatus o c s
  | .powerSetTolerance o c => Sys2Proof.Machine.execPowerSetTolerance o c s
  | .sluiceSetBudget o c => Sys2Proof.Machine.execSluiceSetBudget o c s
  | .powerWake o c => Sys2Proof.Machine.execPowerWake o c s
  | .safetyGetStatus o c => Sys2Proof.Machine.execSafetyGetStatus o c s
  | .safetyGetParams o c => Sys2Proof.Machine.execSafetyGetParams o c s
  | .safetyGetCounters o c => Sys2Proof.Machine.execSafetyGetCounters o c s
  | .safetyWrite o c => Sys2Proof.Machine.execSafetyWrite o c s
  | .safetyConfirm o c => Sys2Proof.Machine.execSafetyConfirm o c s
  | .safetyDiscard o c => Sys2Proof.Machine.execSafetyDiscard o c s
  | .faultGetSummary o c => Sys2Proof.Machine.execFaultGetSummary o c s
  | .faultReadLog o c => Sys2Proof.Machine.execFaultReadLog o c s
  | .faultGetMemory o c => Sys2Proof.Machine.execFaultGetMemory o c s
  | .diagGetTemps o c => Sys2Proof.Machine.execDiagGetTemps o c s
  | .faultClearLog o c => Sys2Proof.Machine.execFaultClearLog o c s
  | .faultSetScrub o c => Sys2Proof.Machine.execFaultSetScrub o c s
  | .faultSetMirror o c => Sys2Proof.Machine.execFaultSetMirror o c s
  | .diagInject o c => Sys2Proof.Machine.execDiagInject o c s
  | .flashGetInfo o c => Sys2Proof.Machine.execFlashGetInfo o c s
  | .flashRead o c => Sys2Proof.Machine.execFlashRead o c s
  | .flashErase o c => Sys2Proof.Machine.execFlashErase o c s
  | .flashProgram o c => Sys2Proof.Machine.execFlashProgram o c s
  | .spiTransfer o c => Sys2Proof.Machine.execSpiTransfer o c s
  | .flashOperationDone t status => Sys2Proof.Machine.execFlashOperationDone t status s
  | .flashOperationTimeout t => Sys2Proof.Machine.execFlashOperationTimeout t s
  | .flashWindowRead t offset => Sys2Proof.Machine.execFlashWindowRead t offset s
  | .mportReadFrame t f => Sys2Proof.Machine.execMportReadFrame t f s
  | .mportWriteFrame t f => Sys2Proof.Machine.execMportWriteFrame t f s
  | .mportNopFrame t f => Sys2Proof.Machine.execMportNopFrame t f s
  | .mailboxPush t f => Sys2Proof.Machine.execMailboxPush t f s
  | .mailboxPull t f => Sys2Proof.Machine.execMailboxPull t f s
  | .mportMasterPoll t f => Sys2Proof.Machine.execMportMasterPoll t f s
  | .commandRingRead t => Sys2Proof.Machine.execCommandRingRead t s
  | .replyRingAppend t => Sys2Proof.Machine.execReplyRingAppend t s
  | .flushCmd t => Sys2Proof.Machine.execFlushCmd t s
  | .flushReply t => Sys2Proof.Machine.execFlushReply t s
  | .sp0CtrlWrite t value => Sys2Proof.Machine.execSp0CtrlWrite t value s
  | .sp1CtrlWrite t value => Sys2Proof.Machine.execSp1CtrlWrite t value s
  | .timeSnapTake t => Sys2Proof.Machine.execTimeSnapTake t s
  | .spCntClear t => Sys2Proof.Machine.execSpCntClear t s
  | .calWindowWrite t value => Sys2Proof.Machine.execCalWindowWrite t value s
  | .calImageWindowWrite t addr value => Sys2Proof.Machine.execCalImageWindowWrite t addr value s
  | .registerWrite t addr value => Sys2Proof.Machine.execRegisterWrite t addr value s
  | .resetNLow t lowNs taken => Sys2Proof.Machine.execResetNLow t lowNs taken s
  | .leaveReset t straps idStart temps => Sys2Proof.Machine.execLeaveReset t straps idStart temps s
  | .railOutOfRegulation t rail ns => Sys2Proof.Machine.execRailOutOfRegulation t rail ns s
  | .supervisorRelease t => Sys2Proof.Machine.execSupervisorRelease t s
  | .memorySelfTestEnd t single double => Sys2Proof.Machine.execMemorySelfTestEnd t single double s
  | .d2dLinkBringupEnd t die locked failed => Sys2Proof.Machine.execD2dLinkBringupEnd t die locked failed s
  | .patchReadEnd t => Sys2Proof.Machine.execPatchReadEnd t s
  | .bootComplete t => Sys2Proof.Machine.execBootComplete t s
  | .d2dLaneFailure t die lane => Sys2Proof.Machine.execD2dLaneFailure t die lane s
  | .gridStrobe t k => Sys2Proof.Machine.execGridStrobe t k s
  | .strobeMessageSend t pan k => Sys2Proof.Machine.execStrobeMessageSend t pan k s
  | .strobeMessageReceive t pan => Sys2Proof.Machine.execStrobeMessageReceive t pan s
  | .epochBoundary t => Sys2Proof.Machine.execEpochBoundary t s
  | .conversionEnd t pan c => Sys2Proof.Machine.execConversionEnd t pan c s
  | .urgentSlotBoundary t pan c => Sys2Proof.Machine.execUrgentSlotBoundary t pan c s
  | .spotReplyTimeout t => Sys2Proof.Machine.execSpotReplyTimeout t s
  | .urgentRequestEndUnserved t pan => Sys2Proof.Machine.execUrgentRequestEndUnserved t pan s
  | .comparatorCrossing t ch input => Sys2Proof.Machine.execComparatorCrossing t ch input s
  | .tdcConversionEnd t ch beats => Sys2Proof.Machine.execTdcConversionEnd t ch beats s
  | .comparatorEventDelivery t pan => Sys2Proof.Machine.execComparatorEventDelivery t pan s
  | .overloadIntervalEnd t => Sys2Proof.Machine.execOverloadIntervalEnd t s
  | .sampleArrivalMash t src => Sys2Proof.Machine.execSampleArrivalMash t src s
  | .captureSample t => Sys2Proof.Machine.execCaptureSample t s
  | .caskHandover t group => Sys2Proof.Machine.execCaskHandover t group s
  | .timedTriggerApply t entry => Sys2Proof.Machine.execTimedTriggerApply t entry s
  | .scheduleTime t group term => Sys2Proof.Machine.execScheduleTime t group term s
  | .fabricTriggerReceive t msg => Sys2Proof.Machine.execFabricTriggerReceive t msg s
  | .edgeArrival t input rising => Sys2Proof.Machine.execEdgeArrival t input rising s
  | .interpolatorStampEnd t input b code a1 a2 => Sys2Proof.Machine.execInterpolatorStampEnd t input b code a1 a2 s
  | .interpolatorCalRepeat t input b a1 a2 => Sys2Proof.Machine.execInterpolatorCalRepeat t input b a1 a2 s
  | .stampArrivalMem t input => Sys2Proof.Machine.execStampArrivalMem t input s
  | .intervalTimeout t unit => Sys2Proof.Machine.execIntervalTimeout t unit s
  | .frequencyGateEnd t unit => Sys2Proof.Machine.execFrequencyGateEnd t unit s
  | .recordLatencyExpiry t stream => Sys2Proof.Machine.execRecordLatencyExpiry t stream s
  | .recordAdmit t => Sys2Proof.Machine.execRecordAdmit t s
  | .pendingGapTimeout t stream => Sys2Proof.Machine.execPendingGapTimeout t stream s
  | .eventEntryArise t => Sys2Proof.Machine.execEventEntryArise t s
  | .upRecordSend t => Sys2Proof.Machine.execUpRecordSend t s
  | .spillDrain t => Sys2Proof.Machine.execSpillDrain t s
  | .kilnRecordCode t lane failedBlocks => Sys2Proof.Machine.execKilnRecordCode t lane failedBlocks s
  | .tapRecordDecode t tap => Sys2Proof.Machine.execTapRecordDecode t tap s
  | .kilnJobBlock t => Sys2Proof.Machine.execKilnJobBlock t s
  | .feedItem t item => Sys2Proof.Machine.execFeedItem t item s
  | .feedSyncItem t item => Sys2Proof.Machine.execFeedSyncItem t item s
  | .feedValidLow t bytes => Sys2Proof.Machine.execFeedValidLow t bytes s
  | .feedWatermark t => Sys2Proof.Machine.execFeedWatermark t s
  | .feedCreditReturn t => Sys2Proof.Machine.execFeedCreditReturn t s
  | .trainingStepAdvance t port r => Sys2Proof.Machine.execTrainingStepAdvance t port r s
  | .trainingStepLimit t port => Sys2Proof.Machine.execTrainingStepLimit t port s
  | .verifyEnd t port errs => Sys2Proof.Machine.execVerifyEnd t port errs s
  | .trainingRestartWait t port => Sys2Proof.Machine.execTrainingRestartWait t port s
  | .lossOfSignal t port lane d asserted => Sys2Proof.Machine.execLossOfSignal t port lane d asserted s
  | .laneFailed t port lane => Sys2Proof.Machine.execLaneFailed t port lane s
  | .degradeTrainingEnd t port passed => Sys2Proof.Machine.execDegradeTrainingEnd t port passed s
  | .electricalIdleEntry t port => Sys2Proof.Machine.execElectricalIdleEntry t port s
  | .portWake t port => Sys2Proof.Machine.execPortWake t port s
  | .wakeBurstFail t port lane => Sys2Proof.Machine.execWakeBurstFail t port lane s
  | .laneOffEntry t port => Sys2Proof.Machine.execLaneOffEntry t port s
  | .payloadReceive t port f => Sys2Proof.Machine.execPayloadReceive t port f s
  | .ackReceive t port f => Sys2Proof.Machine.execAckReceive t port f s
  | .nakReceive t port f => Sys2Proof.Machine.execNakReceive t port f s
  | .replayTimeout t port => Sys2Proof.Machine.execReplayTimeout t port s
  | .creditReceive t port f => Sys2Proof.Machine.execCreditReceive t port f s
  | .creditSendTimer t port => Sys2Proof.Machine.execCreditSendTimer t port s
  | .helloSendTimer t port linkId => Sys2Proof.Machine.execHelloSendTimer t port linkId s
  | .helloReceive t port f => Sys2Proof.Machine.execHelloReceive t port f s
  | .abandonReceive t port f => Sys2Proof.Machine.execAbandonReceive t port f s
  | .attachReceive t port f => Sys2Proof.Machine.execAttachReceive t port f s
  | .assignReceive t port f => Sys2Proof.Machine.execAssignReceive t port f s
  | .restartEntriesTimeout t => Sys2Proof.Machine.execRestartEntriesTimeout t s
  | .detachReceive t port f => Sys2Proof.Machine.execDetachReceive t port f s
  | .unreachableReceive t port f => Sys2Proof.Machine.execUnreachableReceive t port f s
  | .partnerLost t port => Sys2Proof.Machine.execPartnerLost t port s
  | .upDetached t => Sys2Proof.Machine.execUpDetached t s
  | .syncSendTimer t port txFrac => Sys2Proof.Machine.execSyncSendTimer t port txFrac s
  | .pdelayReqSend t port t1 => Sys2Proof.Machine.execPdelayReqSend t port t1 s
  | .pdelayReqReceive t port f t2 t3 => Sys2Proof.Machine.execPdelayReqReceive t port f t2 t3 s
  | .pdelayRespReceive t port f t4 => Sys2Proof.Machine.execPdelayRespReceive t port f t4 s
  | .syncReceive t port f rx => Sys2Proof.Machine.execSyncReceive t port f rx s
  | .syncMissing t => Sys2Proof.Machine.execSyncMissing t s
  | .bridgeTimeout t => Sys2Proof.Machine.execBridgeTimeout t s
  | .ppsInEdge t stamp => Sys2Proof.Machine.execPpsInEdge t stamp s
  | .trefInPresence t present freqErr => Sys2Proof.Machine.execTrefInPresence t present freqErr s
  | .ppsOutSecond t => Sys2Proof.Machine.execPpsOutSecond t s
  | .heartbeatSend t path => Sys2Proof.Machine.execHeartbeatSend t path s
  | .heartbeatReceive t path msg => Sys2Proof.Machine.execHeartbeatReceive t path msg s
  | .heartbeatPathDead t path => Sys2Proof.Machine.execHeartbeatPathDead t path s
  | .dutyInChange t level => Sys2Proof.Machine.execDutyInChange t level s
  | .claimWindowEnd t => Sys2Proof.Machine.execClaimWindowEnd t s
  | .dutyKeeperDrop t => Sys2Proof.Machine.execDutyKeeperDrop t s
  | .twinCycleEnd t => Sys2Proof.Machine.execTwinCycleEnd t s
  | .copyReceive t msg => Sys2Proof.Machine.execCopyReceive t msg s
  | .copyAckReceive t msg => Sys2Proof.Machine.execCopyAckReceive t msg s
  | .mirrorReceive t msg => Sys2Proof.Machine.execMirrorReceive t msg s
  | .mirrorDoneReceive t msg => Sys2Proof.Machine.execMirrorDoneReceive t msg s
  | .mirrorTimeout t number => Sys2Proof.Machine.execMirrorTimeout t number s
  | .relayReceive t msg => Sys2Proof.Machine.execRelayReceive t msg s
  | .relayReplyReceive t msg => Sys2Proof.Machine.execRelayReplyReceive t msg s
  | .twinTriggerReceive t msg => Sys2Proof.Machine.execTwinTriggerReceive t msg s
  | .gangPartnerRecord t record => Sys2Proof.Machine.execGangPartnerRecord t record s
  | .yieldTimeout t => Sys2Proof.Machine.execYieldTimeout t s
  | .pairingTimeout t => Sys2Proof.Machine.execPairingTimeout t s
  | .pairFormed t => Sys2Proof.Machine.execPairFormed t s
  | .rotationTrigger t temps => Sys2Proof.Machine.execRotationTrigger t temps s
  | .converterLoanEnd t weights offset => Sys2Proof.Machine.execConverterLoanEnd t weights offset s
  | .tdcSelfMeasure t ch fs => Sys2Proof.Machine.execTdcSelfMeasure t ch fs s
  | .foregroundPanStart t pan vcal senseErr => Sys2Proof.Machine.execForegroundPanStart t pan vcal senseErr s
  | .foregroundPanEnd t pan results => Sys2Proof.Machine.execForegroundPanEnd t pan results s
  | .groupIdleTimeout t group => Sys2Proof.Machine.execGroupIdleTimeout t group s
  | .groupWake t group => Sys2Proof.Machine.execGroupWake t group s
  | .dormantEntry t => Sys2Proof.Machine.execDormantEntry t s
  | .dormantExit t => Sys2Proof.Machine.execDormantExit t s
  | .wakeHoldExpiry t => Sys2Proof.Machine.execWakeHoldExpiry t s
  | .sluiceRequest t op port => Sys2Proof.Machine.execSluiceRequest t op port s
  | .sluiceGrant t recovery => Sys2Proof.Machine.execSluiceGrant t recovery s
  | .sluiceTokenReturn t op => Sys2Proof.Machine.execSluiceTokenReturn t op s
  | .sluiceTimeout t recovery => Sys2Proof.Machine.execSluiceTimeout t recovery s
  | .safetyCycle t ch sin sfb srst selfTestOk => Sys2Proof.Machine.execSafetyCycle t ch sin sfb srst selfTestOk s
  | .crossCompareReceive t ch => Sys2Proof.Machine.execCrossCompareReceive t ch s
  | .testPulseEnd t ch pair sfbLow => Sys2Proof.Machine.execTestPulseEnd t ch pair sfbLow s
  | .safetyRailFault t ch => Sys2Proof.Machine.execSafetyRailFault t ch s
  | .hubEnableChange t ch level => Sys2Proof.Machine.execHubEnableChange t ch level s
  | .safetySetPendingTimeout t => Sys2Proof.Machine.execSafetySetPendingTimeout t s
  | .eccReadError t store word double => Sys2Proof.Machine.execEccReadError t store word double s
  | .scrubPassStart t => Sys2Proof.Machine.execScrubPassStart t s
  | .scrubPassEnd t => Sys2Proof.Machine.execScrubPassEnd t s
  | .afeLost t die cause lanes => Sys2Proof.Machine.execAfeLost t die cause lanes s
  | .afeEndStrobe t die => Sys2Proof.Machine.execAfeEndStrobe t die s
  | .watchdogExpiry t => Sys2Proof.Machine.execWatchdogExpiry t s
  | .islandDead t island => Sys2Proof.Machine.execIslandDead t island s
  | .fwSlotVerifyEnd t => Sys2Proof.Machine.execFwSlotVerifyEnd t s
  | .localTimeLock t => Sys2Proof.Machine.execLocalTimeLock t s
  | .laneTestEnd t port bits errs => Sys2Proof.Machine.execLaneTestEnd t port bits errs s
  | .laneOffWakeTimeout t port => Sys2Proof.Machine.execLaneOffWakeTimeout t port s
  | .markerLockLost t port lane => Sys2Proof.Machine.execMarkerLockLost t port lane s
  | .idleEntryBlockReceive t port lane => Sys2Proof.Machine.execIdleEntryBlockReceive t port lane s
  | .copyAckTimeout t => Sys2Proof.Machine.execCopyAckTimeout t s
  | .safetyChannelStart t ch => Sys2Proof.Machine.execSafetyChannelStart t ch s

end Sys2Proof.Machine
end

