-- ==== Sys2Proof/Safety.lean ====
section
/-! DEFINITION. What the claims about the block speak of: the invariant that every step keeps, a hub at rest, a command whose turn has come, and what follows when it has been carried out. -/
namespace Sys2Proof.Machine

open Sys2Proof

/-! ## The invariant -/

/-- Once RESET is left: a Fatal fault logged outside BOOT holds the hub in FAULT_HOLD (R77), what has been formed has left unless the firmware pauses (R20, R21), config_gen is notified (R49), and the TRIP outputs show what drives them (R130). -/
def State.sound (s : State) : Prop :=
  s.sys.hub ≠ .reset →
    (s.faults.fatal.isSome → s.sys.hub = .boot ∨ s.sys.hub = .faultHold) ∧
    (s.sys.fwPaused = false → s.cmds.waiting = [] ∧ s.streams.notified = s.sys.configGen) ∧
    s.front.tripPins = s.tripLevels

/-! ## A hub at rest -/

/-- Whether the present conditions call for no transition of the hub's state (R73, R77), for a hub without a pair. -/
def State.stands (s : State) : Bool :=
  let lost := s.time.phase == 7 || s.time.phase == 8
  match s.sys.hub with
  | .run | .reconfigure | .ready | .dormant => !lost
  | .holdover => s.time.phase != 5
  | _ => true

/-- Whether no reply or notice has left without being noted, and every command held has something to come. -/
def State.noted (s : State) : Bool := s.cmds.held.all (fun h => h.replyOut.all s.stillHere && h.noticeOut.all s.stillHere && !h.over)

/-- Nothing waits on a condition that has come about, no queued command can start, and the interlock has nothing to judge: a hub that settles without further work. -/
def State.rests (s : State) : Bool :=
  s.sys.hub != .reset && s.stands && s.noted && s.twin.mode == 0 && !s.twin.startDue && s.twin.pairRefs.isEmpty && s.twin.swapStage == 0 && s.faults.fatal.isNone && !s.sys.fwRestartDue
    && s.capture.own.isEmpty && s.capture.linked.isEmpty && s.capture.issued.isEmpty && s.capture.groups.all (fun e => e.2.waiting.isNone && e.2.readouts.all (fun r => r.left != 0))
    && s.front.pans.all (fun e => e.2.outWait.isEmpty) && s.mash.outWait.isEmpty && s.upAttached == s.fabric.wasAttached
    && (s.strikes || s.front.pans.all (fun e => e.2.armed.isEmpty && e.2.strobes.isEmpty && e.2.sentTo == 0))
    && !s.cmds.changes.any (fun c => (c.opcode == 0x0414 || c.opcode == 0x0B10) && decide (c.epoch ≤ s.now)) && s.streams.awaited.isEmpty
    && !(s.sluice.recovery ++ s.sluice.normal).any s.hopeless
    && s.kiln.workWait.isNone && s.fabric.leaving.isNone && s.cal.waiting.isNone && s.cal.rotation.isNone && s.cal.fore.isNone
    && s.powerUpsDue.isEmpty
    && s.safety.a.waiting.isNone && s.safety.b.waiting.isNone && s.safety.confirm.isNone
    && s.cmds.sessions.all (fun e => e.2.finishing.isNone) && (nextStart s.cmds.held [] []).isNone
    && !(s.sys.hub == .reconfigure && !s.configPending)

/-- A hub at rest with nothing to send. -/
def State.quiet (s : State) : Bool := s.rests && s.cmds.waiting.isEmpty && s.twin.outbox.isEmpty && s.cmds.resetAfter != some none

/-- What settling brings up to date in a quiet hub: since when each group is idle and the conditions of DORMANT hold, the TRIP outputs, and config_gen as notified. -/
def State.upToDate (s : State) : State := s.notePower.driveTrip.noteGen

/-! ## Commands -/

/-- Whether the hub takes a packet in hand at once: over MPORT nothing stands before it, over the fabric the link is up, and the firmware runs (R20, R22, R92). -/
def State.takes (s : State) (o : Origin) : Bool :=
  s.sys.hub != .reset && s.sys.hub != .boot && !s.sys.fwPaused &&
    match o with
    | .mport => s.serial.held.isEmpty && s.serial.commands.isEmpty
    | .fabric q => s.linkUp q

/-- The owner and version under which a packet is admitted (R40). (log 14: DEDUCED) -/
def State.ownerOf (s : State) (c : Cmd) : Owner × Byte :=
  match s.sessionById c.sessionId with
  | some (slot, x) => (.session slot, x.version)
  | none => (.ended, 3)

/-- The command of a packet as it stands when its turn has come, and the state then: none where the packet is not admitted (R40), or must wait for its queue (R44, R51). -/
def State.turn (s : State) (op : BitVec 16) (o : Origin) (c : Cmd) : Option (Held × State) :=
  if !s.takes o || (o != .mport && c.target == 0xFFF) then none
  else
    let a := s.wakeCommands
    match a.admitError op o c with
    | some _ => none
    | none =>
      let (h, a) := a.admitCmd op o c (a.ownerOf c).1 (a.ownerOf c).2 (isImmediate op)
      if isImmediate op then some (h, a)
      else
        let v := a.beforeQueues
        if v.sys.fwPaused || v.fwWaits then none
        else match nextStart v.cmds.held [] [] with
          | some (k, false) => if k == h && !(cmdFence c && (h.line.any (fun q => (Tbl.get {} v.cmds.fences q).failed.contains h.segment))) then some (h, v) else none
          | _ => none

/-- A command as it executes (R45). -/
def Held.begun (h : Held) (now : Nat) : Held := { h with phase := .executing, started := now }

/-- The state in which a command executes. -/
def State.begin (v : State) (h : Held) : State := v.setHeld h.serial (fun k => { k with phase := .executing, started := v.now })

/-- Whether nothing stands in the way of a command's effect at its start: it is not the gang partner's, its checks and budgets hold, and it needs no leave (R45, R452, R496). -/
def State.clear (v : State) (op : Op) (h : Held) : Bool :=
  (v.partnerPacket h).isNone && (startError op h v).isNone && (v.budgetError op h).isNone && (v.askLeave op h).isNone

/-- A command's answer takes its effect; the duty hub mirrors it, a gang lead passes it on (R440, R452). -/
def State.carry (v : State) (h : Held) (a : Answer) : State :=
  let t := v.perform h a
  if v.passesOn h then t.tellTwin (6 :: packetBytes (v.passedPacket h)) else t

/-- What settles once a command has been carried out whose turn came in state v: the reply of a queued one is sent before the next starts (R44). -/
def State.afterTurn (v : State) (op : BitVec 16) (t : State) : State :=
  if isImmediate op then t.settle else t.sendReplies.noteLeft.settleRest (2 * v.cmds.held.length - 1)

/-- A row completes with an answer: wherever its turn comes and nothing stands in its way, the next state is that of the answer, carried out and settled. -/
def Carries (row : Origin → Cmd → Instr) (op : BitVec 16) (answer : Held → State → Answer) : Prop :=
  ∀ (o : Origin) (c : Cmd) (s : State) (h : Held) (v : State) (e : Op),
    s.turn op o c = some (h, v) → opEntry op = some e → opcodeFault h.version op = none →
    (v.begin h).clear e (h.begun v.now) = true →
    exec (row o c) s = .next { v.afterTurn op ((v.begin h).carry (h.begun v.now) (answer (h.begun v.now) (v.begin h))) with pending := s.pending }

/-! ## Events -/

/-- A row completes with an effect: whenever fabric time has come to t ns and what the row needs holds then, the next state is that of the effect, settled. -/
def Takes (row : Nat → Instr) (due : State → Prop) (effect : State → State) : Prop :=
  ∀ (t : Nat) (s : State), (s.advanceTo t).sys.hub ≠ .reset → (s.advanceTo t).sys.hub ≠ .boot → due (s.advanceTo t) →
    exec (row t) s = .next { (effect (s.advanceTo t)).settle with pending := s.pending }

/-- A row that acts in RESET and BOOT as well completes with an effect: whenever fabric time has come to t ns and what the row needs holds then. -/
def Comes (row : Nat → Instr) (due : State → Prop) (effect : State → State) : Prop :=
  ∀ (t : Nat) (s : State), due (s.advanceTo t) → exec (row t) s = .next { (effect (s.advanceTo t)).settle with pending := s.pending }

/-- A row of what runs only once BOOT is over: in RESET and BOOT nothing but time passes. -/
def Stands (row : Nat → Instr) : Prop :=
  ∀ (t : Nat) (s : State), (s.advanceTo t).sys.hub = .reset ∨ (s.advanceTo t).sys.hub = .boot → exec (row t) s = .next { (s.advanceTo t).settle with pending := s.pending }

/-! ## Frames -/

/-- The conditions under which a port takes a sequenced frame of a type (R368, R380, R391): the port receives and its link is up, the frame is of that type and intact, and once its acknowledgement is taken no reason of the table "NAK reasons" holds against it. -/
abbrev State.takesFrame (s : State) (p : Port) (f : Frame) (type : Nat) : Prop :=
  s.receives p = true ∧ s.linkUp p = true ∧ f.type.toNat = type ∧ f.intact = true ∧ ((s.gotFrame p).takeAck p f.ack.toNat).nakReason p f = 0

/-- What taking a sequenced frame does at the link (R375, R380, R381): it is counted, its acknowledgement taken, the next sequence awaited, its units charged, and an ACK sent. -/
def State.tookFrame (s : State) (p : Port) (f : Frame) : State :=
  (((s.gotFrame p).takeAck p f.ack.toNat).setLink p (fun l => { l with rxNext := (l.rxNext + 1) % 65536, taken := Tbl.modify 0 l.taken (frameClass f) (fun v => (v + frameCost f) % 2 ^ 32) })).sendAck p

/-- The conditions under which a port takes an unsequenced link frame of a type (R380, R391): the port receives, and the frame is intact, of that type, and laid out as it. -/
abbrev State.takesLinkFrame (s : State) (p : Port) (f : Frame) (type : Nat) : Prop :=
  s.receives p = true ∧ f.intact = true ∧ f.type.toNat = type ∧ headerOk f = true ∧ lengthOk (s.link p) f = true

/-! ## Changes -/

/-- What a change of an opcode does at its epoch: config_gen advances first, unless the entry sees to that itself (R49). -/
def Applies (op : BitVec 16) (ownGen : Bool) (effect : Nat → Bytes → State → State × Option (Nat × Nat × Bytes)) : Prop :=
  ∀ (s : State) (c : Change), c.opcode = op → s.applyChange c = effect c.ref c.params (if ownGen then s else s.nextGen)

end Sys2Proof.Machine
end

