-- ==== Sys2Proof/Certificates/Slice0/Obligations.lean ====
section
/-! DEFINITION. The statements about the block, for the provers. -/

open Sys2Proof Sys2Proof.Machine

/-! ## The block as a machine -/

/-- A step takes the command at the front of the queue and is that command's effect on the rest; on an empty queue one GRID cycle passes (R399). -/
def Obligations.StepTakesTheFrontCommand : Prop :=
  ∀ s : State, (∀ (c : Instr) (r : List Instr), s.pending = c :: r → step s = exec c { s with pending := r }) ∧ (s.pending = [] → step s = .next s.tick)

/-- Every command answers a next state, in every state, and leaves the queue as it was: none faults, none is refused. -/
def Obligations.EveryCommandAnswersANextState : Prop :=
  ∀ (i : Instr) (s : State), ∃ t : State, exec i s = .next t ∧ t.pending = s.pending

/-- What reset leaves, as the spec gives it: RESET (R71), no session and no command, config_gen 0, the nominal increment (R399), the empty fault log with serial 0 (R523), twin mode none (R430), the budgets, reserves and timeout of the sluice (R500), no workspace and no job (R300), ON_TEMPERATURE calibration at 2.0 °C (R464). -/
def Obligations.ResetLeavesWhatTheSpecGives : Prop :=
  let s := State.reset
  s.pending = [] ∧ s.sys.hub = .reset ∧ s.cmds.sessions = [] ∧ s.cmds.held = [] ∧ s.sys.configGen = 0 ∧ s.time.inc = 2 ^ 40
    ∧ s.faults.log = [] ∧ s.faults.nextSerial = 0 ∧ s.twin.mode = 0
    ∧ s.sluice.budget = { vdd := 64, av := 64, vdds := 32 } ∧ s.sluice.reserve = { vdd := 16, av := 16, vdds := 16 } ∧ s.sluice.timeout = 100
    ∧ s.kiln.coders = [] ∧ s.kiln.taps = [] ∧ s.kiln.workKiB = 0 ∧ s.kiln.job.state = 0 ∧ s.cal.mode = 1 ∧ s.cal.threshold = 200 ∧ s.streams.table = [] ∧ s.serial.commands = [] ∧ s.serial.replies = []

/-- The invariant holds at reset, where even what it asks only outside RESET holds. -/
def Obligations.TheInvariantHoldsAtReset : Prop :=
  let s := State.reset
  s.sound ∧ s.faults.fatal = none ∧ s.cmds.waiting = [] ∧ s.streams.notified = s.sys.configGen ∧ s.front.tripPins = s.tripLevels

/-- Every step keeps the invariant: a Fatal fault holds the hub in FAULT_HOLD (R77), what was formed has left (R20, R21), config_gen is notified (R49), the TRIP outputs show what drives them (R130, R431). -/
def Obligations.EveryStepKeepsTheInvariant : Prop :=
  ∀ s t : State, s.sound → step s = .next t → t.sound

/-- A quiet hub settles without any further work: nothing changes but what is kept up to date, which is the TRIP outputs, the idle times of the clock groups and of DORMANT, and the note of config_gen (R44, R77, R130). With the statements of what each row does, this gives the frame of every row in a quiet hub. -/
def Obligations.AQuietHubOnlyComesUpToDate : Prop :=
  (∀ s : State, s.quiet = true → s.settle = s.upToDate) ∧
  (∀ s : State, s.upToDate = { s with front := { s.front with tripPins := s.tripLevels }, power := s.upToDate.power, streams := { s.streams with notified := if s.sys.fwPaused then s.streams.notified else s.sys.configGen } }) ∧
  (∀ (t : Nat) (f : State → State) (s : State), (f (s.advanceTo t)).quiet = true → s.event t f = { (f (s.advanceTo t)).upToDate with pending := s.pending })

/-! ## What each command packet completes with -/

/-- The commands of groups 0x00 and 0x01: wherever the turn of one comes and its checks and budgets hold (`Carries`), it completes with the answer written out here, carried out and settled. -/
def Obligations.SessionAndStateCommandsAnswer : Prop :=
  Carries .hello 0x0001 (fun h s =>
      let b := h.cmd.params
      match chosenVersion (u8 b 0) (u8 b 1) with
      | none => .fail stBadVersion h.version.toNat
      | some v =>
        let ses := s.cmds.sessions
        let taken := ses.foldl (fun (m : Byte) e => m ||| e.2.queues) 0
        let queues := BitVec.ofNat 8 (u8 b 2) &&& ~~~taken
        if 8 ≤ ses.length then .fail stNoResource 7
        else if queues = 0 then .fail stNoResource 8
        else
          let slot := ((List.range 8).find? (fun i => (ses.lookup i).isNone)).getD 0
          let id := sessionId s.cmds.nextId
          let lock := (u8 b 3).testBit 0 && v == 3 && !ses.any (·.2.lock)
          let notices := (u8 b 3).testBit 1
          let x : Session := { id, origin := h.origin, source := h.cmd.source, version := BitVec.ofNat 8 v, queues, lock, stateNotices := notices, idleTimeout := u16 b 4, lastAdmit := s.now, label := BitVec.ofNat 32 (u32 b 8), noticeTag := 128, finishing := none }
          let s : State := { s with cmds := { s.cmds with sessions := Tbl.set ses slot x, nextId := id + 1 } }
          let s := (s.setHeld h.serial (fun k => { k with version := x.version, replyId := id })).logFault 0x0062 slot x.label.toNat 1
          .done 0 (le 4 id.toNat ++ [x.version, queues] ++ le 1 ((if lock then 1 else 0) + (if notices then 2 else 0)) ++ le 1 s.cmds.sessions.length ++ le 8 capability ++ le 2 s.own ++ le 2 1024 ++ le 1 (128 - s.incompletes) ++ zeros 3) s) ∧
  Carries .getInfo 0x0002 (fun _ s => .done 0 s.infoResult s) ∧
  Carries .goodbye 0x0003 (fun h s =>
      match h.slot with
      | none => .fail stDenied 3
      | some slot =>
        if u8 h.cmd.params 0 = 0 then
          .accepted [] { s with cmds := { s.cmds with sessions := s.cmds.sessions.map (fun (e : Nat × Session) => if e.1 = slot then (slot, { e.2 with finishing := some h.serial }) else e) } }
        else
          let (n, s) := s.endSession slot
          .done 0 (le 2 n ++ zeros 2) s) ∧
  Carries .echo 0x0004 (fun h s => .done 0 h.cmd.params s) ∧
  Carries .cmdAbort 0x0005 (fun h s =>
      match s.tagHolder h.owner (h.cmd.params.getD 0 0) with
      | none => .done 0 (abortResult 3 none) s
      | some t =>
        match t.phase with
        | .queued => .done 0 (abortResult 0 (some t)) (s.setHeld t.serial (fun k => { k with removed := true }))
        | .finished _ => .done 0 (abortResult 2 (some t)) s
        | _ =>
          if s.twin.relays.any (fun e => e.ref == t.serial) then s.abortRelayed h t
          else match stopCmd t s with
          | some s' => .done 0 (abortResult 1 (some t)) (s'.finish t.serial stAborted 1 [])
          | none => .done 0 (abortResult 2 (some t)) s) ∧
  Carries .cmdQuery 0x0006 (fun h s => .done 0 (s.queryResult h) s) ∧
  Carries .cmdStats 0x0007 (fun h s => .done 0 s.statsResult (if u8 h.cmd.params 0 = 1 then { s with cmds := { s.cmds with counters := [] } } else s)) ∧
  Carries .stateGet 0x0101 (fun _ s => .done 0 s.stateResult s) ∧
  Carries .stateHistory 0x0102 (fun h s => .done 0 ((s.sys.history.take (u8 h.cmd.params 0)).map transitionBytes).flatten s) ∧
  Carries .stateRun 0x0110 (fun h s => .accepted [] (s.addChange h (s.epochOf (u64 h.cmd.params 0)))) ∧
  Carries .stateStop 0x0111 (fun h s => .accepted [] (s.addChange h (s.epochOf (u64 h.cmd.params 0)))) ∧
  Carries .stateGoLocal 0x0112 (fun _ s => .done 0 [] s.goLocal) ∧
  Carries .stateReset 0x0113 (fun h s =>
      if u8 h.cmd.params 0 = 1 then .done 0 [] (s.setSys (fun x => { x with fwRestartDue := true }))
      else .done 0 [] { s with cmds := { s.cmds with resetAfter := some none } }) ∧
  Carries .stateLeaveFault 0x0114 (fun _ s =>
      match s.causePresent with
      | (some slot, s) => .stopped stInternal slot [] s
      | (none, s) => .done 0 [] s.leaveFault)

/-- The commands of groups 0x02 and 0x03: wherever the turn of one comes and its checks and budgets hold (`Carries`), it completes with the answer written out here, carried out and settled. -/
def Obligations.PanAndGridCommandsAnswer : Prop :=
  Carries .panGetConfig 0x0201 (fun h s =>
      let p := u8 h.cmd.params 0
      let x := s.pan p
      let cs := (List.range 8).map (fun c => s.chan (8 * p + c))
      let pw := match x.power with | .off => 0 | .on => 1 | .poweringUp => 2
      .done 0 (le 1 p ++ le 1 (if s.rovingServes p then 32 else p) ++ le 1 pw ++ le 1 x.seq.length ++ cs.flatMap (fun c => le 1 c.gain) ++ le 1 (maskOf ((List.range 8).filter (fun c => (s.chan (8 * p + c)).filter))) ++ le 1 x.testGain ++ leInt 2 x.testDac ++ (x.seq ++ zeros 16).take 16) s) ∧
  Carries .panReadResults 0x0202 (fun h s => let p := h.cmd.params; .done 0 ((List.range (u8 p 2)).flatMap (fun i => le 4 (s.seqResult (u8 p 0) (u8 p 1 + i)).toNat)) s) ∧
  Carries .compGet 0x0203 (fun h s => let c := s.chan (u16 h.cmd.params 0); .done 0 (c.compBytes ++ le 4 c.entries ++ le 4 c.dropped) s) ∧
  Carries .panGetStatus 0x0204 (fun _ s =>
      let on := maskOf ((List.range 32).filter (fun p => (s.pan p).power == .on))
      let bad := maskOf ((List.range 32).filter (fun p => (s.pan p).failed))
      let rv := match s.front.roving with | .idle => 0 | .loan _ => 1 | .substituting _ => 2 | .unavailable => 3
      .done 0 (le 4 on ++ le 4 bad ++ le 1 (s.substituted.getD 255) ++ le 1 rv ++ le 1 (((List.range 32).map (fun p => (s.pan p).waiting.length)).sum) ++ [0] ++ le 4 s.front.cmTotal) s) ∧
  Carries .panPower 0x0210 (fun h s =>
      let p := h.cmd.params
      let t := u64 p 8
      let pans := (maskPans (u32 p 0)).filter (fun q => (s.pan q).power != .on && !s.dieLost (dieOf q))
      let n := if s.live then ((pans.foldl (fun (s : State) q => s.panOn q) s).streams.table.filter (fun x => x.2.isOpen && !(s.stream x.1).isOpen)).length else 0
      let v := if n < 256 then s else s.ask 7 t { vdd := (n + 255) / 256 } false (some h.serial) (if t = 0 then none else some (t - 1000000))
      if u8 p 4 = 0 then configRun effPanPower (s.changeEpoch t) h s
      else .accepted [] ((pans.foldl (fun (s : State) q => s.ask 1 q { vdd := 1, av := 4 } false (some h.serial) none) v).powerReady h.serial)) ∧
  Carries .panSetGain 0x0211 (fun h s => configRun effPanSetGain (s.changeEpoch (u64 h.cmd.params 4)) h s) ∧
  Carries .panSetFilter 0x0212 (fun h s => configRun effPanSetFilter (s.changeEpoch (u64 h.cmd.params 4)) h s) ∧
  Carries .panSetSequence 0x0213 (fun h s => configRun effPanSetSequence (s.changeEpoch (u64 h.cmd.params 4)) h s) ∧
  Carries .panSpot 0x0214 (fun h s =>
      match spotTarget (u16 h.cmd.params 0) with
      | some (p, path) => .holds (s.setPan p (fun x => { x with urgent := x.urgent ++ [.spot path h.serial 0] }))
      | none => .fail stBadParam 0) ∧
  Carries .panSetTestDac 0x0215 (fun h s => configRun effPanSetTestDac (s.changeEpoch (u64 h.cmd.params 8)) h s) ∧
  Carries .compSet 0x0216 (fun h s => configRun effCompSet (s.changeEpoch (u64 h.cmd.params 4)) h s) ∧
  Carries .tripSet 0x0217 (fun h s => configRun effTripSet (s.changeEpoch (u64 h.cmd.params 4)) h s) ∧
  Carries .panSubstitute 0x0218 (fun h s => configRun effPanSubstitute (s.changeEpoch (u64 h.cmd.params 4)) h s) ∧
  Carries .gridGetConfig 0x0301 (fun _ s => .done 0 (le 2 s.front.gridN ++ zeros 2 ++ le 4 s.grid.period ++ le 8 s.front.gridG0 ++ le 8 (s.grid.next s.now) ++ (List.range 32).map (fun p => BitVec.ofNat 8 (s.pan p).log2D)) s) ∧
  Carries .gridGetStatus 0x0302 (fun _ s => .done 0 (s.gridStatus) s) ∧
  Carries .gridGetDelays 0x0303 (fun h s => .done 0 (((List.range (u16 h.cmd.params 2)).map (fun i => let ch := u16 h.cmd.params 0 + i; le 1 (s.tCal ch) ++ leInt 1 (s.chan ch).userDelay ++ le 2 (s.chan ch).lastTap)).flatten) s) ∧
  Carries .gridSetOrigin 0x0310 (fun h s => .accepted [] ((s.addChange h (s.epochOf (u64 h.cmd.params 16))).resend (s.epochOf (u64 h.cmd.params 16)))) ∧
  Carries .gridSetPeriod 0x0311 (fun h s => .accepted [] ((s.addChange h (s.epochOf (u64 h.cmd.params 8))).resend (s.epochOf (u64 h.cmd.params 8)))) ∧
  Carries .gridSetDivisor 0x0312 (fun h s => .accepted [] ((s.addChange h (s.epochOf (u64 h.cmd.params 8))).resend (s.epochOf (u64 h.cmd.params 8)))) ∧
  Carries .gridSetDelay 0x0313 (fun h s => .accepted [] ((s.addChange h (s.epochOf (u64 h.cmd.params 4))).resend (s.epochOf (u64 h.cmd.params 4))))

/-- The commands of groups 0x04 and 0x05: wherever the turn of one comes and its checks and budgets hold (`Carries`), it completes with the answer written out here, carried out and settled. -/
def Obligations.MashAndCaptureCommandsAnswer : Prop :=
  Carries .recipeGet 0x0401 (fun h s => .done 0 (recipeGet s (u8 h.cmd.params 0)) s) ∧
  Carries .recipeReadBank 0x0402 (fun h s =>
      let p := h.cmd.params
      let b := (s.recipe (u8 p 0)).bank (u8 p 1 == 1)
      .done 0 ((List.range 4).flatMap (fun i => le 1 (b.shifts.getD i 0)) ++ (List.range (u16 p 6)).flatMap (fun i => leInt 4 ((b.stage (u8 p 2)).getD (u16 p 4 + i) 0))) s) ∧
  Carries .recipeGetAssign 0x0403 (fun h s => let p := h.cmd.params; .done 0 ((List.range (u16 p 2)).flatMap (fun i => le 1 ((s.mchan (u16 p 0 + i)).recipe.getD 0xFF))) s) ∧
  Carries .recipeGetStats 0x0404 (fun h s =>
      let p := h.cmd.params
      let r := s.recipe (u8 p 0)
      let res := (List.range 4).flatMap (fun i => le 4 (r.sat.getD i 0)) ++ le 4 r.settled ++ le 4 r.resets ++ le 4 (fracCeil (s.mashLoad (fun _ => false)) 1000000) ++ le 4 (fracCeil (s.mashLoad (fun rn => (s.recipe rn).fading)) 1000000)
      .done 0 res (if u8 p 1 = 1 then s.setRecipe (u8 p 0) (fun r => { r with sat := [0, 0, 0, 0], settled := 0, resets := 0 }) else s)) ∧
  Carries .reduceGet 0x0405 (fun h s => .done 0 ((List.range 4).flatMap (fun i => (Tbl.get {} (s.mchan (u16 h.cmd.params 0)).slots i).bytes)) s) ∧
  Carries .recipeDefine 0x0410 (fun h s => .done 0 [] (s.setRecipe (u8 h.cmd.params 0) (recipeDefine h.cmd.params))) ∧
  Carries .recipeLoadCoefs 0x0411 (fun h s =>
      let p := h.cmd.params
      .done 0 [] (s.setRecipe (u8 p 0) (fun r => r.setBank (u8 p 1 == 1) (fun b => b.load (u8 p 2) (u16 p 4) ((List.range (u16 p 6)).map (fun i => i32 p (8 + 4 * i))) (r.coefs (u8 p 2)))))) ∧
  Carries .recipeSetShifts 0x0412 (fun h s =>
      let p := h.cmd.params
      .done 0 [] (s.setRecipe (u8 p 0) (fun r => r.setBank (u8 p 1 == 1) (fun b => { b with shifts := (List.range 4).map (fun i => if r.has i then u8 p (4 + i) else b.shifts.getD i 0) })))) ∧
  Carries .recipeAssign 0x0413 (fun h s => configRun effRecipeAssign (s.changeEpoch (u64 h.cmd.params 4)) h s) ∧
  Carries .recipeSwap 0x0414 (fun h s =>
      match s.changeEpoch (u64 h.cmd.params 8) with
      | some e => .accepted [] (s.addChange h e)
      | none => .accepted [] { s with cmds := { s.cmds with changes := insertChange { epoch := s.now, ref := h.serial, opcode := h.opcode, params := h.cmd.params } s.cmds.changes } }) ∧
  Carries .recipeReset 0x0415 (fun h s => configRun effRecipeReset (s.changeEpoch (u64 h.cmd.params 8)) h s) ∧
  Carries .reduceSet 0x0416 (fun h s => configRun effReduceSet (s.changeEpoch (u64 h.cmd.params 16)) h s) ∧
  Carries .captureGet 0x0501 (fun h s =>
      let x := s.group (u8 h.cmd.params 0)
      .done 0 ((x.define ++ zeros 64).take 64 ++ (List.range 4).flatMap (fun i => [0] ++ ((Tbl.get {} x.terms i).bytes ++ zeros 31).take 31) ++ [0] ++ (x.measure ++ zeros 15).take 15) s) ∧
  Carries .captureGetStatus 0x0502 (fun h s =>
      let g := u8 h.cmd.params 0
      let x := s.group g
      let r := le 1 x.code ++ zeros 3 ++ le 4 x.casks.length ++ le 4 x.free ++ le 4 x.serial ++ le 4 x.committed ++ le 4 x.missed ++ le 4 x.late ++ le 4 x.shortPre ++ le 4 x.shortIgnored ++ le 4 x.starved ++ le 4 x.compLost ++ le 4 x.reach ++ stampBytes (x.firstMissed.getD 0) ++ zeros 2
      .done 0 r (if u8 h.cmd.params 1 = 1 then s.setGroup g (fun x => { x with committed := 0, missed := 0, late := 0, shortPre := 0, shortIgnored := 0, starved := 0, compLost := 0, firstMissed := none }) else s)) ∧
  Carries .captureGetMemory 0x0503 (fun _ s =>
      let groups := (s.capture.groups.map (fun e => e.2.words)).sum
      let work := s.heldWords - groups
      let spill := min (256 * s.spillPages) (2097152 - s.heldWords)
      .done 0 (le 4 groups ++ le 4 spill ++ le 4 (2097152 - s.heldWords - spill) ++ le 4 (s.capture.groups.map (fun e => if e.2.isDefined then e.2.casksMax else 0)).sum ++ le 2 (maskOf ((s.capture.groups.filter (·.2.isDefined)).map (·.1))) ++ le 1 s.timedCount ++ [0] ++ le 4 work) s) ∧
  Carries .captureListHeld 0x0504 (fun h s =>
      let x := s.group (u8 h.cmd.params 0)
      .done 0 ((x.casks.take (u16 h.cmd.params 2)).flatMap (fun c => le 4 c.serial ++ stampBytes c.trig ++ le 2 (c.flags ||| (if x.isFiltered then 0x10 else 0)).toNat ++ le 4 c.pAct ++ zeros 4)) s) ∧
  Carries .captureDefine 0x0510 (fun h s =>
      let d := h.cmd.params.take 64
      let g := u8 d 0
      let old := s.group g
      let fresh := s.setGroup g (fun _ => ({ state := .disabled, define := d, words := defineWords d } : Group))
      if fresh.heldWords + 256 * fresh.spillPages ≤ 2097152 then .done 0 [] fresh
      else .accepted [] (s.setGroup g (fun _ => { old with words := max old.words (defineWords d), waiting := some (h.serial, d) }))) ∧
  Carries .captureSetTrigger 0x0511 (fun h s => configRun effCaptureSetTrigger (s.changeEpoch (u64 h.cmd.params 32)) h s) ∧
  Carries .captureEnable 0x0512 (fun h s => configRun effCaptureEnable (s.changeEpoch (u64 h.cmd.params 8)) h s) ∧
  Carries .captureForce 0x0513 (fun h s =>
      let p := h.cmd.params
      let (s, a, b, c) := forceGroups p (bitsOf 16 (u16 p 0)) s
      let s := s.runOwn 20
      let b := if s.timedCount < 16 then b else b ++ c.map (·.1)
      let c := if s.timedCount < 16 then c else []
      match c with
      | [] => .done 0 (forceResult a b) s
      | (_, t) :: _ => .accepted [] (s.setTimed (· ++ [{ time := t, source := 5, place := 4, groups := c.map (·.1), done := a, failed := b, ref := some h.serial }]))) ∧
  Carries .captureReadout 0x0514 (fun h s =>
      let g := u8 h.cmd.params 0
      let l := (s.group g).unclaimed.take (u16 h.cmd.params 2)
      .accepted [] (s.setGroup g (fun x => { x with readouts := x.readouts ++ [{ ref := h.serial, left := l.length, taken := l.length, first := (l.head?.map (·.serial)).getD 0 }] }))) ∧
  Carries .captureRelease 0x0515 (fun h s =>
      let g := u8 h.cmd.params 0
      let x := s.group g
      let n := (x.readouts.map (·.left)).sum
      let l := x.unclaimed.take (u16 h.cmd.params 2)
      .done 0 (takenResult l.length ((l.head?.map (·.serial)).getD 0)) ((s.setGroup g (fun x => { x with casks := x.casks.take n ++ x.casks.drop (n + l.length) })).afterFree g)) ∧
  Carries .captureSetMeasure 0x0516 (fun h s => configRun effCaptureSetMeasure (s.changeEpoch (u64 h.cmd.params 16)) h s) ∧
  Carries .captureFree 0x0517 (fun h s => .done 0 [] ({ s with capture := { s.capture with groups := Tbl.erase s.capture.groups (u8 h.cmd.params 0) } }))

/-- The commands of groups 0x06 and 0x07: wherever the turn of one comes and its checks and budgets hold (`Carries`), it completes with the answer written out here, carried out and settled. -/
def Obligations.EdgeAndKilnCommandsAnswer : Prop :=
  Carries .edgeGetConfig 0x0601 (fun h s => let e := s.edge (u8 h.cmd.params 0); .done 0 (e.setting ++ e.stream) s) ∧
  Carries .edgeGetStatus 0x0602 (fun h s =>
      let i := u8 h.cmd.params 0
      let e := s.edge i
      let r := le 4 e.passed ++ le 4 e.stamps ++ le 4 e.lostDead ++ le 4 e.lostFull ++ le 4 e.rejected ++ le 2 e.interpA.a1 ++ le 2 e.interpA.a2 ++ le 2 e.interpB.a1 ++ le 2 e.interpB.a2 ++ le 1 ((if e.interpA.inService then 1 else 0) + (if e.interpB.inService then 2 else 0)) ++ zeros 3
      .done 0 r (if u8 h.cmd.params 1 = 1 then s.setEdge i (fun e => { e with passed := 0, stamps := 0, lostDead := 0, lostFull := 0, rejected := 0 }) else s)) ∧
  Carries .measGet 0x0603 (fun h s =>
      let u := s.unit (u8 h.cmd.params 0)
      .done 0 (le 1 (if u.mode = 0 then 0 else if u.idle then 2 else 1) ++ zeros 3 ++ (if u.mode = 0 then zeros 24 else (u.setting ++ zeros 24).take 24) ++ (u.last ++ zeros 32).take 32) s) ∧
  Carries .edgeSetInput 0x0610 (fun h s => configRun effEdgeSetInput (s.changeEpoch (u64 h.cmd.params 16)) h s) ∧
  Carries .edgeSetStream 0x0611 (fun h s => configRun effEdgeSetStream (s.changeEpoch (u64 h.cmd.params 8)) h s) ∧
  Carries .measSetInterval 0x0612 (fun h s => configRun effMeasSetInterval (s.changeEpoch (u64 h.cmd.params 16)) h s) ∧
  Carries .measSetFrequency 0x0613 (fun h s => configRun effMeasSetFrequency (s.changeEpoch (u64 h.cmd.params 24)) h s) ∧
  Carries .measOff 0x0614 (fun h s => configRun effMeasOff (s.changeEpoch (u64 h.cmd.params 4)) h s) ∧
  Carries .kilnGetCoding 0x0701 (fun h s =>
      let key := settingOf (u8 h.cmd.params 0) (u16 h.cmd.params 2)
      let c := s.coder key
      .done 0 (le 1 (if c.coding = 0 then 0 else if s.kiln.coders.any (fun e => codingKey e.1 == key && e.2.forced) then 2 else 1) ++ le 1 c.mask ++ le 1 c.ref ++ [0] ++ le 2 c.refresh ++ zeros 2 ++ le 8 c.plainBytes ++ le 8 c.codedBytes ++ le 4 c.blocks ++ le 4 c.rawBlocks) s) ∧
  Carries .kilnGetStatus 0x0702 (fun h s =>
      let k := s.kiln
      let l := s.loadCoded
      let r := le 1 (maskOf ((List.range 4).filter (fun i => !k.lanesOut.contains i))) ++ le 1 (if k.decompOut then 1 else 0) ++ zeros 2 ++ le 4 (fracCeil l 1000000) ++ le 4 (fracCeil (l.1 + s.loadTaps * l.2, l.2) 1000000) ++ le 4 k.blocks ++ le 4 k.failures ++ le 4 k.tapBlocks ++ le 4 k.tapErrors ++ le 1 k.lastCheck ++ le 1 k.lastTap ++ zeros 2
      .done 0 r (if u8 h.cmd.params 0 = 1 then { s with kiln := { k with blocks := 0, failures := 0, tapBlocks := 0, tapErrors := 0 } } else s)) ∧
  Carries .kilnJobGet 0x0703 (fun _ s => .done 0 (le 1 s.kiln.job.state ++ zeros 3 ++ s.kiln.job.result) s) ∧
  Carries .kilnRead 0x0704 (fun h s => .done 0 (s.workRead (u32 h.cmd.params 0) (u16 h.cmd.params 4)) s) ∧
  Carries .kilnGetState 0x0705 (fun h s => .done 0 (s.coderBlob (streamKey (u8 h.cmd.params 0) (u16 h.cmd.params 2))) s) ∧
  Carries .kilnSetCoding 0x0710 (fun h s => configRun effKilnSetCoding (s.changeEpoch (u64 h.cmd.params 16)) h s) ∧
  Carries .kilnSetState 0x0711 (fun h s =>
      match s.changeEpoch (u64 h.cmd.params 8) with
      | some e => .accepted [] (s.addChange h e)
      | none => .done 0 [] (effKilnSetState h.serial h.cmd.params s).1) ∧
  Carries .kilnTap 0x0712 (fun h s => configRun effKilnTap (s.changeEpoch (u64 h.cmd.params 16)) h s) ∧
  Carries .kilnWorkspace 0x0713 (fun h s =>
      let k := u32 h.cmd.params 0
      let t := { s with kiln := { s.kiln with workKiB := k, work := [], workWait := none } }
      if t.heldWords + 256 * t.spillPages ≤ 2097152 then .done 0 [] t
      else .accepted [] { s with kiln := { s.kiln with workKiB := 0, work := [], workWait := some (k, h.serial) } }) ∧
  Carries .kilnWrite 0x0714 (fun h s => .done 0 [] (s.workWrite (u32 h.cmd.params 0) (h.cmd.params.drop 8))) ∧
  Carries .kilnJobStart 0x0715 (fun h s =>
      let p := h.cmd.params
      let hist := if (u8 p 2).testBit 0 then [i32 p 28, i32 p 32, i32 p 36] else []
      .accepted [] ((s.setJob (fun _ => { state := 1, params := p, ref := h.serial, outOff := u32 p 12, outLen := u32 p 16, limit := u32 p 20, hist })).ask 3 0 jobCost false (some h.serial) none)) ∧
  Carries .kilnJobResume 0x0716 (fun h s =>
      let p := h.cmd.params
      .accepted [] ((s.setJob (fun j => { j with state := 1, ref := h.serial, outOff := u32 p 0, outLen := u32 p 4, outPos := 0, limit := if u32 p 8 = 0 then j.limit else u32 p 8 })).ask 3 0 jobCost false (some h.serial) none))

/-- The commands of group 0x08: wherever the turn of one comes and its checks and budgets hold (`Carries`), it completes with the answer written out here, carried out and settled. -/
def Obligations.StreamCommandsAnswer : Prop :=
  Carries .streamGet 0x0801 (fun h s => .done 0 (s.streamStatus (u32 h.cmd.params 0)) s) ∧
  Carries .streamGetOutbound 0x0802 (fun h s => .done 0 s.outboundStatus (if u8 h.cmd.params 0 = 1 then s.clearOutbound else s)) ∧
  Carries .streamList 0x0803 (fun h s => .done 0 (s.streamList (u8 h.cmd.params 0) (u16 h.cmd.params 2) (u16 h.cmd.params 4)) s) ∧
  Carries .feedGetStatus 0x0804 (fun h s => .done 0 s.feed.status (if u8 h.cmd.params 0 = 1 then s.setFeed Feed.clear else s)) ∧
  Carries .streamSetEnable 0x0810 (fun h s => configRun effStreamSetEnable (s.changeEpoch (u64 h.cmd.params 8)) h s) ∧
  Carries .streamSetRecord 0x0811 (fun h s => configRun effStreamSetRecord (s.changeEpoch (u64 h.cmd.params 16)) h s) ∧
  Carries .streamAck 0x0812 (fun h s =>
      let b := h.cmd.params
      let l := (List.range (u16 b 0)).map (fun i => slice b (4 + 8 * i) 8)
      let (s, a, n, o) := takeAcks l s
      let s := if s.twin.asLead ∧ s.linkUp .twin ∧ h.owner ≠ .relay ∧ l.any (fun e => !partnerKey (u32 e 0)) then s.tellTwin (6 :: packetBytes { opcode := h.opcode, cmd := { h.cmd with sessionId := 0 } }) else s
      .done 0 (le 2 a ++ le 2 n ++ le 2 o ++ zeros 2) s) ∧
  Carries .streamDropRest 0x0813 (fun h s =>
      let id := u32 h.cmd.params 0
      let (s, n, q, u) := if id / 1048576 = s.streamAddress then s.dropRest (id % 1048576) (u8 h.cmd.params 4 == 1) else (s, 0, 0, 0)
      .done 0 (le 4 n ++ le 4 q ++ le 8 u) s) ∧
  Carries .streamSetFormat 0x0814 (fun h s => configRun effStreamSetFormat (s.changeEpoch (u64 h.cmd.params 4)) h s) ∧
  Carries .streamSetSpill 0x0815 (fun h s => .done 0 [] { s with streams := { s.streams with spillLimit := u32 h.cmd.params 0 } }) ∧
  Carries .feedSetConfig 0x0816 (fun h s => configRun effFeedSetConfig (s.changeEpoch (u64 h.cmd.params 16)) h s) ∧
  Carries .feedSetChannel 0x0817 (fun h s => configRun effFeedSetChannel (s.changeEpoch (u64 h.cmd.params 16)) h s) ∧
  Carries .feedFlush 0x0818 (fun _ s => let (s, n, m) := s.feedFlush; .done 0 (le 4 n ++ le 4 m) s)

/-- The commands of group 0x09: wherever the turn of one comes and its checks and budgets hold (`Carries`), it completes with the answer written out here, carried out and settled. -/
def Obligations.LaneAndFabricCommandsAnswer : Prop :=
  Carries .laneGetStatus 0x0981 (fun h s => .done 0 (s.laneStatus (portOf (u8 h.cmd.params 0))) s) ∧
  Carries .laneGetEq 0x0982 (fun h s => let (r, s) := s.laneEq (portOf (u8 h.cmd.params 0)) (u8 h.cmd.params 1)
      .done 0 r s) ∧
  Carries .laneGetCounters 0x0983 (fun h s => let p := portOf (u8 h.cmd.params 0)
      .done 0 (s.laneCounters p) (if u8 h.cmd.params 1 = 1 then s.setPort p (fun x => { x with lanes := x.lanes.map (fun (e : Nat × Lane) => (e.1, { e.2 with counters := [] })) }) else s)) ∧
  Carries .laneSetRates 0x0990 (fun h s => let b := h.cmd.params
      let ports := if u8 b 0 = 255 then allPorts else [portOf (u8 b 0)]
      .done 0 [] (ports.foldl (fun (s : State) p => s.setRates p (u8 b 1) (u8 b 2)) s)) ∧
  Carries .laneRetrain 0x0991 (fun h s => .accepted [] (s.retrain (portOf (u8 h.cmd.params 0)) h.serial)) ∧
  Carries .laneSetEq 0x0992 (fun h s => let b := h.cmd.params
      .done 0 [] (s.setPort (portOf (u8 b 0)) (fun x => { x with lanes := (bitsOf 4 (u8 b 1)).foldl (fun t i => Tbl.modify {} t i (fun l => { l with setting := slice b 2 5 })) x.lanes }))) ∧
  Carries .lanePortEnable 0x0993 (fun h s => let p := portOf (u8 h.cmd.params 0)
      if u8 h.cmd.params 1 = 1 then .accepted [] (s.retrain p h.serial)
      else .done 0 [] (s.disablePort p)) ∧
  Carries .laneTest 0x0994 (fun h s => let b := h.cmd.params
      let p := portOf (u8 b 0)
      .accepted [] ((s.portState p 6 0).setPort p (fun x => { x with test := some (h.serial, s.now + 1000000 * u32 b 4), testMode := u8 b 1, rate := u8 b 2 }))) ∧
  Carries .fabricGetPort 0x0901 (fun h s => .done 0 (s.portStatus (portOf (u8 h.cmd.params 0))) s) ∧
  Carries .fabricGetCounters 0x0902 (fun h s => let p := portOf (u8 h.cmd.params 0)
      .done 0 (((List.range 15).map (fun i => le 4 (Tbl.get 0 (s.link p).counters i))).flatten) (if u8 h.cmd.params 1 = 1 then s.setLink p (fun l => { l with counters := [] }) else s)) ∧
  Carries .fabricGetRoutes 0x0903 (fun h s => .done 0 ((List.range (u16 h.cmd.params 2)).map (fun i => BitVec.ofNat 8 (s.routeCode (u16 h.cmd.params 0 + i)))) s) ∧
  Carries .fabricGetConfig 0x0904 (fun _ s => .done 0 (s.fabricConfig) s) ∧
  Carries .fabricSetCredit 0x0910 (fun h s => let b := h.cmd.params
      let s := (s.changeGrant .dn0 s.fabric.grants.1 (u32 b 0)).changeGrant .dn1 s.fabric.grants.2 (u32 b 4)
      .done 0 [] { s with fabric := { s.fabric with grants := (u32 b 0, u32 b 4) } }) ∧
  Carries .fabricSetLimits 0x0911 (fun h s => .done 0 [] { s with fabric := { s.fabric with detectMs := u16 h.cmd.params 0, violations := u16 h.cmd.params 2 } }) ∧
  Carries .fabricLeave 0x0912 (fun h s => .accepted [] (s.addChange h (s.epochOf (u64 h.cmd.params 0)))) ∧
  Carries .fabricRejoin 0x0913 (fun h s =>
      if s.fabric.attached then .done 0 [] s
      else .accepted [] (({ s with fabric := { s.fabric with rejoin := s.fabric.rejoin ++ [h.serial] } }).setLink .up (fun l => { l with helloOwed := true }))) ∧
  Carries .fabricSetVersions 0x0914 (fun h s => .done 0 [] { s with fabric := { s.fabric with maxVersion := (u8 h.cmd.params 0, u8 h.cmd.params 1) } })

/-- The commands of groups 0x0A and 0x0B: wherever the turn of one comes and its checks and budgets hold (`Carries`), it completes with the answer written out here, carried out and settled. -/
def Obligations.TimeAndTwinCommandsAnswer : Prop :=
  Carries .timeGetStatus 0x0A01 (fun _ s => .done 0 (timeStatus s) s) ∧
  Carries .timeGetPort 0x0A02 (fun h s => .done 0 (timePortStatus s (portOf (u8 h.cmd.params 0))) s) ∧
  Carries .timeGetPps 0x0A03 (fun _ s => .done 0 (ppsStatus s) s) ∧
  Carries .timeSetServo 0x0A10 (fun h s => let b := h.cmd.params
      .done 0 [] { s with time := { s.time with code := u8 b 0, kp := u16 b 2, ki := u16 b 4, wLock := u16 b 6, wLoss := u32 b 8, stepLimit := u32 b 12, bridgeMs := u16 b 16 } }) ∧
  Carries .timeSetAsymmetry 0x0A11 (fun h s => .done 0 [] (s.setTimePort (portOf (u8 h.cmd.params 0)) (fun x => { x with asym := i32 h.cmd.params 4 }))) ∧
  Carries .timeSetAgeing 0x0A12 (fun h s =>
      let s := { s with time := { s.time with ageing := i32 h.cmd.params 0 } }
      .done 0 [] (if s.sys.localMode then s.followLocal
        else if s.time.phase ≠ 7 ∧ s.time.phase ≠ 8 then s
        else
          let s := { s with time := { s.time with applied := s.time.ageing } }
          if s.time.phase = 8 then s.setInc ((s.time.held : Int) + freqInc s.time.ageing) else s)) ∧
  Carries .timeSetOutputs 0x0A13 (fun h s => let b := h.cmd.params
      let s := s.takePps
      .done 0 [] { s with time := { s.time with ppsOn := u8 b 0 == 1, trefOn := u8 b 1 == 1, ppsNext := some ((s.now / 1000000000 + 1) * 1000000000, u32 b 4, u32 b 8) } }) ∧
  Carries .timeSetLocalRef 0x0A14 (fun h s => .done 0 [] (State.followLocal { s with time := { s.time with source := u8 h.cmd.params 0, fellBack := false, aligned := false, slew := 0, ppsSeen := s.now } })) ∧
  Carries .twinGetStatus 0x0B01 (fun _ s => .done 0 (s.twinStatus) s) ∧
  Carries .twinGetCounters 0x0B02 (fun h s => .done 0 (((List.range 10).map (fun i => le 4 (Tbl.get 0 s.twin.counters i))).flatten) (if u8 h.cmd.params 0 = 1 then s.setTwin (fun w => { w with counters := [] }) else s)) ∧
  Carries .twinSetMode 0x0B10 (fun h s =>
      let b := h.cmd.params
      let mode := u8 b 0
      if mode = 0 then
        .accepted [] (s.addChange h (if s.live ∧ s.sys.hub ≠ .shadow then s.epochOf (u64 b 8) else s.now))
      else if s.twin.paired then
        (if s.twin.mode = mode ∧ (mode = 2 ∨ s.twin.streamAddr = u16 b 2) then .accepted [] (s.setTwin (fun w => { w with pairRefs := w.pairRefs ++ [(h.serial, s.now)] })) else .fail stBadState 0)
      else
        let s := s.setTwin (fun w => { w with mode, streamAddr := u16 b 2, pairRefs := w.pairRefs ++ [(h.serial, s.now)], linkLost := true, pinLost := true, role := if w.dutyOut then (if mode = 1 then 1 else 3) else 0, retreated := false, lowSince := if w.dutyIn then none else some (w.lowSince.getD s.now) })
        .accepted [] s) ∧
  Carries .twinSetTiming 0x0B11 (fun h s => let b := h.cmd.params
      .done 0 [] (s.setTwin (fun w => { w with nextUs := if u32 b 0 = w.cycleUs then none else some (u32 b 0), yieldUs := u32 b 4, timeSrc := u8 b 8 }))) ∧
  Carries .twinSwap 0x0B12 (fun h s => .accepted [] (s.addChange h (s.epochOf (u64 h.cmd.params 0)))) ∧
  Carries .twinRelay 0x0B13 (fun h s =>
      match packetOf h.cmd.params with
      | none => .fail stMalformed 0
      | some p => .asks (s.sendRelay { p with cmd := { p.cmd with sessionId := if cmdDryRun h.cmd then 1 else 0 } } h.serial []))

/-- The commands of groups 0x0C and 0x0D: wherever the turn of one comes and its checks and budgets hold (`Carries`), it completes with the answer written out here, carried out and settled. -/
def Obligations.CalibrationAndPowerCommandsAnswer : Prop :=
  Carries .calGetStatus 0x0C01 (fun _ s => .done 0 (le 4 s.calStatus ++ le 2 s.cal.threshold ++ le 2 s.deltaT ++ le 4 s.cal.declared ++ le 4 s.cal.measured ++ le 4 s.cal.rejections ++ le 4 s.cal.skips ++ le 1 s.cal.lastReason ++ le 1 s.cal.lastPan ++ zeros 6 ++ le 8 s.cal.lastEnd) s) ∧
  Carries .calRead 0x0C02 (fun h s => .done 0 ((List.range (u16 h.cmd.params 2)).map (fun i => if u8 h.cmd.params 0 = 0 then s.liveByte (u32 h.cmd.params 4 + i) else s.stagingByte (u32 h.cmd.params 4 + i))) s) ∧
  Carries .calSetMode 0x0C10 (fun h s => .done 0 [] (s.setCal (fun c => { c with mode := u8 h.cmd.params 0, threshold := u16 h.cmd.params 2 }))) ∧
  Carries .calSetReference 0x0C11 (fun h s => .done 0 [] (s.setCal (fun c => { c with declared := u32 h.cmd.params 0 }))) ∧
  Carries .calRun 0x0C12 (fun h s =>
      let b := h.cmd.params
      let mask := u32 b 4
      if u8 b 0 = 1 then
        if s.cal.rotation.isSome then .accepted [] (s.setCal (fun c => { c with waiting := some (some h.serial, mask) }))
        else .accepted [] (s.startRotation (some h.serial) mask)
      else
        let f : ForePass := { ref := h.serial, parallel := u8 b 1 == 1, mask, epoch := u64 b 8, left := bitsOf 32 mask }
        .accepted [] ((s.setCal (fun c => { c with fore := some f })).ask 2 0 { vdd := 2, av := 2 * (if u8 b 1 = 1 then (bitsOf 32 mask).length else 1) } false (some h.serial) none)) ∧
  Carries .calWrite 0x0C13 (fun h s => .done 0 [] (s.stageWrite (u32 h.cmd.params 0) (h.cmd.params.drop 8))) ∧
  Carries .calStage 0x0C14 (fun _ s => .done 0 [] s.stage) ∧
  Carries .calApply 0x0C15 (fun h s =>
      match s.applyCheck (u8 h.cmd.params 0 == 1) with
      | 0 => configRun effCalApply (s.changeEpoch (u64 h.cmd.params 4)) h s
      | n => .stopped stBadParam 0 [] (s.setCal (fun c => { c with applyResult := n }))) ∧
  Carries .powerGetStatus 0x0D01 (fun h s => .done 0 (s.powerStatus h.serial) s) ∧
  Carries .sluiceGetStatus 0x0D02 (fun h s => .done 0 s.sluice.status (if u8 h.cmd.params 0 = 1 then { s with sluice := { s.sluice with grants := 0, timeouts := 0, longest := 0 } } else s)) ∧
  Carries .powerSetTolerance 0x0D10 (fun h s => let p := h.cmd.params; .done 0 [] ((bitsOf 6 (u8 p 0)).foldl (fun (s : State) g => s.setTolerance g (u32 p (4 + 4 * g))) s)) ∧
  Carries .sluiceSetBudget 0x0D11 (fun h s =>
      let p := h.cmd.params
      .done 0 [] { s with sluice := { s.sluice with budget := { vdd := u16 p 0, av := u16 p 2, vdds := u16 p 4 }, reserve := { vdd := u16 p 6, av := u16 p 8, vdds := u16 p 10 }, timeout := u16 p 12 } }) ∧
  Carries .powerWake 0x0D12 (fun h s =>
      let s := s.setPower (fun w => { w with holdTo := max w.holdTo (s.now + 1000000 * u32 h.cmd.params 0) })
      if s.sys.hub = .dormant then .accepted [] (s.setPower (fun w => { w with wakes := w.wakes ++ [h.serial] })) else .done 0 [] s)

/-- The commands of groups 0x0E, 0x0F and 0x10: wherever the turn of one comes and its checks and budgets hold (`Carries`), it completes with the answer written out here, carried out and settled. -/
def Obligations.SafetyFaultAndFirmwareCommandsAnswer : Prop :=
  Carries .safetyGetStatus 0x0E01 (fun _ s => .done 0 (s.safety.snapshot ++ le 8 s.safety.changedAt) s) ∧
  Carries .safetyGetParams 0x0E02 (fun h s => .done 0 (s.safety.readSet (u8 h.cmd.params 0)) s) ∧
  Carries .safetyGetCounters 0x0E03 (fun h s => .done 0 ((List.range 10).map (fun (i : Nat) => le 4 (Tbl.get 0 s.safety.counters i))).flatten (if u8 h.cmd.params 0 = 1 then s.setSafety (fun x => { x with counters := [] }) else s)) ∧
  Carries .safetyWrite 0x0E10 (fun h s =>
      let b := h.cmd.params
      let w := s.sessionOf h
      let n := s.safety.writes + 1
      let s := s.dropSet
      let s := ((s.setSafe .a (fun x => { x with waiting := some b })).setSafe .b (fun x => { x with waiting := some b })).setSafety (fun x => { x with writes := n, writer := w, writtenAt := s.now })
      .done 0 (le 4 (setCrc b) ++ le 4 (setCrc b) ++ le 4 n ++ zeros 4) ((s.safeEvent 7 (u32 b 8) 0 0).noteSafety)) ∧
  Carries .safetyConfirm 0x0E11 (fun h s => .holds (s.setSafety (fun x => { x with confirm := some h.serial }))) ∧
  Carries .safetyDiscard 0x0E12 (fun _ s => .done 0 [] (s.dropSet.noteSafety)) ∧
  Carries .faultGetSummary 0x0F01 (fun _ s => .done 0 (s.faultSummary) s) ∧
  Carries .faultReadLog 0x0F02 (fun h s => .done 0 (s.faults.readLog (u32 h.cmd.params 0) (u8 h.cmd.params 4)) s) ∧
  Carries .faultGetMemory 0x0F03 (fun h s => let r : State × Bytes := (if u8 h.cmd.params 0 = 1 then s.setFaults (fun f => { f with mem := [], scrubDone := 0, scrubSkipped := 0 }) else s, s.faults.memory); .done 0 r.2 r.1) ∧
  Carries .diagGetTemps 0x0F04 (fun _ s => .done 0 (((List.range 10).map (fun i => leInt 2 (s.front.temps.getD i 0))).flatten ++ zeros 4) s) ∧
  Carries .faultClearLog 0x0F10 (fun _ s => let r : State × Bytes := (s.setFaults (fun f => { f with log := f.log.filter (·.2.pinned), counts := [], highest := none }), []); .done 0 r.2 r.1) ∧
  Carries .faultSetScrub 0x0F11 (fun h s => let r : State × Bytes := (s.setFaults (fun f => { f with scrubEvery := u32 h.cmd.params 0, scrubDue := if u32 h.cmd.params 0 = 0 then none else some (s.now + 1000000000 * u32 h.cmd.params 0) }), []); .done 0 r.2 r.1) ∧
  Carries .faultSetMirror 0x0F12 (fun h s => let r : State × Bytes := (s.setFaults (fun f => { f with mirror := BitVec.ofNat 8 (u8 h.cmd.params 0) }), []); .done 0 r.2 r.1) ∧
  Carries .diagInject 0x0F13 (fun h s => .done 0 [] (s.inject h.cmd.params)) ∧
  Carries .fwGetStatus 0x1001 (fun _ s => .done 0 (le 4 s.sys.fwVersion.toNat ++ le 1 s.sys.fwSource ++ le 1 s.sys.bootResult ++ le 2 s.sys.fwActivations ++ le 4 (s.slotSequence 0) ++ le 4 (s.slotSequence 1) ++ le 8 s.sys.fwLastAt) s) ∧
  Carries .fwVerify 0x1041 (fun h s => .accepted [] (s.setSys (fun x => { x with fwChecks := x.fwChecks ++ [{ slot := u8 h.cmd.params 0, ref := h.serial, activate := false, passed := false }] }))) ∧
  Carries .fwActivate 0x1040 (fun h s => .accepted [] (s.setSys (fun x => { x with fwChecks := x.fwChecks ++ [{ slot := u8 h.cmd.params 0, ref := h.serial, activate := true, passed := false }] }))) ∧
  Carries .flashGetInfo 0x1002 (fun _ s => .done 0 (le 3 Config.jedecId.toNat ++ [s.serial.status] ++ le 4 s.serial.opsDone ++ le 1 (if s.flashRuns.isSome then 1 else 0) ++ zeros 3) s) ∧
  Carries .flashRead 0x1003 (fun h s =>
      let p := h.cmd.params
      if s.flashBlocked (u32 p 0) (u16 p 4) then .holds (s.setSerial (fun x => { x with reads := x.reads ++ [h.serial] }))
      else .done 0 (s.flashReadOf p) s.flashSuspend) ∧
  Carries .flashErase 0x1010 (fun h s => .accepted [] ((s.setSerial (fun x => { x with ops := x.ops ++ [({ ref := h.serial, erase := true, addr := u32 h.cmd.params 0, size := if u8 h.cmd.params 4 = 1 then 65536 else 4096 } : FlashOp)] })).flashAsk)) ∧
  Carries .flashProgram 0x1011 (fun h s => .accepted [] ((s.setSerial (fun x => { x with ops := x.ops ++ [({ ref := h.serial, erase := false, addr := u32 h.cmd.params 0, size := u16 h.cmd.params 4, data := h.cmd.params.drop 8 } : FlashOp)] })).flashAsk)) ∧
  Carries .spiTransfer 0x1012 (fun h s =>
      let p := h.cmd.params
      .done 0 ((List.range (u16 p 4)).map (fun i => Config.spiAnswer (u8 p 0) (p.drop 8) s.serial.transfers i)) (s.setSerial (fun x => { x with transfers := x.transfers + 1 })))

/-! ## What changes do at their epoch -/

/-- Changes of the front end, the grid, recipes, reductions, capture, edges and the kiln, when their epoch comes: config_gen advances by one first (R157), but for those that see to it themselves or make no configuration change, and the effect is the one written out. -/
def Obligations.FrontEndAndChainChangesApply : Prop :=
  Applies 0x0210 false (fun ref p s =>
      let pans := maskPans (u32 p 0)
      if u8 p 4 = 1 then (((pans.filter (fun q => (s.pan q).power != .on && !s.dieLost (dieOf q))).foldl (fun (s : State) q => s.panOn q) s), some (0, 0, []))
      else
      let keys := (s.streams.table.filter (fun e => e.2.isOpen && pans.any (fun q => (List.range 8).any (fun c => ofChannel (8 * q + c) e.1)))).map (·.1)
      (pans.foldl (fun (s : State) q => s.panOff q) s).awaitEnds ref keys) ∧
  Applies 0x0211 false (fun _ p s => ((List.range (u16 p 2)).foldl (fun (s : State) i => s.setChan (u16 p 0 + i) (fun c => if c.gain = u8 p (12 + i) then c else ({ c with gain := u8 p (12 + i) }).unsettle (settleTime c.filter))) s, some (0, 0, []))) ∧
  Applies 0x0212 false (fun _ p s => ((List.range (u16 p 2)).foldl (fun (s : State) i => s.setChan (u16 p 0 + i) (fun c => if c.filter = (u8 p (12 + i) == 1) then c else ({ c with filter := u8 p (12 + i) == 1 }).unsettle (settleTime (u8 p (12 + i) == 1)))) s, some (0, 0, []))) ∧
  Applies 0x0213 false (fun _ p s =>
      let pn := u8 p 0
      let old := seqChannels (s.pan pn).seq
      let new := seqChannels (seqOf p)
      let s := (old.filter (fun c => !new.contains c)).foldl (fun (s : State) c => s.endChannel (8 * pn + c) 2) s
      let s := s.setPan pn (fun x => { x with seq := seqOf p })
      let s := { s with front := { s.front with results := (List.range 16).foldl (fun t e => if e < (seqOf p).length then t else Tbl.modify 0x00300000 t (16 * pn + e) (fun w => w ||| 0x00300000)) s.front.results } }
      let s := if spotPossible (seqOf p) (s.slots pn) then s else s.dropUrgent pn 7 (fun _ => true)
      ((new.filter (fun c => !old.contains c)).foldl (fun (s : State) c => s.beginChannel (8 * pn + c) 2) s, some (0, 0, []))) ∧
  Applies 0x0215 false (fun _ p s => ((s.testPans (u8 p 0)).foldl (fun (s : State) q => s.setPan q (fun x => { x with testGain := u8 p 1, testDac := i16 p 2, testCheck := u8 p 4 == 1, testTol := u16 p 6, testMisses := 0 })) s, some (0, 0, []))) ∧
  Applies 0x0216 false (fun _ p s => ((List.range (u16 p 2)).foldl (fun (s : State) i => s.setComp (u16 p 0 + i) (slice p (12 + 8 * i) 8)) s, some (0, 0, []))) ∧
  Applies 0x0217 false (fun _ p s => ({ s with front := { s.front with tripEnable := BitVec.ofNat 4 (u8 p 0), tripPolarity := BitVec.ofNat 4 (u8 p 1) } }, some (0, 0, []))) ∧
  Applies 0x0218 false (fun ref p s =>
      let q := u8 p 0
      if u8 p 2 ≠ 0 then (s, some (0, 0, []))
      else if u8 p 1 = 1 then
        if !s.rovingFree ∨ s.front.nextSub.isSome then (s, some (stNoResource, 1, [])) else (s.askSubstitute q (some ref), none)
      else if s.substituted ≠ some q then (s, some (0, 0, []))
      else (s.setPan q (fun x => { x with release := some (ref, 0, 0) }), none)) ∧
  Applies 0x0310 false (fun _ p s => (s.retime (List.range 32) (fun s => s.setGrid (u16 p 0) (u64 p 8)), some (0, 0, []))) ∧
  Applies 0x0311 false (fun _ p s => (if u16 p 0 = s.front.gridN then s else s.retime (List.range 32) (fun s => s.setGrid (u16 p 0) s.now), some (0, 0, []))) ∧
  Applies 0x0312 false (fun _ p s =>
      let pans := (maskPans (u32 p 0)).filter (fun q => (s.pan q).log2D != u8 p 4)
      let set := fun (s : State) => (pans.foldl (fun (s : State) q => s.setPan q (fun x => { x with log2D := u8 p 4 })) s).judgeStrobes
      (if pans.isEmpty then s else s.retime pans set, some (0, 0, []))) ∧
  Applies 0x0313 false (fun _ p s =>
      ((List.range (u16 p 2)).foldl (fun (s : State) i =>
        let ch := u16 p 0 + i
        let d := i8 p (12 + i)
        if (s.chan ch).userDelay = d then s else s.setChan ch (fun c => ({ c with userDelay := d }).unsettle (s.inPeriod ch))) s, some (0, 0, []))) ∧
  Applies 0x0413 false (fun _ p s => ((List.range (u16 p 2)).foldl (fun (s : State) i => s.assignChannel (u16 p 0 + i) (u8 p (12 + i))) s, some (0, 0, []))) ∧
  Applies 0x0414 true (fun ref p s =>
      let rn := u8 p 0
      let target := u8 p 1 == 1
      let r := s.recipe rn
      if r.fading then
        match r.queued with
        | none => (s.setRecipe rn (fun r => { r with queued := some { target, length := u16 p 2, ref, replaced := false } }), none)
        | some q => ((s.setRecipe rn (fun r => { r with queued := some { target, length := u16 p 2, ref, replaced := true } })).finish q.ref stOk 2 (swapResult 3 0), none)
      else if r.activeB = target then (s, some (0, 3, swapResult 4 s.now))
      else (s.startSwap rn target (u16 p 2), some (0, 0, swapResult 0 s.now))) ∧
  Applies 0x0415 false (fun _ p s => ((List.range (u16 p 2)).foldl (fun (s : State) i => if (s.mchan (u16 p 0 + i)).recipe.isSome then s.setMchan (u16 p 0 + i) (fun c => { c with resetDue := true }) else s) s, some (0, 0, []))) ∧
  Applies 0x0416 false (fun _ p s =>
      let ch := u16 p 0
      let i := u8 p 2
      let old := Tbl.get {} (s.mchan ch).slots i
      let new := slotOf p old
      let p0 := s.inPeriod ch
      let per := if old.source = 0 then p0 else p0 * (match (s.mchan ch).recipe with | some rn => (s.recipe rn).decAll | none => 1)
      let differs := old.op != new.op || old.source != new.source || old.m != new.m || old.level != new.level || old.hyst != new.hyst
      let s := if old.op ≠ 0 ∧ differs then s.asBefore (fun s => (s.emitBlock ch i old per).closeRecord (streamKey 2 (4 * ch + i))) else s
      let s := s.setSlot ch i (if differs then new else { old with incl := new.incl })
      let s := if new.op = 0 then s else s.setPeriods ch
      let s := if old.op = 0 then s.openSlot ch i 2 else if new.op = 0 then s.endStream (streamKey 2 (4 * ch + i)) 2 s.now else s
      (s, some (0, 0, []))) ∧
  Applies 0x0511 false (fun _ p s => (s.setGroup (u8 p 0) (fun x => { x with terms := Tbl.set x.terms (u8 p 1) { bytes := slice p 1 31, next := if u8 p 2 = 7 then some (u64 p 16) else none, left := u32 p 28 } }), some (0, 0, []))) ∧
  Applies 0x0512 false (fun ref p s =>
      let gs := (bitsOf 16 (u16 p 0)).filter (fun g => (s.group g).isDefined)
      if u8 p 2 = 1 then (gs.foldl (fun (s : State) g => if (s.group g).state = .disabled ∧ (s.group g).waiting.isNone then s.enableGroup g 2 else s) s, some (0, 0, []))
      else
        let on := gs.filter (fun g => (s.group g).state != .disabled)
        let keys := (on.flatMap (fun g => (s.group g).keys g)).filter (fun k => (s.stream k).isOpen)
        (on.foldl (fun (s : State) g => s.haltGroup g 2 .disabled) s).awaitEnds ref keys) ∧
  Applies 0x0516 false (fun _ p s => (s.setGroup (u8 p 0) (fun x => { x with measure := slice p 1 15 }), some (0, 0, []))) ∧
  Applies 0x0610 false (fun _ p s =>
      let is := if u8 p 0 = 0xFF then List.range 16 else [u8 p 0]
      let s := is.foldl (fun (s : State) i => s.setEdge i (fun e => { e with setting := slice p 1 15, prescale := 0 })) s
      let names := fun (u : Unit8) => is.contains (u16 u.setting 4) || (u.mode == 1 && is.contains (u16 u.setting 6))
      ((List.range 8).foldl (fun (s : State) m => if (s.unit m).mode ≠ 0 ∧ names (s.unit m) then s.startUnit m 2 else s) s, some (0, 0, []))) ∧
  Applies 0x0611 false (fun _ p s =>
      let i := u8 p 0
      let s := s.setEdge i (fun e => { e with stream := slice p 1 7 })
      (if u8 p 1 = 1 then s.startStamps i 2 else s.endStream (streamKey 4 i) 2 s.now, some (0, 0, []))) ∧
  Applies 0x0612 false (fun _ p s => (s.setMeas 1 p, some (0, 0, []))) ∧
  Applies 0x0613 false (fun _ p s => (s.setMeas 2 p, some (0, 0, []))) ∧
  Applies 0x0614 false (fun _ p s => ((bitsOf 8 (u8 p 0)).foldl (fun (s : State) m => if (s.unit m).mode = 0 then s else (s.stopUnit m 2).setUnit m (fun _ => {})) s, some (0, 0, []))) ∧
  Applies 0x0710 false (fun _ p s =>
      let kind := u8 p 0
      let keys := (List.range (u16 p 6)).map (fun i => settingOf kind (u16 p 4 + i))
      let s := s.closeRecords (fun k => keys.contains (codingKey k) && isCodable k)
      let begun := fun (r : Record) => if r.toCode && r.coder.isNone && keys.contains (codingKey r.key) then let c := s.coder (codingKey r.key); { r with coder := some (c.mask, c.ref, c.refresh) } else r
      let s : State := { s with
        streams := { s.streams with closed := s.streams.closed.map begun }
        kiln := { s.kiln with coders := s.kiln.coders.map (fun e => if keys.contains (codingKey e.1) then (e.1, { e.2 with forced := false }) else e) } }
      (keys.foldl (fun (s : State) k => s.setCoder k (fun c => { c with coding := u8 p 1, mask := u8 p 2, ref := u8 p 3, refresh := u16 p 8, forced := false })) s, some (0, 0, []))) ∧
  Applies 0x0711 true (fun _ p s => (s.loadBlob (streamKey (u8 p 0) (u16 p 2)) (slice p 16 32), some (0, 0, []))) ∧
  Applies 0x0712 false (fun _ p s =>
      let i := u8 p 0
      let old := s.tap i
      let s := if old.on ∧ old.chan ≠ 0xFFFF then s.endChannel old.chan 2 else s
      let s := s.setTap i (fun _ => if u8 p 1 = 1 then { on := true, chan := u16 p 2, stream := BitVec.ofNat 32 (u32 p 4), rate := u32 p 8, wide := u32 p 4 / 65536 % 16 == 1 } else {})
      (if u8 p 1 = 1 ∧ u16 p 2 ≠ 0xFFFF then s.setMchan (u16 p 2) (fun c => { c with resetDue := true, brineNew := true }) else s, some (0, 0, [])))

/-- Changes of streams, the feed, runs, stops, leaving the fabric, pairs, swaps and calibration images, when their epoch comes: config_gen advances by one first (R157), but for those that see to it themselves or make no configuration change, and the effect is the one written out. -/
def Obligations.StreamAndHubChangesApply : Prop :=
  Applies 0x0810 false (fun _ p s =>
      let kind := u8 p 0
      let on := u8 p 1 == 1
      ((List.range (u16 p 4)).foldl (fun (s : State) i =>
        let ch := u16 p 2 + i
        let s : State := { s with streams := { s.streams with enabled := Tbl.set s.streams.enabled (streamKey kind ch) on } }
        if on then s.openChannel kind ch 2 else s.endStream (streamKey kind ch) 2 s.now) s, some (0, 0, []))) ∧
  Applies 0x0811 false (fun _ p s =>
      let kind := u8 p 0
      ((List.range (u16 p 4)).foldl (fun (s : State) i =>
        let j := u16 p 2 + i
        let s := s.closeRecords (fun k => decide (k / 65536 = kind) && (if kind = 2 then k % 65536 / 4 == j && decide (k % 65536 < 32768) else k % 65536 == j))
        { s with streams := { s.streams with sizes := Tbl.set s.streams.sizes (streamKey kind j) (u16 p 6, u32 p 8) } }) s, some (0, 0, []))) ∧
  Applies 0x0814 false (fun _ p s =>
      let s := s.closeRecords (fun _ => true)
      ({ s with streams := { s.streams with format := u8 p 0 } }, some (0, 0, []))) ∧
  Applies 0x0816 false (fun _ p s =>
      let on := u8 p 0 == 1
      let credit := u8 p 1 == 1
      let f := s.feed
      let was := f.enabled
      let same := credit == f.credit && u32 p 4 == f.high && u32 p 8 == f.low
      let s := if was && !(on && same) then s.feedFlush.1 else s
      let s := if was && !on then f.active.foldl (fun (s : State) o => s.endChannel (256 + o) 2) s else s
      let s := s.setFeed (fun f => { f with enabled := on, credit, high := u32 p 4, low := u32 p 8, staging := if was && on then f.staging else [], partialSkip := if was && on then f.partialSkip else 0, owed := if was && on && same then f.owed else if was && on && credit && f.credit then f.owed else 0, holdN := if was && on && same then f.holdN else true })
      let s := if on && !was then f.active.foldl (fun (s : State) o => s.beginChannel (256 + o) 2) s else s
      (s, some (0, 0, []))) ∧
  Applies 0x0817 false (fun _ p s =>
      let o := u8 p 0
      let ch := 256 + o
      let old := s.feedChan o
      let s := if old.on then (s.feedDrain ch).endChannel ch 2 else s
      if u8 p 1 = 0 then (s.setFeed (fun f => { f with chans := Tbl.erase f.chans o }), some (0, 0, []))
      else
        let s := s.setFeed (fun f => { f with chans := Tbl.set f.chans o { on := true, width := u8 p 2, period := u32 p 4, first := u64 p 8 } })
        let s := if s.feed.enabled then s.beginChannel ch 2 else s
        (if old.on ∨ s.inPeriod ch ≠ old.period then s.captureChange (fun _ x => x.channels.contains ch) true else s, some (0, 0, []))) ∧
  Applies 0x0110 true (fun _ _ s =>
      if s.sys.hub = .shadow then ((s.setTwin (fun w => { w with lockstep := true })).runStreams, some (0, 0, []))
      else if s.sys.hub ≠ .ready then (s, some (stBadState, 0, []))
      else ((s.go .run 0x0030).runStreams, some (0, 0, []))) ∧
  Applies 0x0111 true (fun ref _ s =>
      let s := s.stopStreams 1
      if s.sys.hub = .shadow then (s, some (0, 0, [])) else s.awaitEnds ref s.ending) ∧
  Applies 0x0912 true (fun ref _ s =>
      let s := if s.live then s.stopStreams 3 else s
      ({ s with fabric := { s.fabric with leaving := some (ref, false) } }, none)) ∧
  Applies 0x0B10 true (fun _ _ s => (s.dissolve, some (0, 0, []))) ∧
  Applies 0x0B12 true (fun ref _ s => ((s.closeRecords (fun _ => true)).setTwin (fun w => { w with swap := some (ref, s.now), swapStage := 1 }), none)) ∧
  Applies 0x0C15 false (fun _ _ s =>
      let changed := (List.range 256).filter (fun ch => s.calU16 (chanRec ch + 22) != s.stU16 (chanRec ch + 22))
      let s := s.setCal (fun c => { c with live := (List.range 4).foldl (fun m a => Mem.write nominalByte m a (nominalByte a)) c.staging, stagedChanged := false, applyResult := 0 })
      let s := (List.range 32).foldl (fun (s : State) p => s.calWrite (testRec p + 24) [2]) s
      let s := changed.foldl (fun (s : State) ch => s.setChan ch (fun c => { c with settleTo := max c.settleTo (s.now + 2000) })) s
      (s.front.chans.foldl (fun (s : State) e => s.judgeChan e.1 ((s.chan e.1).judge (s.compTrim e.1))) s, some (0, 0, [])))

/-! ## What each event completes with -/

/-- Sessions, queues, firmware, flash, reset and start-up: whenever fabric time has come to the row's time and what the row needs holds then, it completes with the effect written out, and the hub settles. -/
def Obligations.SystemRowsTakeEffect : Prop :=
  (∀ queue, Takes (fun t => .fenceWaitEnd t queue) (fun _ => True)
    (fun s => { s with cmds := { s.cmds with held := s.cmds.held.map (fun h => if h.cmd.queue.toNat = queue then { h with fenceWaits := false } else h) } })) ∧
  (∀ slot x, Takes (fun t => .sessionIdleTimeout t slot)
    (fun s => s.cmds.sessions.lookup slot = some x ∧ x.idleTimeout ≠ 0 ∧ x.lastAdmit + 1000000000 * x.idleTimeout ≤ s.now)
    (fun s => ((s.notice slot 0x00C2 0 0 stOk 0 ([1, 0] ++ le 2 (s.cmds.held.filter (fun h => h.ofSlot slot && h.waits)).length)).endSession slot).2)) ∧
  (∀ c, Takes .firmwareActivationStart
    (fun s => s.sys.fwChecks.find? (fun c => c.activate && c.passed) = some c ∧ s.sys.fwPaused = false ∧ s.executing = none)
    (fun s => s.setSys (fun x => { x with fwPaused := true, fwPausedAt := s.now, fwRestartRef := some c.ref }))) ∧
  Takes .firmwareRestartEnd (fun s => s.sys.fwPaused = true ∧ s.sys.fwChecks.find? (fun c => some c.ref == s.sys.fwRestartRef) = none)
    (fun s => (s.setSys (fun x => { x with fwPaused := false, fwRestartRef := none })).takeArrivals) ∧
  (∀ c, Takes .firmwareRestartEnd (fun s => s.sys.fwPaused = true ∧ s.sys.fwChecks.find? (fun c => some c.ref == s.sys.fwRestartRef) = some c)
    (fun s =>
      let b := ((s.setSys (fun x => { x with fwPaused := false, fwRestartRef := none })).verifySlot c.slot).2
      ((s.setSys (fun x => { x with fwPaused := false, fwRestartRef := none, fwChecks := x.fwChecks.filter (fun d => d.ref != c.ref), fwVersion := BitVec.ofNat 32 (u32 b 4), fwSource := c.slot + 1, fwActivations := sat 16 (x.fwActivations + 1), fwLastAt := s.now })).finish c.ref stOk 0 b).takeArrivals)) ∧
  (∀ o, ∀ status : Byte, status.getLsbD 0 = true → Comes (fun t => .flashOperationDone t status) (fun s => s.flashRuns = some o)
    (fun s => s.setSerial (fun x => { x with status }))) ∧
  (∀ o, ∀ status : Byte, status.getLsbD 0 = false → Comes (fun t => .flashOperationDone t status) (fun s => s.flashRuns = some o)
    (fun s =>
      let s := s.setSerial (fun x => { x with status })
      let a := s.flashAddr o.addr
      let b := if o.erase then List.replicate o.size 0xFF else o.data.zipIdx.map (fun e => e.1 &&& s.flashByte (a + e.2))
      (((s.writeFlash a b).countSerial 10 1).setSerial (fun x => { x with opsDone := sat 32 (x.opsDone + 1) })).flashEnd o 0)) ∧
  (∀ o, Comes .flashOperationTimeout (fun s => s.flashRuns = some o ∧ o.since.getD 0 + 5000000000 ≤ s.now)
    (fun s =>
      let n := s.sys.freeUsed
      let b := (List.range o.region.2).map (fun i => (Config.freeValue (n + i)).setWidth 8)
      let s : State := { s with sys := { s.sys with freeUsed := n + o.region.2 } }
      ((s.writeFlash (s.flashAddr o.region.1) b).countSerial 11 1).flashEnd o 1)) ∧
  (∀ offset, Takes (fun t => .flashWindowRead t offset) (fun s => s.flashBlocked (offset / 32 * 32) 32 = false)
    (fun s => (s.countSerial 8 1).flashSuspend.setSerial (fun x => { x with line := s.readFlash (offset / 32 * 32) 32 }))) ∧
  (∀ offset, Takes (fun t => .flashWindowRead t offset) (fun s => s.flashBlocked (offset / 32 * 32) 32 = true)
    (fun s => (s.countSerial 8 1).setSerial (fun x => { x with winReads := x.winReads ++ [offset] }))) ∧
  (∀ c, Takes .fwSlotVerifyEnd (fun s => s.sys.fwChecks.find? (fun c => !c.passed && !s.slotBusy c.slot) = some c ∧ c.activate = false)
    (fun s => (s.setSys (fun x => { x with fwChecks := x.fwChecks.filter (fun d => d.ref != c.ref) })).finish c.ref stOk 0 (s.verifySlot c.slot).2)) ∧
  (∀ c, Takes .fwSlotVerifyEnd (fun s => s.sys.fwChecks.find? (fun c => !c.passed && !s.slotBusy c.slot) = some c ∧ c.activate = true ∧ (s.verifySlot c.slot).1 = 0)
    (fun s => s.setSys (fun x => { x with fwChecks := x.fwChecks.map (fun (d : FwCheck) => if d.ref = c.ref then { d with passed := true } else d) }))) ∧
  (∀ c, Takes .fwSlotVerifyEnd (fun s => s.sys.fwChecks.find? (fun c => !c.passed && !s.slotBusy c.slot) = some c ∧ c.activate = true ∧ (s.verifySlot c.slot).1 ≠ 0)
    (fun s => (s.setSys (fun x => { x with fwChecks := x.fwChecks.filter (fun d => d.ref != c.ref) })).finish c.ref stBadParam 0 (s.verifySlot c.slot).2)) ∧
  (∀ l, l.length < 2 → Takes .watchdogExpiry (fun s => s.sys.fwPaused = false ∧ s.sys.forcedRestarts.filter (fun t => decide (s.now < t + 60000000000)) = l)
    (fun s => (s.logFault 0x0063 0 (l.length + 1) (match s.executing with | some h => h.opcode.toNat | none => 0)).setSys (fun x => { x with forcedRestarts := l ++ [s.now], restartCount := x.restartCount + 1, fwRestartDue := true }))) ∧
  (∀ l, 2 ≤ l.length → Takes .watchdogExpiry (fun s => s.sys.fwPaused = false ∧ s.sys.forcedRestarts.filter (fun t => decide (s.now < t + 60000000000)) = l)
    (fun s => s.logFault 0x00F0 0 l.length 0)) ∧
  (∀ lowNs taken, 1000 ≤ lowNs ∨ (100 ≤ lowNs ∧ taken = true) → Comes (fun t => .resetNLow t lowNs taken) (fun _ => True) (fun s => s.hubReset false)) ∧
  (∀ lowNs taken, lowNs < 100 ∨ (lowNs < 1000 ∧ taken = false) → Comes (fun t => .resetNLow t lowNs taken) (fun _ => True) id) ∧
  (∀ rail ns, 500 ≤ ns → Comes (fun t => .railOutOfRegulation t rail ns) (fun _ => True) (fun s => (s.hubReset false).setSys (fun x => { x with supervisor := false }))) ∧
  (∀ rail ns, ns < 500 → Comes (fun t => .railOutOfRegulation t rail ns) (fun _ => True) id) ∧
  Comes .supervisorRelease (fun s => s.sys.hub = .reset) (fun s => { s with sys := { s.sys with supervisor := true } }) ∧
  (∀ straps idStart temps, Comes (fun t => .leaveReset t straps idStart temps) (fun s => s.sys.hub = .reset ∧ s.sys.supervisor = true)
    (fun s =>
      let x := if s.sys.softReset then s.sys.straps else straps
      let s := s.setSys (fun y => { y with hub := .boot, straps := x, changedAt := s.now, softReset := false })
      let s := State.stage { s with cmds := { s.cmds with nextId := idStart }, front := { s.front with temps } }
      let s := if x.bootSrc = 3 then s.logFault 0x0005 0 (Straps.word x) 0 else s
      if x.bootSrc = 1 ∨ x.bootSrc = 3 then s.setSys (fun y => { y with patch := .romOnly })
      else (s.setSys (fun y => { y with slotValid := (headerResult (s.slotHeader 0) == 0, headerResult (s.slotHeader 1) == 0) })).choosePatch)) ∧
  (∀ single double, Comes (fun t => .memorySelfTestEnd t single double) (fun s => s.sys.hub = .boot ∧ s.sys.selfTest = none)
    (fun s =>
      let real := fun (e : Nat × Nat) => e.1 != 2 && decide (e.2 < storeWords e.1)
      let s := (single.filter real).foldl (fun (s : State) e => s.logFault 0x0004 e.1 e.2 0) s
      let s := s.setSys (fun x => { x with eccMapped := x.eccMapped + (single.filter real).length })
      match double.find? real with
      | some e => (s.logFault 0x00F3 e.1 e.2 0).setSys (fun x => { x with selfTest := some false })
      | none => s.setSys (fun x => { x with selfTest := some true }))) ∧
  (∀ die failed, die < 2 → ((failed.filter (fun i => decide (i < 58))).eraseDups).length ≤ 4 →
    Comes (fun t => .d2dLinkBringupEnd t die true failed) (fun s => s.sys.hub = .boot ∧ s.sys.d2dUp.lookup die = none)
      (fun s =>
        let s := s.setSys (fun x => { x with d2dUp := x.d2dUp ++ [(die, true)] })
        State.mapLanes { s with front := { s.front with laneFails := Tbl.set s.front.laneFails die ((failed.filter (fun i => decide (i < 58))).eraseDups) } } die)) ∧
  (∀ die locked failed, die < 2 → 4 < ((failed.filter (fun i => decide (i < 58))).eraseDups).length →
    Comes (fun t => .d2dLinkBringupEnd t die locked failed) (fun s => s.sys.hub = .boot ∧ s.sys.d2dUp.lookup die = none)
      (fun s => (s.setSys (fun x => { x with d2dUp := x.d2dUp ++ [(die, false)] })).bootLost die 1 ((failed.filter (fun i => decide (i < 58))).eraseDups).length)) ∧
  (∀ die failed, die < 2 → ((failed.filter (fun i => decide (i < 58))).eraseDups).length ≤ 4 →
    Comes (fun t => .d2dLinkBringupEnd t die false failed) (fun s => s.sys.hub = .boot ∧ s.sys.d2dUp.lookup die = none)
      (fun s => (s.setSys (fun x => { x with d2dUp := x.d2dUp ++ [(die, false)] })).bootLost die 2 0)) ∧
  (∀ n, Comes .patchReadEnd (fun s => s.sys.hub = .boot ∧ s.sys.patch = .unread ∧ s.patchCandidate = some n ∧ (s.verifySlot n).1 = 0)
    (fun s => { s with sys := { s.sys with patch := .slot n } })) ∧
  (∀ n, Comes .patchReadEnd (fun s => s.sys.hub = .boot ∧ s.sys.patch = .unread ∧ s.patchCandidate = some n ∧ (s.verifySlot n).1 ≠ 0)
    (fun s => State.choosePatch { s with sys := { s.sys with firstCrcFail := s.sys.firstCrcFail || s.sys.patchTried.isEmpty, patchTried := s.sys.patchTried ++ [n] } })) ∧
  (∀ ok d0 d1, Comes .bootComplete
    (fun s => s.sys.hub = .boot ∧ s.sys.selfTest = some ok ∧ s.sys.d2dUp.lookup 0 = some d0 ∧ s.sys.d2dUp.lookup 1 = some d1 ∧ s.sys.patch ≠ .unread)
    (fun s =>
      let x := s.sys
      let s := s.setSys (fun x => { x with bootResult := x.result, rdy := true })
      let s := if x.patch = .missing then s.logFault 0x00F4 0 s.sys.bootStatus 0 else s
      let s := match x.patch with
        | .slot n => s.setSys (fun y => { y with fwVersion := BitVec.ofNat 32 (u32 (s.slotHeader n) 8), fwSource := n + 1 })
        | _ => s
      if 0x10 ≤ x.result then s.go .faultHold 0x0002 else (s.go .discover 0x0001).openEvents)) ∧
  (∀ die lane, die < 2 → lane < 58 → Takes (fun t => .d2dLaneFailure t die lane)
    (fun s => s.dieLost die = false ∧ lane ∉ Tbl.get [] s.front.laneFails die ∧ (Tbl.get [] s.front.laneFails die).length < 4)
    (fun s =>
      let s : State := { s with front := { s.front with laneFails := Tbl.set s.front.laneFails die (Tbl.get [] s.front.laneFails die ++ [lane]) } }
      if s.sys.hub = .discover ∨ s.sys.hub = .timelock then s.mapLanes die else s)) ∧
  (∀ die lane, die < 2 → lane < 58 → Takes (fun t => .d2dLaneFailure t die lane)
    (fun s => s.dieLost die = false ∧ lane ∉ Tbl.get [] s.front.laneFails die ∧ 4 ≤ (Tbl.get [] s.front.laneFails die).length)
    (fun s => State.declareLost { s with front := { s.front with laneFails := Tbl.set s.front.laneFails die (Tbl.get [] s.front.laneFails die ++ [lane]) } } die 1 ((Tbl.get [] s.front.laneFails die).length + 1))) ∧
  Takes .localTimeLock (fun s => s.sys.hub = .timelock ∧ s.sys.localMode = true) (fun s => s.go .ready 0x0020)

/-- The grid, strobes and converters: whenever fabric time has come to the row's time and what the row needs holds then, it completes with the effect written out, and the hub settles. -/
def Obligations.SamplingRowsTakeEffect : Prop :=
  (∀ k, Takes (fun t => .gridStrobe t k)
    (fun s => s.strikes = true ∧ s.grid.at k = s.now ∧ s.front.strikeFrom ≤ s.now ∧ s.passed s.now = false ∧ (s.cmds.changes.any (fun c => c.epoch == s.now)) = false)
    (fun s =>
      (List.range 32).foldl (fun (a : State) p =>
        let a := a.passStrobes p s.now
        match (a.pan p).armed with
        | m :: _ => if m.time = s.now then (if a.interrupted p then a.setPan p (fun x => { x with armed := x.armed.drop 1 }) else a.strike p m) else a
        | [] => a) { s with front := { s.front with lastK := k, lastTime := s.now, struck := true, lastResid := (s.residAt s.now).getD s.front.lastResid } })) ∧
  (∀ pan k, Takes (fun t => .strobeMessageSend t pan k)
    (fun s =>
      let time := strobeTime s.grid k (max s.now (s.pan pan).sentTo) s.gridChanges
      s.strobeDue pan k time = true ∧ s.time.counter + (s.gridAt time).period * 2 ^ 40 ≤ (s.strobeFor k time).cycle)
    (fun s =>
      let time := strobeTime s.grid k (max s.now (s.pan pan).sentTo) s.gridChanges
      ((s.setPan pan (fun x => { x with sentTo := time })).notePush (64 + pan)).setPan pan (fun x => { x with strobes := x.strobes ++ [s.strobeFor k time] }))) ∧
  (∀ pan k, Takes (fun t => .strobeMessageSend t pan k)
    (fun s =>
      let time := strobeTime s.grid k (max s.now (s.pan pan).sentTo) s.gridChanges
      s.strobeDue pan k time = true ∧ (s.strobeFor k time).cycle < s.time.counter + (s.gridAt time).period * 2 ^ 40)
    (fun s =>
      let time := strobeTime s.grid k (max s.now (s.pan pan).sentTo) s.gridChanges
      (s.setPan pan (fun x => { x with sentTo := time })).strobeLate pan k time)) ∧
  (∀ pan m r, Takes (fun t => .strobeMessageReceive t pan) (fun s => (s.pan pan).strobes = m :: r ∧ s.queueEmpty (64 + pan) (r.length + 1) = false ∧ s.time.counter ≤ m.cycle)
    (fun s => ((s.notePop (64 + pan)).setPan pan (fun x => { x with strobes := r })).setPan pan (fun x => { x with armed := armStrobe m x.armed }))) ∧
  (∀ pan m r, Takes (fun t => .strobeMessageReceive t pan) (fun s => (s.pan pan).strobes = m :: r ∧ s.queueEmpty (64 + pan) (r.length + 1) = false ∧ m.cycle < s.time.counter)
    (fun s => ((s.notePop (64 + pan)).setPan pan (fun x => { x with strobes := r })).strobeLate pan m.k m.time)) ∧
  Takes .epochBoundary (fun s => s.grid.isEpoch s.now = true ∧ s.sys.hub ≠ .faultHold ∧ s.front.epochAt ≠ some s.now)
    (fun s =>
      let s : State := { s with front := { s.front with epochAt := some s.now }, sys := { s.sys with genBefore := s.sys.configGen } }
      let s := if s.running then s.drain else s
      let s := (s.mash.recipes.map (·.1)).foldl (fun (s : State) r => s.startQueuedSwap r) s
      (((s.takeChanges (s.cmds.changes.filter (fun c => decide (c.epoch ≤ s.now)))).lastGen s.streams.closed.length).plainDown 8192).epochWork) ∧
  Takes .epochBoundary (fun s => s.grid.isEpoch s.now = true ∧ s.sys.hub = .faultHold ∧ s.front.epochAt ≠ some s.now)
    (fun s => (State.mapLanes { s with front := { s.front with epochAt := some s.now }, sys := { s.sys with genBefore := s.sys.configGen } } 0).mapLanes 1) ∧
  (∀ pan c f, Takes (fun t => .conversionEnd t pan c)
    (fun s => (s.pan pan).frame = some f ∧ (s.pan pan).power = .on ∧ s.dieLost (dieOf pan) = false ∧ f.over (s.pan pan) = false)
    (fun s => (s.convertEntry pan f c).releaseHoles pan)) ∧
  (∀ pan c f ref z n, Takes (fun t => .conversionEnd t pan c)
    (fun s => (s.pan pan).frame = some f ∧ (s.pan pan).power = .on ∧ s.dieLost (dieOf pan) = false ∧ f.over (s.pan pan) = true ∧
      (s.pan pan).release = some (ref, z, n) ∧ s.substituted = some pan)
    (fun s => s.releaseCheck pan c ref z n)) ∧
  (∀ pan c f u, Takes (fun t => .urgentSlotBoundary t pan c)
    (fun s =>
      let slot := if f.over (s.pan pan) then max f.slot ((s.now - f.time + 39) / 40) else f.slot
      (s.pan pan).frame = some f ∧ (s.pan pan).power = .on ∧ s.interrupted pan = false ∧ f.time + 40 * slot ≤ s.now ∧ nextUrgent (s.pan pan) { f with slot := slot } (s.slots pan) = some u)
    (fun s => s.serveUrgent pan { f with slot := if f.over (s.pan pan) then max f.slot ((s.now - f.time + 39) / 40) else f.slot } u c)) ∧
  Takes .spotReplyTimeout (fun _ => True)
    (fun s => (s.cmds.held.filter (fun h => h.opcode == 0x0214 && decide (h.phase = .executing) && decide (h.started + 20000 ≤ s.now))).foldl (fun (s : State) h =>
      match spotTarget (u16 h.cmd.params 0) with
      | some (p, _) => s.accept h.serial [BitVec.ofNat 8 (s.spotReason p), 0, 0, 0]
      | none => s) s) ∧
  (∀ pan, Takes (fun t => .urgentRequestEndUnserved t pan)
    (fun s => s.cannotServe pan = true)
    (fun s => s.dropUrgent pan 7 (fun u => !(s.takesHandovers pan && u.isHandover)))) ∧
  (∀ ch input, ch < 256 → Takes (fun t => .comparatorCrossing t ch input) (fun s => s.dieLost (dieOf (panOf ch)) = false)
    (fun s =>
      let s := s.setChan ch (fun c => { c with input })
      s.judgeChan ch ((s.chan ch).judge (s.compTrim ch)))) ∧
  (∀ ch beats e r, Takes (fun t => .tdcConversionEnd t ch beats) (fun s => (s.chan ch).tdcPending = e :: r)
    (fun s =>
      let k := max 1 (min 64 beats)
      let e' : Crossing := { e with time := lessFs e.time ((k * s.calU16 (chanRec ch + 24) : Nat) + 1000 * s.calI16 (chanRec ch + 26)) }
      (e' :: r).foldl (fun (s : State) e => s.queueCrossing e) (s.setChan ch (fun c => { c with tdcPending := [] })))) ∧
  (∀ pan e r, Takes (fun t => .comparatorEventDelivery t pan) (fun s => (s.pan pan).events = e :: r ∧ s.queueEmpty (32 + pan) (r.length + 1) = false)
    (fun s => ((s.notePop (32 + pan)).setPan pan (fun x => { x with events := r, eventLost := false })).serveCrossing { e with lost := (s.pan pan).eventLost })) ∧
  Takes .overloadIntervalEnd (fun _ => True)
    (fun s =>
      let l := s.front.cmOrder.filter (fun ch => decide (overloadSecond (s.chan ch).cmFirst < s.now / 1000000000))
      let s := l.foldl (fun (s : State) ch => (s.arise 4 1 ch (s.chan ch).cmCount 0 (s.chan ch).cmFirst).setChan ch (fun c => { c with cmCount := 0, cmFirst := 0 })) s
      { s with front := { s.front with cmOrder := s.front.cmOrder.filter (fun ch => !l.contains ch) } })

/-- The mash chain, capture and edges: whenever fabric time has come to the row's time and what the row needs holds then, it completes with the effect written out, and the hub settles. -/
def Obligations.ChainCaptureAndEdgeRowsTakeEffect : Prop :=
  (∀ p x r, Takes (fun t => .sampleArrivalMash t (.pan p)) (fun s => (s.pan p).samples = x :: r ∧ s.queueEmpty p (r.length + 1) = false)
    (fun s => ((s.notePop p).setPan p (fun q => { q with samples := r })).takeSample x)) ∧
  Takes (fun t => .sampleArrivalMash t .feed) (fun _ => True) (fun s => s.feedPop) ∧
  (∀ i tap, Takes (fun t => .sampleArrivalMash t .tap) (fun s => s.kiln.taps.find? (fun e => !e.2.words.isEmpty) = some (i, tap)) (fun s => s.tapArrival i)) ∧
  (∀ w r, Takes .captureSample (fun s => s.mash.toMem = w :: r ∧ s.queueEmpty 97 (r.length + 1) = false)
    (fun s => State.captureWord { s.notePop 97 with mash := { s.mash with toMem := r } } w)) ∧
  (∀ group, Takes (fun t => .caskHandover t group) (fun s => (s.group group).holds = false) (fun s => s.deliverOldest group)) ∧
  (∀ group r rest, Takes (fun t => .caskHandover t group) (fun s => (s.group group).holds = true ∧ (s.group group).readouts = r :: rest ∧ r.left ≠ 0)
    (fun s => ((s.deliverOldest group).setGroup group (fun x => { x with readouts := { r with left := r.left - 1 } :: rest })).endReadouts group false)) ∧
  (∀ entry w, Takes (fun t => .timedTriggerApply t entry) (fun s => s.capture.timed[entry]? = some w)
    (fun s =>
      let (s, a, b, c) := offerTrigger w.source w.place w.time w.marks w.groups (s.setTimed (·.eraseIdx entry))
      let w' := { w with groups := c, done := w.done ++ a, failed := w.failed ++ b }
      if c.isEmpty then (match w.ref with | some r => s.finish r stOk 0 (forceResult w'.done w'.failed) | none => s)
      else s.setTimed (fun l => l.take entry ++ [w'] ++ l.drop entry))) ∧
  (∀ group term n, Takes (fun t => .scheduleTime t group term)
    (fun s => (Tbl.get {} (s.group group).terms term).next = some n ∧ (Tbl.get {} (s.group group).terms term).kind = 7 ∧ n ≤ s.now ∧ (s.decideTrigger group term 4 (n * 65536) {}).2 ≠ .waits)
    (fun s => (s.decideTrigger group term 4 (n * 65536) {}).1.setGroup group (fun x => { x with terms := Tbl.modify {} x.terms term Term.advance }))) ∧
  (∀ msg, Takes (fun t => .fabricTriggerReceive t msg) (fun s => ¬ (u16 msg 2 % 4096 = s.own ∧ s.own ≠ 0))
    (fun s =>
      let time := 65536 * u64 msg 8 + u16 msg 4
      let (s, _, _, wait) := offerTrigger 4 4 time {} (s.fabricGroups (u8 msg 0 % 64)) s
      let near := wait.filter (fun g => (s.group g).near time s.now)
      let ok := if s.timedCount < 16 then near else []
      let s := (wait.filter (fun g => !ok.contains g)).foldl (fun (s : State) g => s.setGroup g (·.miss time)) s
      if ok.isEmpty then s else s.setTimed (· ++ [{ time, source := 4, place := 4, groups := ok }]))) ∧
  (∀ input rising, input < 16 → Takes (fun t => .edgeArrival t input rising)
    (fun s => (s.edge input).standard ≠ 0 ∧ s.running = true ∧ 1 < (s.edge input).count ∧ (rising = true ↔ (s.edge input).presEdge = 0) ∧ (s.edge input).prescale + 1 < (s.edge input).count)
    (fun s => s.setEdge input (fun e => { e with prescale := e.prescale + 1 }))) ∧
  (∀ input rising b, input < 16 → Takes (fun t => .edgeArrival t input rising)
    (fun s => (s.edge input).standard ≠ 0 ∧ s.running = true ∧ (s.edge input).count ≤ 1 ∧ (s.edge input).pick s.now = some b)
    (fun s =>
      let e := s.edge input
      let e := { e with prescale := 0, passed := sat 32 (e.passed + 1), line := e.line ++ [({ rising, came := s.now, era := s.edges.era, taker := some b } : Flight)] }
      s.setEdge input (fun _ => { e.setInterp b (fun x => { x with busyTo := s.now + 20, c2 := some (s.time.counter + 2 * s.time.inc, s.time.inc, rising), renewal := none }) with lastB := b }))) ∧
  (∀ input rising, input < 16 → Takes (fun t => .edgeArrival t input rising)
    (fun s => (s.edge input).standard ≠ 0 ∧ s.running = true ∧ (s.edge input).count ≤ 1 ∧ (s.edge input).pick s.now = none)
    (fun s =>
      let e := s.edge input
      let l := e.line ++ [({ rising, came := s.now, era := s.edges.era, taker := none, time := some (s.lostTime input) } : Flight)]
      ((s.setEdge input (fun _ => { e with prescale := 0, passed := sat 32 (e.passed + 1), line := l, lostDead := sat 32 (e.lostDead + 1) })).gateLoss input (s.lostTime input)).settleLine input l.length)) ∧
  (∀ input b code a1 a2 c2 inc rising, Takes (fun t => .interpolatorStampEnd t input b code a1 a2)
    (fun s => ((s.edge input).interp b).c2 = some (c2, inc, rising))
    (fun s =>
      let e := s.edge input
      let time := stampTime c2 inc code (e.interp b).a1 (e.interp b).a2 (signed 32 (s.calU32 (edgeRec input)) + e.user)
      let line := e.line.map (fun f => if f.taker = some b ∧ f.time.isNone then { f with time := some time } else f)
      ((s.setEdge input (fun e => { e.setInterp b (fun x => { x with c2 := none }) with line })).settleLine input line.length).takePair input b a1 a2)) ∧
  (∀ input b a1 a2, input < 16 → Takes (fun t => .interpolatorCalRepeat t input b a1 a2)
    (fun s => (s.edge input).standard ≠ 0 ∧ s.running = true ∧ ((s.edge input).interp b).ready s.now = true ∧ ((s.edge input).interp (!b)).c2 = none ∧
      ((s.edge input).interp (!b)).busyTo ≤ s.now ∧ ((s.edge input).interp (!b)).renewal = none ∧ ((s.edge input).interp b).calAt + 1000 ≤ s.now)
    (fun s => s.setEdge input (fun e => e.setInterp b (fun x => { x with renewal := some (s.now + min 20 Config.repeatTime, a1, a2), calAt := s.now })))) ∧
  (∀ input st r, Takes (fun t => .stampArrivalMem t input) (fun s => (s.edge input).queue = st :: r ∧ s.queueEmpty (98 + input) (r.length + 1) = false)
    (fun s => ((s.notePop (98 + input)).setEdge input (fun e => { e with queue := r })).serveStamp input st)) ∧
  (∀ unit, Takes (fun t => .intervalTimeout t unit)
    (fun s => (s.unit unit).mode = 1 ∧ (s.unit unit).active = true ∧ u32 (s.unit unit).setting 8 ≠ 0 ∧ (s.unit unit).armedAt + u32 (s.unit unit).setting 8 * 65536000 ≤ s.now * 65536)
    (fun s =>
      let u := s.unit unit
      let held := u.start.toList ++ u.stop.toList
      let time := match held with | e :: _ => e.time | [] => u.armedAt
      let lost := held.any (·.lost) || u.lostSince (match u.start with | some e => e.loss | none => u.lossStart) || u.lostSince (match u.stop with | some e => e.loss | none => u.lossStop)
      (s.report unit time (measEntry unit 1 (8 + (if lost then 4 else 0) + (if held.any (·.coarse) then 64 else 0)) held.length 0 time 0)).setUnit unit (fun u => u.again (s.now * 65536) s.edges.era))) ∧
  (∀ unit, Takes (fun t => .frequencyGateEnd t unit)
    (fun s => (s.unit unit).mode = 2 ∧ (s.unit unit).active = true ∧ (s.unit unit).gateAt.2 ≤ s.now * 65536)
    (fun s =>
      let u := s.unit unit
      let (lo, hi) := u.gateAt
      let all := u.stamps.filter (fun t => decide (lo ≤ t) && decide (t < hi))
      let ts := all.take 16777216
      let few := ts.length < 3
      let (f, rms) := if few then (0, 0) else regression ts (u16 (s.edge (u16 u.setting 4)).setting 3)
      let inGate := fun (t : Nat) => decide (lo ≤ t) && decide (t < hi)
      let fl := (if u.losses.any inGate then 4 else 0) + (if few then 16 else 0) + (if ts.length < all.length then 32 else 0) + (if u.steps.any (fun e => decide (e.1 * 65536 < hi) && decide (lo ≤ e.2 * 65536)) then 128 else 0)
      let later := fun (t : Nat) => decide (hi ≤ t)
      (s.report unit lo (measEntry unit 2 fl ts.length f lo rms)).setUnit unit (fun u =>
        if u.continuous then { u with gate := u.gate + 1, stamps := u.stamps.filter (fun t => decide (hi ≤ t)), losses := u.losses.filter later, steps := u.steps.filter (fun e => later (e.2 * 65536)) }
        else { u.cleared with active := false, idle := true })))

/-- Records, streams, the kiln and the feed: whenever fabric time has come to the row's time and what the row needs holds then, it completes with the effect written out, and the hub settles. -/
def Obligations.StreamKilnAndFeedRowsTakeEffect : Prop :=
  (∀ stream, Takes (fun t => .recordLatencyExpiry t stream)
    (fun s => (s.stream stream).current.isSome = true ∧ (s.stream stream).arrived + 1000 * (s.sizes stream).2 ≤ s.now) (fun s => s.closeRecord stream)) ∧
  (∀ r, Takes .recordAdmit (fun s => s.admits = true ∧ nextAdmissible s s.streams.closed [] = some r)
    (fun s => State.admitRecord { s with streams := { s.streams with closed := s.streams.closed.erase r } } r)) ∧
  (∀ stream g, Takes (fun t => .pendingGapTimeout t stream)
    (fun s => (s.stream stream).pending = some g ∧ s.admits = true ∧ s.sys.hub ≠ .faultHold ∧ g.first + 1000000000 ≤ s.now ∧ s.gapsWaiting stream < 2)
    (fun s => s.admitGap stream s.sys.configGen)) ∧
  (∀ e, Takes .eventEntryArise
    (fun s => s.streams.arisen.find? (fun e => (s.stream (streamKey 6 e.cls)).isOpen) = some e ∧
      24 + (if (s.stream (streamKey 6 e.cls)).current.isSome then 0 else 32) ≤ State.eventRoom { s with streams := { s.streams with arisen := s.streams.arisen.erase e } })
    (fun s => State.addUnit { s with streams := { s.streams with arisen := s.streams.arisen.erase e } } (streamKey 6 e.cls) irregular e.time 0 0 none e.bytes)) ∧
  (∀ e, Takes .eventEntryArise
    (fun s => s.streams.arisen.find? (fun e => (s.stream (streamKey 6 e.cls)).isOpen) = some e ∧
      State.eventRoom { s with streams := { s.streams with arisen := s.streams.arisen.erase e } } < 24 + (if (s.stream (streamKey 6 e.cls)).current.isSome then 0 else 32))
    (fun s => State.miss { s with streams := { s.streams with arisen := s.streams.arisen.erase e, eventsDropped := sat 32 (s.streams.eventsDropped + 1), eventDrops := Tbl.bump 32 s.streams.eventDrops e.cls } } (streamKey 6 e.cls)
      { count := 1, index := irregular, first := e.time / 65536, last := e.time, reason := 13, unit := 2 })) ∧
  Takes .upRecordSend (fun _ => True)
    (fun s =>
      let p := s.recordPort
      let s := (s.flush .up).flush p
      let portFor := fun (o : OutRecord) => if o.raw.isEmpty then p else Port.up
      match s.eventHead.filter (fun o => s.ready (portFor o) o) with
      | some o => s.sendRecord (portFor o) o
      | none => match s.dataHead.filter (fun o => s.ready (portFor o) o) with
        | some o => s.sendRecord (portFor o) o
        | none => s) ∧
  (∀ o r, Takes .spillDrain (fun s => s.streams.spill = o :: r ∧ o.size ≤ s.bufferRoom)
    (fun s => { s with streams := { s.streams with spill := r, buffer := s.streams.buffer ++ [o], peak := max s.streams.peak (storeBytes s.streams.buffer + o.size) } })) ∧
  (∀ lane failedBlocks i r mask refSet refresh, lane < 4 → Takes (fun t => .kilnRecordCode t lane failedBlocks)
    (fun s => nextToCode s.streams.closed [] 0 = some i ∧ s.streams.closed[i]? = some r ∧ r.coder = some (mask, refSet, refresh) ∧ s.kiln.lanesOut.length < 4 ∧ lane ∉ s.kiln.lanesOut)
    (fun s =>
      let c := s.coder r.key
      let blocks := blocksOf (r.samples.length + 1) r.samples
      let bad := failedBlocks.filter (fun b => decide (b < blocks.length))
      let ref := refKeyOf refSet r.key
      let old := (s.streams.closed.drop (i + 1)).any (fun d => d.key == r.key && d.kind == 8)
      let k := s.codeBlocks (refSet == 2) (if r.wide then 24 else 18) mask r.index ref (s.freshFirst r refresh) old c.refHist bad { bytes := [], hist := c.hist, since := c.count, raws := 0, used := none } 0 blocks
      let r' := { r with toCode := false, coder := none, coding := 1, payload := r.payload ++ k.bytes, samples := [], was := r.samples, lead := r.payload.length, needs := match ref, k.used with | some rk, some (a, b) => some (rk, a, b) | _, _ => none }
      let s : State := { s with streams := { s.streams with closed := s.streams.closed.set i r' } }
      let s := s.setCoder r.key (fun c => { c.follow r.index r.period r.samples with hist := k.hist, count := k.since })
      let s := s.setCoder (codingKey r.key) (fun c => { c with plainBytes := sat 64 (c.plainBytes + (recordPayload r).length), codedBytes := sat 64 (c.codedBytes + (recordPayload r').length), blocks := sat 32 (c.blocks + blocks.length), rawBlocks := sat 32 (c.rawBlocks + k.raws) })
      let s : State := { s with kiln := { s.kiln with blocks := sat 32 (s.kiln.blocks + blocks.length) } }
      bad.foldl (fun (s : State) _ => s.laneFailure lane r.key) s)) ∧
  (∀ tap b r, Takes (fun t => .tapRecordDecode t tap) (fun s => (s.tap tap).queue = b :: r ∧ u8 b 1 % 16 = 7)
    (fun s => ((s.setTap tap (fun t => { t with queue := r })).setTap tap (fun t => { t with
        anchor := if u8 b 0 ≠ 1 ∧ u64 (slice b 32 (u32 b 28)) 8 ≠ irregular then some (u64 (slice b 32 (u32 b 28)) 8, u64 b 16, u32 b 24) else t.anchor.filter (fun a => a.2.2 == u32 b 24) })).setTap tap
      (fun t => t.hole { time := u64 b 16, value := none, count := u64 (slice b 32 (u32 b 28)) 0, gap := max 1 (u8 (slice b 32 (u32 b 28)) (if u8 b 0 = 1 then 8 else 26)), period := u32 b 24 }))) ∧
  (∀ tap b r, Takes (fun t => .tapRecordDecode t tap)
    (fun s => (s.tap tap).queue = b :: r ∧ u8 b 1 = 0 ∧ 1000000 ≤ u32 b 24 * (s.tap tap).rate ∧ (s.tap tap).chan = 0xFFFF)
    (fun s =>
      let t := s.tap tap
      let w := if t.wide then 24 else 18
      let bits := (slice b 32 (u32 b 28)).foldr (fun x acc => x.toNat + 256 * acc) 0
      let plain := (List.range (u16 b 14)).map (fun j => signed w (bits / 2 ^ (w * j) % 2 ^ w))
      let l : List TapWord := plain.zipIdx.map (fun x => { time := u64 b 16 + x.2 * u32 b 24, value := some x.1, period := u32 b 24 })
      let s := ((s.setTap tap (fun t => { t with queue := r })).setTap tap (fun t => { t with anchor := t.anchor.filter (fun a => a.2.2 == u32 b 24) })).free.2.setTap tap (fun t' => { t' with
        words := t'.words ++ l, hist := historyAfter (!t.valid) plain t.hist, valid := true
        recent := ((l.filterMap (fun x => x.value.map (fun v => (x.time, v)))).reverse ++ t'.recent).take 8192 })
      { s with kiln := { s.kiln with tapBlocks := sat 32 s.kiln.tapBlocks } })) ∧
  Takes .kilnJobBlock (fun s => s.kiln.job.state = 1 ∧ s.kiln.job.running = true ∧ u8 s.kiln.job.params 0 = 0) (fun s => s.compressBlock s.kiln.job) ∧
  Takes .kilnJobBlock (fun s => s.kiln.job.state = 1 ∧ s.kiln.job.running = true ∧ u8 s.kiln.job.params 0 ≠ 0) (fun s => s.decompressBlock s.kiln.job) ∧
  (∀ item, Takes (fun t => .feedItem t item) (fun _ => True) (fun s => item.foldl (fun (s : State) x => s.feedByte x) s)) ∧
  (∀ item, Takes (fun t => .feedSyncItem t item) (fun _ => True) (fun s => item.foldl (fun (s : State) x => s.feedByte x) s)) ∧
  (∀ bytes, Takes (fun t => .feedValidLow t bytes) (fun s => s.feed.enabled = true)
    (fun s => s.setFeed (fun f => { f with staging := [], partialSkip := 0, cutShort := sat 32 (f.cutShort + (if !f.staging.isEmpty || (f.partialSkip == 0 && bytes % 4 != 0) then 1 else 0)) }))) ∧
  Takes .feedWatermark (fun s => s.feed.enabled = true ∧ s.feed.credit = false ∧ s.feed.high ≤ fifoBytes s.feed.fifo + 4 * s.unfreed 96 ∧ s.feed.holdN = true)
    (fun s => s.setFeed (fun f => { f with holdN := false, pulses := sat 32 (f.pulses + 1) })) ∧
  Takes .feedWatermark (fun s => s.feed.enabled = true ∧ s.feed.credit = false ∧ fifoBytes s.feed.fifo + 4 * s.unfreed 96 < s.feed.high ∧ fifoBytes s.feed.fifo + 4 * s.unfreed 96 ≤ s.feed.low)
    (fun s => s.setFeed (fun f => { f with holdN := true })) ∧
  Takes .feedCreditReturn (fun s => s.feed.enabled = true ∧ s.feed.credit = true ∧ 256 ≤ s.feed.owed)
    (fun s => s.setFeed (fun f => { f with owed := f.owed - 256, pulses := sat 32 (f.pulses + 1) }))

/-- Lanes and training: whenever fabric time has come to the row's time and what the row needs holds then, it completes with the effect written out, and the hub settles. -/
def Obligations.LaneAndTrainingRowsTakeEffect : Prop :=
  (∀ port r, Takes (fun t => .trainingStepAdvance t port r)
    (fun s => (s.port port).waitFrom = none ∧ (s.port port).granted = true ∧ (s.port port).state = 1 ∧ ∃ i < laneCount port, (r.at' i).any (·.signal) = true)
    (fun s => (s.setPort port (fun x => { x with runs := sat 16 (x.runs + 1), lanes := (List.range (laneCount port)).foldl (fun t i => Tbl.modify {} t i Lane.begin) x.lanes })).enterBase port)) ∧
  (∀ port r, Takes (fun t => .trainingStepAdvance t port r)
    (fun s => (s.port port).waitFrom = none ∧ (s.port port).granted = true ∧ (s.port port).state = 2 ∧ (s.port port).step = 2 ∧ readyLanes r port 2 ≠ [])
    (fun s => s.baseLocked port r (readyLanes r port 2))) ∧
  (∀ port r rate w, Takes (fun t => .trainingStepAdvance t port r)
    (fun s => (s.port port).waitFrom = none ∧ (s.port port).granted = true ∧ (s.port port).state = 2 ∧ (s.port port).step = 3 ∧ (s.port port).used.all (readyLanes r port 3).contains = true ∧ s.chooseRate port = some (rate, w))
    (fun s => (((s.sendTraining port true).noteMarkers port r).setPort port (fun x => { x.useLanes (lanesFor x.used w) w with pick := some (rate, w) })).enterStep port 4)) ∧
  (∀ port r, Takes (fun t => .trainingStepAdvance t port r)
    (fun s => (s.port port).waitFrom = none ∧ (s.port port).granted = true ∧ (s.port port).state = 2 ∧ (s.port port).step = 4 ∧ (s.port port).used.all (readyLanes r port 4).contains = true)
    (fun s => ((s.sendTraining port true).setPort port (fun x => { x with rate := (x.pick.map Prod.fst).getD x.rate }.eachUsed (fun _ l => { l with unjudged := true, missed := 0, marked := none }))).enterStep port 5)) ∧
  (∀ port r, Takes (fun t => .trainingStepAdvance t port r)
    (fun s => (s.port port).waitFrom = none ∧ (s.port port).granted = true ∧ (s.port port).state = 2 ∧ (s.port port).step = 5 ∧ (s.port port).used.all (readyLanes r port 5).contains = true ∧ r.aligned (s.port port).used = true)
    (fun s => (((s.sendTraining port true).noteLanes port r).setPort port (fun x => x.useLanes x.used x.width)).enterStep port (if (s.port port).degrade then 8 else 6))) ∧
  (∀ port r, Takes (fun t => .trainingStepAdvance t port r)
    (fun s => (s.port port).waitFrom = none ∧ (s.port port).granted = true ∧ (s.port port).state = 2 ∧ (s.port port).step = 6 ∧ (s.port port).used.all (readyLanes r port 6).contains = true)
    (fun s => (((s.sendTraining port true).noteMarkers port r).setPort port (fun x => x.eachUsed (fun i l => if l.rxFixed then l else { l with peaking := min 15 (((r.at' i).map (·.peaking)).getD 0) }))).enterStep port 7)) ∧
  (∀ port r, Takes (fun t => .trainingStepAdvance t port r)
    (fun s => (s.port port).waitFrom = none ∧ (s.port port).granted = true ∧ (s.port port).state = 2 ∧ (s.port port).step = 7 ∧ (s.port port).used.all (readyLanes r port 7).contains = true)
    (fun s => (((s.noteMarkers port r).takeRequests port r).sendTraining port true).enterStep port 8)) ∧
  (∀ port, Takes (fun t => .trainingStepLimit t port)
    (fun s => (s.port port).state = 2 ∧ (s.port port).granted = true ∧ (s.port port).miswired = false ∧ (s.port port).waitFrom = none ∧ 2 ≤ (s.port port).step ∧ (s.port port).step ≤ 7 ∧
      (s.port port).stepAt + stepLimit (s.port port).step (s.port port).rate ≤ s.now)
    (fun s => s.lowerRate port (if 5 ≤ (s.port port).step then (s.port port).rate else ((s.port port).pick.map Prod.fst).getD (topRate (s.port port).ratesLeft)))) ∧
  (∀ port errs, Takes (fun t => .verifyEnd t port errs)
    (fun s => (s.port port).state = 2 ∧ (s.port port).step = 8 ∧ (s.port port).granted = true ∧ (s.port port).used ≠ [] ∧ (s.port port).stepAt + verifyNs (s.port port).rate ≤ s.now ∧
      ∀ i ∈ (s.port port).used, ∀ e ∈ errs, e.lane = i → e.headers = 0 ∧ e.bip8 = 0 ∧ e.lost = false ∧ e.partnerFails = false ∧ e.awaited = false)
    (fun s => ((s.countErrors port errs).sendVerdict port (fun i => errs.any (fun e => e.lane == i && !e.clean)) true true).portUp port)) ∧
  (∀ port errs, Takes (fun t => .verifyEnd t port errs)
    (fun s => (s.port port).state = 2 ∧ (s.port port).step = 8 ∧ (s.port port).granted = true ∧ (s.port port).stepAt + verifyNs (s.port port).rate ≤ s.now ∧
      ∃ e ∈ errs, e.lane ∈ (s.port port).used ∧ e.awaited = true)
    (fun s => s.sendVerdict port (fun i => errs.any (fun e => e.lane == i && !e.clean)) true true)) ∧
  (∀ port a, Takes (fun t => .trainingRestartWait t port) (fun s => (s.port port).waitFrom = some a ∧ a + 100000000 ≤ s.now)
    (fun s => s.setPort port (fun x => { x with allow := (x.rateMask, x.widthMask), left := x.rateMask, pick := none, again := false, miswired := false, waitFrom := none }))) ∧
  (∀ port lane, lane < laneCount port → Takes (fun t => .lossOfSignal t port lane .signal true)
    (fun s => ((s.port port).lane lane).idle = false ∧ ((s.port port).lane lane).signalAt = none)
    (fun s => (s.countLane port lane 0 1).setPort port (fun x => x.setLane lane (fun l => { l with signalAt := some s.now })))) ∧
  (∀ port lane, lane < laneCount port → Takes (fun t => .lossOfSignal t port lane .lock true) (fun s => ((s.port port).lane lane).lockAt = none)
    (fun s => ((s.countLane port lane 1 1).setPort port (fun x => x.setLane lane (fun l => { l with lockAt := some s.now }))).setPort port (fun x => x.setLane lane (fun l => { l with freqLost := true })))) ∧
  (∀ port lane, lane < laneCount port → Takes (fun t => .lossOfSignal t port lane .lock false) (fun _ => True)
    (fun s => s.setPort port (fun x => x.setLane lane (fun l => Lane.lockBack { l with freqLost := false })))) ∧
  (∀ port lane, lane < laneCount port → Takes (fun t => .lossOfSignal t port lane .signal false) (fun _ => True)
    (fun s => s.setPort port (fun x => x.setLane lane (fun l => { l with signalAt := none, idle := false })))) ∧
  (∀ port lane, Takes (fun t => .laneFailed t port lane) (fun s => ((s.port port).lane lane).stands s.now = true) (fun s => s.failLane port lane)) ∧
  (∀ port, Takes (fun t => .degradeTrainingEnd t port true) (fun s => (s.port port).state = 2 ∧ (s.port port).degrade = true ∧ (s.port port).granted = true ∧ (s.port port).step = 8 ∧ (s.port port).stepAt + verifyNs (s.port port).rate ≤ s.now)
    (fun s => (s.sendVerdict port (fun _ => false) true true).portUp port)) ∧
  (∀ port, Takes (fun t => .degradeTrainingEnd t port false) (fun s => (s.port port).state = 2 ∧ (s.port port).degrade = true ∧ (s.port port).granted = true)
    (fun s => (s.sendVerdict port (fun _ => true) true true).lowerRate port (s.port port).rate)) ∧
  (∀ port, Takes (fun t => .electricalIdleEntry t port)
    (fun s => (s.port port).state = 3 ∧ (s.link port).waiting = [] ∧ (s.port port).sentAt + 100 ≤ s.now ∧ s.mayOff port = false ∧ idleExitPs (s.port port).rate (s.port port).width ≤ 1000 * s.portTolerance)
    (fun s =>
      let (v, s') := freeList 2 (s.fillRow port)
      ((s'.sendLine port (List.replicate (s.port port).width (idleEntryBlock ((v.map (le 4)).flatten.take 7)))).portState port 4 0).setPort port (fun x => { x with quietAt := s.now }))) ∧
  (∀ port, Takes (fun t => .portWake t port) (fun s => (s.port port).state = 4 ∧ (s.port port).quietAt + 100 ≤ s.now) (fun s => ((s.wakeBurst port).portState port 3 0).carryOn port)) ∧
  (∀ port, Takes (fun t => .portWake t port) (fun s => (s.port port).state = 5) (fun s => (((s.wakeBurst port).portState port 3 0).setPort port (fun x => { x.eachUsed (fun _ l => { l with unjudged := true, marked := none }) with wakeAt := some s.now })).carryOn port)) ∧
  (∀ port lane, Takes (fun t => .wakeBurstFail t port lane) (fun _ => True) (fun s => s.failLane port lane)) ∧
  (∀ port, Takes (fun t => .laneOffEntry t port)
    (fun s => ((s.port port).state = 3 ∨ (s.port port).state = 4) ∧ (s.link port).waiting = [] ∧ (s.port port).sentAt + 100 ≤ s.now ∧ 50000 ≤ s.portTolerance ∧ s.linkUp port = true ∧ s.hasTime port = false)
    (fun s => ((s.fillRow port).portState port 5 0).setPort port (fun x => { x with quietAt := s.now }))) ∧
  (∀ port bits errs ref til, Takes (fun t => .laneTestEnd t port bits errs) (fun s => (s.port port).test = some (ref, til) ∧ til ≤ s.now)
    (fun s => ((s.portState port 0 0).setPort port (fun x => { x with test := none, testMode := 0, rate := 0 })).finish ref stOk 0 (laneTestResult bits errs))) ∧
  (∀ port a, Takes (fun t => .laneOffWakeTimeout t port) (fun s => (s.port port).wakeAt = some a ∧ s.portActive port = true ∧ a + 50000 ≤ s.now) (fun s => s.train port true)) ∧
  (∀ port lane seen, lane < laneCount port → Takes (fun t => .markerLockLost t port { lane := lane, markers := seen }) (fun s => s.laneServes port lane = true)
    (fun s => s.setPort port (fun x => x.setLane lane (fun l => seen.foldl (Lane.takeMarker s.now) l)))) ∧
  (∀ port lane, Takes (fun t => .idleEntryBlockReceive t port lane) (fun s => s.laneServes port lane = true)
    (fun s => s.setPort port (fun x => x.setLane lane (fun l => { l with idle := true, signalAt := none, unjudged := true, marked := none }))))

/-- Link frames: whenever fabric time has come to the row's time and what the row needs holds then (for a frame, that the port takes it: `State.takesFrame`, `State.takesLinkFrame`), it completes with the effect written out, and the hub settles. -/
def Obligations.LinkFrameRowsTakeEffect : Prop :=
  (∀ port f, frameClass f ≠ 0 → frameLast f = false → Takes (fun t => .payloadReceive t port f) (fun s => s.takesFrame port f 1)
    (fun s =>
      let a := s.tookFrame port f
      let part := ((a.link port).frags.lookup (frameClass f)).getD ([], 0)
      a.setLink port (fun l => { l with frags := Tbl.set l.frags (frameClass f) (part.1 ++ f.payload, part.2 + frameCost f) }))) ∧
  (∀ port f, frameClass f ≠ 0 → frameLast f = true → Takes (fun t => .payloadReceive t port f) (fun s => s.takesFrame port f 1)
    (fun s =>
      let a := s.tookFrame port f
      let part := ((a.link port).frags.lookup (frameClass f)).getD ([], 0)
      (a.setLink port (fun l => { l with frags := Tbl.erase l.frags (frameClass f) })).message port (frameClass f) f.target.toNat f.source.toNat f.hops.toNat (part.1 ++ f.payload)
        (some (Port.code port, frameClass f, part.2 + frameCost f)))) ∧
  (∀ port f, f.type = 1 → frameClass f ≠ 0 → Takes (fun t => .payloadReceive t port f) (fun s => s.receives port = true ∧ s.linkUp port = true ∧ f.intact = false)
    (fun s => ((s.gotFrame port).countLink port 2).refuseFrame port f 1)) ∧
  (∀ port f, f.type = 1 → frameClass f = 0 → Takes (fun t => .payloadReceive t port f) (fun _ => True) (fun s => s.timeFrame port f 0 (fun s => s) (fun s => s))) ∧
  (∀ port f, Takes (fun t => .ackReceive t port f) (fun s => s.takesLinkFrame port f 2 ∧ s.linkUp port = true) (fun s => (s.gotFrame port).takeAck port f.ack.toNat)) ∧
  (∀ port f, u8 f.payload 1 = 0 → u8 f.payload 0 ≠ 5 → Takes (fun t => .nakReceive t port f) (fun s => s.takesLinkFrame port f 3 ∧ s.linkUp port = true)
    (fun s => (((s.gotFrame port).countLink port 6).takeAck port f.ack.toNat).replayHeld port)) ∧
  (∀ port f, u8 f.payload 1 ≠ 0 → Takes (fun t => .nakReceive t port f) (fun s => s.takesLinkFrame port f 3 ∧ s.linkUp port = true)
    (fun s => ((s.gotFrame port).countLink port 6).takeAck port f.ack.toNat)) ∧
  (∀ port, Takes (fun t => .replayTimeout t port) (fun s => (s.link port).replay ≠ [] ∧ s.linkUp port = true ∧ (s.link port).ackAt + 10000 ≤ s.now) (fun s => s.replayHeld port)) ∧
  (∀ port f, Takes (fun t => .creditReceive t port f) (fun s => s.takesLinkFrame port f 4 ∧ s.linkUp port = true)
    (fun s =>
      let s := ((s.gotFrame port).takeAck port f.ack.toNat).setLink port (fun l => { l with granted := (List.range 4).map (fun c => (c, u32 f.payload (4 * c))) })
      let fits := (List.range 4).all (fun c => decide (0 ≤ (s.link port).available c))
      (if (s.link port).creditHold ∧ fits then (s.setLink port (fun l => { l with creditHold := false })).replayHeld port else s).flush port)) ∧
  (∀ port, Takes (fun t => .creditSendTimer t port)
    (fun s => s.linkUp port = true ∧
      ((List.range 4).any (fun c => decide (16 ≤ ahead (Tbl.get 0 (s.link port).given c) (Tbl.get 0 (s.link port).told c))) = true ∨
        (s.link port).grewAt.any (fun t => decide (t + 1000 ≤ s.now)) = true ∨ (s.link port).creditAt + 100000 ≤ s.now))
    (fun s => s.sendCredit port)) ∧
  (∀ port linkId, Takes (fun t => .helloSendTimer t port linkId)
    (fun s => s.portActive port = true ∧ s.sys.localMode = false ∧ (∀ t, (s.link port).helloAt = some t → t + 10000 ≤ s.now))
    (fun s => s.sendHello port linkId)) ∧
  (∀ port f v, Takes (fun t => .helloReceive t port f)
    (fun s => s.takesLinkFrame port f 5 ∧ s.sys.localMode = false ∧ (s.link port).state ≠ 3 ∧ (s.link port).state ≠ 4 ∧
      commonVersion (s.link port).offered f.payload = some v ∧ bit (u8 f.payload 11) 0 = true)
    (fun s => (((s.gotFrame port).setLink port (fun l => { l with peer := f.payload })).setLink port (fun l => { l with heard := true })).linkComesUp port v f.payload)) ∧
  (∀ port f, Takes (fun t => .abandonReceive t port f) (fun s => s.takesFrame port f 6)
    (fun s =>
      let a := (s.tookFrame port f).giveBack (Port.code port) (frameClass f) (frameCost f)
      match (a.link port).frags.lookup (frameClass f) with
      | some (b, _) => if u32 b 4 = u32 f.payload 0 ∧ u32 b 8 = u32 f.payload 4 then a.dropPartial port (frameClass f) else a
      | none => a)) ∧
  (∀ port f, isDn port = true → Takes (fun t => .attachReceive t port f) (fun s => s.takesFrame port f 7) (fun s => ((s.tookFrame port f).routeControl port f).2)) ∧
  (∀ f, f.target = 0xFFF → Takes (fun t => .assignReceive t .up f)
    (fun s => s.takesFrame .up f 8 ∧ u64 f.payload 0 = ((s.tookFrame .up f).payBack (some (Port.code .up, 1, frameCost f))).hubIdentity)
    (fun s =>
      let a := (s.tookFrame .up f).payBack (some (Port.code .up, 1, frameCost f))
      let b := a.takeAssign f.payload
      a.fabric.rejoin.foldl (fun (s : State) r => s.finish r stOk 0 (le 2 b.own ++ zeros 2)) b)) ∧
  (∀ n a, Takes .restartEntriesTimeout (fun s => s.fabric.restart = some (n, a, false) ∧ a + 1000000000 ≤ s.now)
    (fun s =>
      let (c, s) := s.free
      let (i, s) := s.free
      State.logEntry { s with fabric := { s.fabric with restart := some (n, a, true) } } 0 (i.toNat % 12) (c.toNat % 65536) 0 0 0)) ∧
  (∀ port f, isDn port = true → f.hops.toNat < 254 → Takes (fun t => .detachReceive t port f) (fun s => s.takesFrame port f 9 ∧ (s.tookFrame port f).own ≠ 0)
    (fun s =>
      let a := s.tookFrame port f
      let b := if u8 f.payload 3 = 3 ∧ u16 f.payload 0 = (a.link port).child then a.setLink port (fun l => { l with attached := false, attachSent := false }) else a
      b.admitForwarded f.payload f.target.toNat f.source.toNat f.hops.toNat (some (Port.code port, 3, frameCost f)) true false)) ∧
  (∀ port f, Takes (fun t => .unreachableReceive t port f) (fun s => s.takesFrame port f 10) (fun s => ((s.tookFrame port f).routeControl port f).2)) ∧
  (∀ port, isDn port = true → Takes (fun t => .partnerLost t port)
    (fun s => (s.link port).attached = true ∧ s.linkUp port = false ∧ (s.link port).downAt + 1000000 * s.fabric.detectMs ≤ s.now) (fun s => s.detachChild port 1)) ∧
  Takes .upDetached (fun s => s.fabric.attached = true ∧ s.linkUp .up = false ∧ (s.link .up).downAt + 1000000 * s.fabric.detectMs ≤ s.now)
    (fun s =>
      let s := State.setLink { s with fabric := { s.fabric with attached := false } } .up (fun l => { l with reason := 3, mayResume := false, ownId := if (s.link .up).mayResume then none else l.ownId })
      if s.timeSource = some .up then s.loseTime 4 else s)

/-- Fabric time: whenever fabric time has come to the row's time and what the row needs holds then, it completes with the effect written out, and the hub settles. -/
def Obligations.TimeRowsTakeEffect : Prop :=
  (∀ port txFrac, Takes (fun t => .syncSendTimer t port txFrac)
    (fun s => s.givesTime port = true ∧ ∀ a, (s.timePort port).syncAt = some a → a + syncInterval s.time.code ≤ s.now)
    (fun s =>
      let q := (s.timePort port).seqSync
      let s := s.setTimePort port (fun x => { x with syncAt := some s.now, seqSync := (q + 1) % 65536, syncSent := sat 32 (x.syncSent + 1) })
      s.sendTime port (s.timeMessage 1 q 0 s.now (txFrac % 65536)))) ∧
  (∀ port t1, Takes (fun t => .pdelayReqSend t port t1)
    (fun s => s.timeSource = some port ∧ s.linkUp port = true ∧ ∀ a, (s.timePort port).askedAt = some a → a + syncInterval (s.codeOn port) * (if (s.timePort port).holds then 16 else 1) ≤ s.now)
    (fun s =>
      let q := (s.timePort port).seqReq
      let s := s.setTimePort port (fun x => { x with asked := some (q, t1), askedAt := some s.now, seqReq := (q + 1) % 65536 })
      s.sendTime port (s.timeMessage 2 q 0 0 0))) ∧
  (∀ port f t2 t3, Takes (fun t => .pdelayReqReceive t port f t2 t3) (fun s => s.receives port = true ∧ s.linkUp port = true ∧ s.timeReason port f = 0 ∧ u8 f.payload 0 = 2 ∧ (s.tookTime port f).acrossStep t2 = false)
    (fun s =>
      let s := s.tookTime port f
      let q := (s.timePort port).seqResp
      let s := s.setTimePort port (fun x => { x with seqResp := (x.seqResp + 1) % 65536, respSent := sat 32 (x.respSent + 1) })
      s.sendTime port (s.timeMessage 3 q (u16 f.payload 2) 0 (to16 (t3 - t2))))) ∧
  (∀ port f t4 t1, Takes (fun t => .pdelayRespReceive t port f t4)
    (fun s => s.receives port = true ∧ s.linkUp port = true ∧ s.timeReason port f = 0 ∧ u8 f.payload 0 = 3 ∧ (s.tookTime port f).timeSource = some port ∧ ((s.tookTime port f).timePort port).asked = some (u16 f.payload 4, t1) ∧ t4 - t1 ≤ 100000 * oneNs)
    (fun s =>
      let s := s.tookTime port f
      let had := (s.timePort port).holds
      let s := s.setTimePort port (fun x => { x.take (roundDiv ((t4 - t1) - i64 f.payload 120 * 16777216) 2) with asked := none })
      let has := (s.timePort port).holds
      if !had && has && s.time.phase == 1 then { s with time := { s.time with phase := 2, count := 0, unlocked := 0 } } else if had && !has then s.bridge else s)) ∧
  (∀ port f rx d, Takes (fun t => .syncReceive t port f rx)
    (fun s =>
      let u := s.tookTime port f
      s.receives port = true ∧ s.linkUp port = true ∧ s.timeReason port f = 0 ∧ u8 f.payload 0 = 1 ∧ u.timeSource = some port ∧ u.sys.hub ≠ .discover ∧ (u.timePort port).mean = some d ∧
      2 ≤ u.time.phase ∧ u.time.phase ≠ 9 ∧ u.time.stepAt ≤ rx ∧ rx ≤ (u.time.counter : Int) ∧ u.time.stepAt ≤ rx - d - psTime (u.timePort port).asym ∧ rx - d - psTime (u.timePort port).asym ≤ (u.time.counter : Int) ∧
      (∀ q, u.time.syncSeq = some q → 0 < (u16 f.payload 2 + 65536 - q) % 65536 ∧ (u16 f.payload 2 + 65536 - q) % 65536 < 32768))
    (fun s =>
      let b := f.payload
      let s := (s.tookTime port f).setTimePort port (fun x => { x with syncRcvd := sat 32 (x.syncRcvd + 1) })
      let s := State.noteFlags { s with time := { s.time with flags := b.getD 1 0, parentCode := u8 b 7 % 8, parentHops := u8 b 6, parentRoot := bit (u8 (s.link port).peer 11) 2 } }
      let theta := rx - (u64 b 112 * oneNs + i64 b 120 * 16777216) - d - psTime (s.timePort port).asym
      let tau := match s.time.syncRx with | some r => rx - r | none => 0
      let s := State.noteSync { s with time := { s.time with accepted := sat 32 (s.time.accepted + 1), offset := theta, syncAt := some s.now, syncSeq := some (u16 b 2), syncRx := some rx } } theta
      match s.time.phase with
      | 2 | 3 | 4 => s.acquire theta tau rx
      | 5 | 6 => s.lockedSync theta tau
      | _ => s.holdoverSync theta tau)) ∧
  (∀ port f rx, Takes (fun t => .syncReceive t port f rx)
    (fun s =>
      let u := s.refuseTime port (s.timeReason port f)
      s.receives port = true ∧ s.linkUp port = true ∧ s.timeReason port f ≠ 0 ∧ u.timeSource = some port ∧ u.sys.hub ≠ .discover)
    (fun s =>
      let u := s.refuseTime port (s.timeReason port f)
      { u with time := { u.time with discarded := sat 32 (u.time.discarded + 1) } })) ∧
  (∀ a, Takes .syncMissing (fun s => s.time.syncAt = some a ∧ a + 4 * syncInterval s.time.parentCode ≤ s.now ∧ s.time.phase ≠ 7) (fun s => s.bridge)) ∧
  (∀ a, Takes .syncMissing (fun s => s.time.syncAt = some a ∧ a + 4 * syncInterval s.time.parentCode ≤ s.now ∧ s.time.phase = 7) (fun s => s.freeRun 8)) ∧
  (∀ a, Takes .bridgeTimeout (fun s => s.time.bridgeAt = some a ∧ s.time.phase = 6 ∧ a + 1000000 * s.time.bridgeMs < s.now) (fun s => s.loseTime 1)) ∧
  (∀ a, Takes .bridgeTimeout (fun s => s.time.bridgeAt = some a ∧ 2 ≤ s.time.phase ∧ s.time.phase ≤ 4 ∧ a + 1000000 * s.time.bridgeMs < s.now) (fun s => s.waitAgain)) ∧
  (∀ codes b, Takes (fun t => .ppsInEdge t codes) (fun s => (s.edge ppsInput).pick s.now = some b ∧ ¬ (s.sys.localMode = true ∧ s.time.source = 2))
    (fun s =>
      let x := (s.edge ppsInput).interp b
      let stamp : Int := stampTime (s.time.counter + 2 * s.time.inc) s.time.inc codes.code x.a1 x.a2 (s.stampOffset ppsInput) * 16777216
      let s := (s.setEdge ppsInput (fun e => { e.setInterp b (fun x => { x with busyTo := s.now + 20 }) with lastB := b })).takePair ppsInput b codes.a1 codes.a2
      { s with time := { s.time with ppsIn := (stamp :: s.time.ppsIn).take 16, ppsSeen := s.now } })) ∧
  (∀ codes b, Takes (fun t => .ppsInEdge t codes) (fun s => (s.edge ppsInput).pick s.now = some b ∧ s.sys.localMode = true ∧ s.time.source = 2)
    (fun s =>
      let x := (s.edge ppsInput).interp b
      let stamp : Int := stampTime (s.time.counter + 2 * s.time.inc) s.time.inc codes.code x.a1 x.a2 (s.stampOffset ppsInput) * 16777216
      let s := (s.setEdge ppsInput (fun e => { e.setInterp b (fun x => { x with busyTo := s.now + 20 }) with lastB := b })).takePair ppsInput b codes.a1 codes.a2
      State.ppsFollow { s with time := { s.time with ppsIn := (stamp :: s.time.ppsIn).take 16, ppsSeen := s.now } } stamp)) ∧
  (∀ codes, Takes (fun t => .ppsInEdge t codes) (fun s => (s.edge ppsInput).pick s.now = none) (fun s => s)) ∧
  (∀ present freqErr, Comes (fun t => .trefInPresence t present freqErr) (fun _ => True)
    (fun s => State.followLocal { s with time := { s.time with trefIn := present && decide (freqErr.natAbs ≤ 10000000), trefErr := freqErr, trefInc := s.time.inc } })) ∧
  (∀ from' o w, Takes .ppsOutSecond (fun s => s.time.ppsNext = some (from', o, w) ∧ from' ≤ s.now)
    (fun s =>
      let s : State := { s with time := { s.time with ppsOffset := o, ppsWidth := w, ppsNext := none } }
      if s.ppsEnabled ∧ s.now % 1000000000 = o then { s with time := { s.time with ppsRose := some s.now } } else s)) ∧
  Takes .ppsOutSecond (fun s => s.time.ppsNext = none ∧ s.ppsEnabled = true ∧ s.now % 1000000000 = s.time.ppsOffset)
    (fun s => { s with time := { s.time with ppsRose := some s.now } })

/-- Twins and gangs: whenever fabric time has come to the row's time and what the row needs holds then, it completes with the effect written out, and the hub settles. -/
def Obligations.TwinRowsTakeEffect : Prop :=
  Takes (fun t => .heartbeatSend t .link) (fun s => s.generates = true ∧ ∀ t, s.twin.beatAt = some t → t + 10000 ≤ s.now)
    (fun s => (s.tellTwin s.heartbeat).setTwin (fun w => { w with beatAt := some s.now })) ∧
  Takes (fun t => .heartbeatSend t .pin) (fun s => s.generates = true ∧ ∀ t, s.twin.pinBeatAt = some t → t + 5000 ≤ s.now)
    (fun s => s.setTwin (fun w => { w with pinBeatAt := some s.now, pinLevel := !w.pinLevel })) ∧
  (∀ msg : Bytes, u8 msg 0 = 1 → 16 ≤ msg.length → Takes (fun t => .heartbeatReceive t .link msg) (fun s => s.twin.mode ≠ 0) (fun s => (s.takeHeartbeat msg).interlock)) ∧
  (∀ msg, Takes (fun t => .heartbeatReceive t .pin msg) (fun s => s.twin.mode ≠ 0)
    (fun s => (s.setTwin (fun w => { w with pinAt := some s.now, pinLost := false, bothLost := false })).interlock)) ∧
  Takes (fun t => .heartbeatPathDead t .link) (fun s => s.linkBeats = false) (fun s => s.interlock) ∧
  Takes (fun t => .heartbeatPathDead t .pin) (fun s => s.pinBeats = false) (fun s => s.interlock) ∧
  (∀ level, Comes (fun t => .dutyInChange t level) (fun s => s.twin.windowAt = none)
    (fun s => (s.setTwin (fun w => { w with dutyIn := level, dutyInAt := if !level then none else if w.dutyIn then w.dutyInAt else some s.now, lowSince := if level then none else (if w.dutyIn then some s.now else some (w.lowSince.getD s.now)), sawHigh := w.sawHigh || (level && w.windowAt.isSome) })).interlock)) ∧
  (∀ a, Takes .claimWindowEnd (fun s => s.twin.windowAt = some a ∧ a + 2000 ≤ s.now ∧ s.sys.straps.twinRole = true)
    (fun s => if s.twin.sawHigh ∨ s.twin.dutyIn then s.retreat else s.holdDuty)) ∧
  (∀ a, Takes .claimWindowEnd (fun s => s.twin.windowAt = some a ∧ a + 2000 ≤ s.now ∧ s.sys.straps.twinRole = false)
    (fun s => if s.twin.dutyIn then s.retreat.interlockFault else s.holdDuty)) ∧
  Takes .dutyKeeperDrop (fun s => s.twin.dutyOut = true ∧ max (max (s.twin.beatAt.getD 0) (s.twin.pinBeatAt.getD 0)) (max (s.twin.windowAt.getD 0) (s.twin.claimedAt.getD 0)) + 20000 ≤ s.now) (fun s => s.dropDuty) ∧
  Takes .twinCycleEnd (fun s => s.twin.mode = 1 ∧ s.twin.paired = true ∧ s.twin.role = 1 ∧ s.linkUp .twin = true ∧ s.now % (1000 * s.twin.cycleUs) = 0 ∧ s.twin.nextUs = none) (fun s => s.sendCopy) ∧
  (∀ n, Takes .twinCycleEnd
    (fun s => s.twin.mode = 1 ∧ s.twin.paired = true ∧ s.twin.role = 1 ∧ s.linkUp .twin = true ∧ s.now % (1000 * s.twin.cycleUs) = 0 ∧ s.twin.nextUs = some n ∧ s.now % (1000 * n) = 0)
    (fun s => (s.setTwin (fun w => { w with cycleUs := n, nextUs := none })).sendCopy)) ∧
  (∀ msg : Bytes, u8 msg 0 = 2 → 56 ≤ msg.length → Takes (fun t => .copyReceive t msg) (fun s => s.twin.mode = 1 ∧ s.twin.paired = true ∧ s.twin.role = 2)
    (fun s =>
      let joining := !s.twin.synced && !s.twin.syncDue
      let nr := u16 msg 2
      let nc := u16 msg 4
      let nb := u16 msg 6
      let cycle := u32 msg 8
      let casks := entriesOf 24 (slice msg (24 + 24 * nr) (24 * nc)) nc
      let blobs := entriesOf 32 (slice msg (48 + 24 * (nr + nc)) (32 * nb)) nb
      let digest := u64 msg (48 + 24 * (nr + nc) + 32 * nb)
      let s := s.setTwin (fun w => { w with partnerState := u8 msg 14, timeSrc := u8 msg 15 % 2 })
      let (own, s) := s.formEntries (entriesOf 24 (slice msg 24 (24 * nr)) nr)
      let s := casks.foldl (fun (s : State) c => s.setGroup (u8 c 0) (fun x => { x with serial := (u32 c 4 + 1) % 2 ^ 32 })) s
      let s := blobs.foldl (fun (s : State) b => (s.setCoder (u32 b 0 % 1048576) (fun c => { c with lastSeq := BitVec.ofNat 32 (u32 b 4) })).loadBlob (u32 b 0 % 1048576) b) s
      let same := crc64 ((own.map s.copyEntry).flatten) == digest && u16 msg 12 == s.sys.configGen.toNat
      let s := if joining then { s with sys := { s.sys with configGen := BitVec.ofNat 16 (u16 msg 12) } } else s
      let result := if same then 0 else if joining then 2 else 1
      let s : State := match result with
        | 0 => s.setTwin (fun w => { w with aligned := cycle, mismatches := 0, syncDue := w.syncDue || joining })
        | 1 =>
          let s := (s.setTwin (fun w => { w with aligned := cycle, mismatches := w.mismatches + 1 })).countTwin 5
          if s.twin.mismatches = 3 ∧ !s.twin.degraded then ((s.setTwin (fun w => { w with degraded := true })).logFault 0x0054 0 cycle 0).twinEvent 4 false else s
        | _ => s
      let s := if result = 2 then s else s.retain own
      s.tellTwin (3 :: le 4 cycle ++ le 1 result))) ∧
  (∀ msg x, u8 msg 0 = 3 → Takes (fun t => .copyAckReceive t msg) (fun s => s.twin.copies.find? (fun x => x.cycle == u32 msg 1) = some x)
    (fun s => s.setTwin (fun w => { w with copies := w.copies.filter (fun y => decide (x.upTo < y.upTo)), released := max w.released x.upTo }))) ∧
  (∀ msg p, u8 msg 0 = 4 → packetOf (msg.drop 5) = some p → Takes (fun t => .mirrorReceive t msg) (fun s => s.sys.fwPaused = false ∧ s.twin.role = 2)
    (fun s =>
      let (h, s) := s.admitCmd p.opcode (.fabric .twin) p.cmd (.mirror (u32 msg 1)) p.cmd.version true
      s.startCmd h)) ∧
  (∀ msg x, u8 msg 0 = 5 → Takes (fun t => .mirrorDoneReceive t msg) (fun s => s.twin.mirrors.find? (fun x => x.number == u32 msg 1) = some x)
    (fun s => (if u8 msg 5 = x.status then s else (s.countTwin 7).desync).settleMirror x)) ∧
  (∀ number x, Takes (fun t => .mirrorTimeout t number) (fun s => s.twin.mirrors.find? (fun x => x.number == number) = some x ∧ x.sentAt + 1000000 ≤ s.now)
    (fun s => ((s.countTwin 7).desync).settleMirror x)) ∧
  (∀ msg p, u8 msg 0 = 6 → packetOf (msg.drop 1) = some p → Takes (fun t => .relayReceive t msg)
    (fun s => s.sys.fwPaused = false ∧ s.twin.mode = 2 ∧ s.twin.paired = true ∧
      ((versionError { p.cmd with target := 0, source := 0 } none).or (shapeError { p.cmd with target := 0, source := 0 } (p.cmd.version == 2))).or
        (s.slotError .relay { p.cmd with target := 0, source := 0 }) = none)
    (fun s =>
      let c : Cmd := { p.cmd with target := 0, source := 0, flags := if p.cmd.sessionId = 1 then p.cmd.flags ||| 4 else p.cmd.flags }
      let (h, s) := s.admitCmd p.opcode (.fabric .twin) c .relay p.cmd.version (isImmediate p.opcode)
      if h.immediate then s.startCmd h else s)) ∧
  (∀ msg p x, u8 msg 0 = 7 → packetOf (msg.drop 1) = some p → p.cmd.tag.toNat < 128 → u8 msg 17 ≠ stAccepted → Takes (fun t => .relayReplyReceive t msg)
    (fun s => s.twin.relays.find? (fun e => e.key == relayKey p) = some x ∧ (s.heldOf x.ref).any (fun h => h.opcode == 0x0005 || cmdDryRun h.cmd) = false)
    (fun s => (s.setTwin (fun w => { w with relays := w.relays.filter (fun e => e.ref != x.ref) })).finish x.ref (u8 msg 17) (u8 msg 18)
      (if (s.heldOf x.ref).any (fun h => h.opcode == 0x0B13) then relayResult (msg.drop 1) else msg.drop 21))) ∧
  (∀ msg, u8 msg 0 = 8 → u8 msg 1 % 64 < 16 → Takes (fun t => .twinTriggerReceive t msg) (fun s => s.twin.mode = 2 ∧ s.twin.paired = true ∧ (s.group (u8 msg 1 % 64)).active = true)
    (fun s =>
      let g := u8 msg 1 % 64
      let time := 65536 * u64 msg 9 + u16 msg 5
      let (s, v) := (s.setTwin (fun w => { w with heardTrig := ((g, time) :: w.heardTrig).take 16 })).decideTrigger g 4 4 time {}
      match v with
      | .waits =>
        if s.timedCount < 16 ∧ (s.group g).near time s.now then s.setTimed (· ++ [{ time, source := 4, place := 4, groups := [g] }])
        else s.setGroup g (·.miss time)
      | _ => s)) ∧
  (∀ record : Bytes, 32 ≤ record.length → Takes (fun t => .gangPartnerRecord t record) (fun s => s.twin.mode = 2 ∧ s.twin.paired = true ∧ s.twin.role = 3)
    (fun s =>
      let r := { readRecord record with index := s.sourceIndex (readRecord record) }
      let s := if r.kind = 8 then (s.notePartner r).plainDown 8192 else s.notePartner r
      { s with streams := { s.streams with closed := s.streams.closed ++ [{ r with toCode := decide (r.kind ≤ 3) && s.coded r.key }] } })) ∧
  Takes .yieldTimeout
    (fun s => s.twin.mode = 1 ∧ s.twin.paired = true ∧ s.twin.role = 1 ∧ s.twin.yieldUs ≠ 0 ∧ s.upAttached = false ∧ s.fabric.lostAt + 1000 * s.twin.yieldUs ≤ s.now ∧ s.twin.partnerFlags.getLsbD 3 = true ∧ s.linkBeats = true)
    (fun s => s.giveUpDuty) ∧
  (∀ r a, Takes .pairingTimeout (fun s => s.twin.pairRefs = [(r, a)] ∧ s.twin.paired = false ∧ a + 10000000000 ≤ s.now)
    (fun s => (State.twinNone (s.setTwin (fun w => { w with pairRefs := [] }))).finish r stInternal 0 [])) ∧
  Takes .pairFormed (fun _ => True) (fun s => if s.pairFormed.mirrors ∧ !s.twin.synced then s.pairFormed.mirrorSettings else s.pairFormed) ∧
  (∀ x, Takes .copyAckTimeout (fun s => s.twin.copies.find? (fun x => x.sentAt != 0 && decide (x.sentAt + 5000 ≤ s.now)) = some x)
    (fun s => (s.setTwin (fun w => { w with copies := w.copies.map (fun (y : Copy) => if y.cycle = x.cycle then { y with sentAt := 0 } else y) })).countTwin 6))

/-- Calibration, power and the sluice: whenever fabric time has come to the row's time and what the row needs holds then, it completes with the effect written out, and the hub settles. -/
def Obligations.CalibrationAndPowerRowsTakeEffect : Prop :=
  (∀ temps, Takes (fun t => .rotationTrigger t temps) (fun _ => True)
    (fun s =>
      let s : State := { s with front := { s.front with temps := (List.range 10).map (fun i => temps.getD i (s.front.temps.getD i 0)) } }
      if !s.rotationDue then s
      else if s.cal.rotation.isSome ∨ s.sys.hub = .dormant then s.setCal (fun c => { c with waiting := some (c.waiting.getD (none, 0xFFFFFFFF)) })
      else if rotationStates.contains s.sys.hub then s.startRotation none 0xFFFFFFFF
      else s)) ∧
  (∀ weights offset r c, c < 32 → Takes (fun t => .converterLoanEnd t weights offset)
    (fun s => s.cal.rotation = some r ∧ r.asked = some c ∧ s.loanPan = some c ∧
      (State.convMeasures ((s.setRotation (fun r => { r with left := r.left.drop 1, asked := none })).askRelease c) c weights offset).find?
        (fun m => !m.passes (State.convMeasured ((s.setRotation (fun r => { r with left := r.left.drop 1, asked := none })).askRelease c) c)) = none)
    (fun s => (((((s.setRotation (fun r => { r with left := r.left.drop 1, asked := none })).askRelease c).writeConverter c weights offset).setCal
      (fun k => { k with streaks := Tbl.erase k.streaks c })).setRotation (fun r => { r with done := r.done ||| 2 ^ c })))) ∧
  (∀ weights offset r c m, c < 32 → Takes (fun t => .converterLoanEnd t weights offset)
    (fun s => s.cal.rotation = some r ∧ r.asked = some c ∧ s.loanPan = some c ∧
      (State.convMeasures ((s.setRotation (fun r => { r with left := r.left.drop 1, asked := none })).askRelease c) c weights offset).find?
        (fun m => !m.passes (State.convMeasured ((s.setRotation (fun r => { r with left := r.left.drop 1, asked := none })).askRelease c) c)) = some m)
    (fun s =>
      let s := (s.setRotation (fun r => { r with left := r.left.drop 1, asked := none })).askRelease c
      let s := (s.reject c m).setRotation (fun r => { r with rejected := r.rejected ||| 2 ^ c })
      let n := Tbl.get 0 s.cal.streaks c + 1
      let s := s.setCal (fun k => { k with streaks := Tbl.set k.streaks c n })
      if n = 3 then (s.setCal (fun k => { k with streaks := Tbl.erase k.streaks c })).converterFailed c 1 else s)) ∧
  (∀ ch fs, ch < 256 → Takes (fun t => .tdcSelfMeasure t ch fs)
    (fun s => (s.pan (panOf ch)).power = .on ∧ (s.chan ch).tdcBusy ≤ s.now ∧ (s.chan ch).tdcPending = [] ∧ s.dieLost (dieOf (panOf ch)) = false)
    (fun s =>
      let m : Measure := { row := 7, lo := 14000, hi := 17500, change := 200, value := fs, before := s.calU16 (chanRec ch + 24), channel := ch }
      if m.passes (s.panMeasured (panOf ch)) then s.calWrite (chanRec ch + 24) (le 2 fs) else s.reject (panOf ch) m)) ∧
  (∀ pan vcal senseErr f, Takes (fun t => .foregroundPanStart t pan vcal senseErr)
    (fun s => s.cal.fore = some f ∧ f.entered = true ∧ f.running = [] ∧ f.left.head? = some pan ∧ (s.now - s.grid.2) % (s.grid.period * 2 ^ (s.pan pan).log2D) = 0 ∧
      f.freeAt ≤ s.now ∧ s.now < f.freeAt + s.grid.period * 2 ^ (s.pan pan).log2D)
    (fun s => s.beginPan pan)) ∧
  (∀ pan vcal senseErr f, Takes (fun t => .foregroundPanStart t pan vcal senseErr)
    (fun s => s.cal.fore = some f ∧ f.entered = false ∧ f.granted.any (fun g => s.passEpoch f g == s.now) = true ∧ s.grid.isEpoch s.now = true ∧ (s.sys.hub = .ready ∨ s.sys.hub = .run) ∧
      200 * (vcal - s.cal.declared).natAbs ≤ s.cal.declared ∧ senseErr.natAbs ≤ 2000)
    (fun s =>
      let from' := s.sys.hub
      let s := s.setCal (fun c => { c with measured := (vcal % 4294967296).toNat })
      let s : State := { s with sys := { s.sys with calFrom := from', timeLostInCal := false } }
      let s := (s.go .calibrate 0x0040).setFore (fun f => { f with entered := true, start := s.now, freeAt := s.now, left := bitsOf 32 f.mask })
      if f.parallel then (bitsOf 32 f.mask).foldl (fun (s : State) q => s.beginPan q) s else s.beginPan ((bitsOf 32 f.mask).headD 0))) ∧
  (∀ pan vcal senseErr f, Takes (fun t => .foregroundPanStart t pan vcal senseErr)
    (fun s => s.cal.fore = some f ∧ f.entered = false ∧ f.granted.any (fun g => s.passEpoch f g == s.now) = true ∧ s.grid.isEpoch s.now = true ∧ (s.sys.hub = .ready ∨ s.sys.hub = .run) ∧
      (s.cal.declared < 200 * (vcal - s.cal.declared).natAbs ∨ 2000 < senseErr.natAbs))
    (fun s => (s.setCal (fun c => { c with measured := (vcal % 4294967296).toNat })).refuseReference f vcal)) ∧
  (∀ pan results f, Takes (fun t => .foregroundPanEnd t pan results) (fun s => s.cal.fore = some f ∧ pan ∈ f.running ∧ s.intervalOver pan = true)
    (fun s =>
      let s := ((s.calHoles pan s.now).setPan pan (fun x => { x with calUntil := none })).setFore (fun f => { f with running := f.running.filter (· != pan), freeAt := s.now })
      let s := match s.panFails pan results with
        | some m => (s.reject pan m).setFore (fun f => { f with rejected := f.rejected ||| 2 ^ pan })
        | none => (s.writePan pan results).setFore (fun f => { f with done := f.done ||| 2 ^ pan, lead := max f.lead results.lead })
      let s := (List.range 8).foldl (fun (s : State) i => let ch := 8 * pan + i; (s.setChan ch (fun c => { c with settleNext := max c.settleNext 2000 })).judgeChan ch ((s.chan ch).fresh (s.compTrim ch))) s
      s.endPass)) ∧
  (∀ group, group < 6 → group ≠ 3 → Takes (fun t => .groupIdleTimeout t group)
    (fun s => s.groupBusy group = false ∧ (s.power.idleAt.lookup group).any (fun t => decide (t + 100000 ≤ s.now)) = true)
    (fun s => s.setGroupPower group (derived group (s.power.tolerance.getD group 0)))) ∧
  (∀ group, group < 6 → group ≠ 3 → Takes (fun t => .groupWake t group) (fun s => s.groupBusy group = true) (fun s => s.setGroupPower group 0)) ∧
  Takes .dormantEntry
    (fun s => s.sys.hub = .ready ∧ s.calm none = true ∧ s.power.holdTo ≤ s.now ∧ s.power.calmAt.any (fun t => decide (t + 10000000 ≤ s.now)) = true)
    (fun s =>
      let s : State := { s with front := { s.front with pans := s.front.pans.map (fun (e : Nat × Pan) => (e.1, { e.2 with frame := none, strobes := [], armed := [] })) } }
      (s.setPower (fun w => { w with entries := sat 32 (w.entries + 1), calmAt := none })).go .dormant 0x0070) ∧
  Takes .dormantExit (fun s => s.sys.hub = .dormant ∧ (s.tolerant = false ∨ s.power.wakes ≠ []))
    (fun s =>
      let l := s.power.wakes
      let states := s.power.states.zipIdx.map (fun e => if e.2 = 0 then 0 else min e.1 (derived e.2 (s.power.tolerance.getD e.2 0)))
      let s := (s.setPower (fun w => { w with states, wakes := [], calmAt := none })).go .ready 0x0071
      l.foldl (fun (s : State) r => s.finish r stOk 0 []) s) ∧
  Takes .wakeHoldExpiry (fun s => s.power.holdTo ≤ s.now) (fun s => s.setPower (fun w => { w with holdTo := 0 })) ∧
  (∀ port, Takes (fun t => .sluiceRequest t 4 port) (fun _ => True) (fun s => s.flashAsk)) ∧
  (∀ port, Takes (fun t => .sluiceRequest t 5 port) (fun _ => True) (fun s => s.requestTraining port)) ∧
  (∀ port, Takes (fun t => .sluiceRequest t 6 port) (fun _ => True) (fun s => s.scrubStart)) ∧
  (∀ recovery r, Takes (fun t => .sluiceGrant t recovery) (fun s => s.sluice.grantable recovery = some r)
    (fun s =>
      let x := s.sluice
      State.granted { s with sluice := { x.setQueue recovery ((x.queue recovery).drop 1) with
        granted := x.granted ++ [{ r with entered := s.now }], grants := sat 32 (x.grants + 1), longest := max x.longest (sat 32 ((s.now - r.entered) / 1000)),
        headSince := if recovery then x.headSince else if x.normal.length ≤ 1 then 0 else s.now } } r)) ∧
  (∀ op, Takes (fun t => .sluiceTokenReturn t op) (fun _ => True)
    (fun s => s.returnTokens (fun r => r.op == op && ((op == 1 && decide (r.entered + 2000000 ≤ s.now)) || (op == 7 && decide (r.deadline ≤ s.now)))))) ∧
  (∀ recovery r, Takes (fun t => .sluiceTimeout t recovery) (fun s => (s.sluice.queue recovery).find? (fun r => decide (r.deadline ≤ s.now)) = some r) (fun s => s.requestEnds r))

/-- The safety island and faults: whenever fabric time has come to the row's time and what the row needs holds then, it completes with the effect written out, and the hub settles. -/
def Obligations.SafetyAndFaultRowsTakeEffect : Prop :=
  (∀ ch sin sfb srst selfTestOk, Comes (fun t => .safetyCycle t ch sin sfb srst selfTestOk) (fun s => (s.safety.chan ch).held = false)
    (fun s =>
      let s := (s.takeSet ch).setSafe ch (fun x => SafeChan.filter { x with cycle := (x.cycle + 1) % 2 ^ 32, pins := x.cmd, sfb := sfb % 16 } (sin % 256))
      let s := if selfTestOk then s.watchPartner ch else (s.watchPartner ch).latch ch 5
      let s := (List.range 8).foldl (fun (s : State) i => s.discrepancy ch i) s
      let s := (List.range 4).foldl (fun (s : State) k => s.readback ch k) s
      let s := ((s.button ch srst).judgeReset ch).demands ch
      let s := s.setSafe ch (fun x => SafeChan.command ch ((List.range 4).foldl (SafeChan.pulseStep ch) x))
      ((s.setSafe ch (fun x => { x with out := some x.message })).settleConfirm).noteSafety)) ∧
  (∀ ch m, Comes (fun t => .crossCompareReceive t ch) (fun s => (s.safety.chan (SafeCh.other ch)).out = some m ∧ (s.safety.chan ch).held = false)
    (fun s => (s.setSafe (SafeCh.other ch) (fun x => { x with out := none })).setSafe ch (fun x =>
      { x with heard := some m, silent := 0, inWindow := x.inWindow + 1, partnerUsed := if m.releases < x.partnerUsed then m.used else x.partnerUsed }))) ∧
  (∀ ch pair sfbLow, pair < 4 → Comes (fun t => .testPulseEnd t ch pair sfbLow) (fun s => (s.safety.chan ch).held = false ∧ Tbl.get 0 (s.safety.chan ch).pulse pair = 3)
    (fun s =>
      let x := s.safety.chan ch
      let s := s.setSafe ch (fun y => { y with pulse := Tbl.set y.pulse pair 0, pulseAge := Tbl.set y.pulseAge pair 0, age := Tbl.set y.age pair 0, misses := Tbl.set y.misses pair 0 })
      let s :=
        if x.demand.testBit pair then s.countSafe 9 1
        else if sfbLow ∨ x.readback.testBit pair then s.countSafe 8 1
        else ((((s.countSafe 8 1).setSafe ch (fun y => { y with readback := setBit y.readback pair true })).countSafe 7 1).safeFault ch 1 pair).demandSet ch pair
      (s.setSafe ch (fun y => if y.mayDrive ch pair then { y with cmd := setBit y.cmd pair true, pins := setBit y.pins pair true } else { y with cmd := setBit y.cmd pair false, pins := setBit y.pins pair false })).noteSafety)) ∧
  (∀ ch, Comes (fun t => .safetyRailFault t ch) (fun _ => True) (fun s => ((s.setSafe ch (fun x => { ({} : SafeChan) with enable := x.enable })).dropSet).noteSafety)) ∧
  (∀ ch, Comes (fun t => .hubEnableChange t ch true) (fun s => s.hubEnable = true) (fun s => (s.setSafe ch (fun x => { x with enable := true })).noteSafety)) ∧
  (∀ ch, Comes (fun t => .hubEnableChange t ch false) (fun s => s.hubEnable = false)
    (fun s => ((List.range 4).foldl (fun (s : State) k => if (s.safety.chan ch).usesOut k then s.demandSet ch k else s) (s.setSafe ch (fun x => { x with enable := false }))).noteSafety)) ∧
  Comes .safetySetPendingTimeout (fun s => s.safety.a.waiting.isSome = true ∧ s.safety.confirm = none ∧ s.safety.writtenAt + 10000000000 ≤ s.now) (fun s => s.dropSet.noteSafety) ∧
  (∀ ch, Comes (fun t => .safetyChannelStart t ch) (fun s => (s.safety.chan ch).held = true)
    (fun s => (((s.setSafe ch (fun x => { x with held := false })).dropSet).safeEvent 9 (SafeCh.num ch) 0 0).noteSafety)) ∧
  (∀ store word double, word < storeWords store → Takes (fun t => .eccReadError t store word double) (fun _ => True) (fun s => s.eccError store word double false)) ∧
  Takes .scrubPassStart
    (fun s => s.scrubWaits = false ∧ s.faults.scrubAsked = false ∧ s.faults.scrubFrom = none ∧ s.faults.scrubDue.any (fun d => decide (d ≤ s.now)) = true)
    (fun s => (s.ask 6 0 { vdd := 4 } false none none).setFaults (fun f => { f with scrubAsked := true, scrubDue := if f.scrubEvery = 0 then none else some (s.now + 1000000000 * f.scrubEvery) })) ∧
  (∀ a, Takes .scrubPassEnd (fun s => s.faults.scrubFrom = some a)
    (fun s =>
      let s := (sortBy (fun (e : Nat × Bool) => e.1) s.faults.injected).foldl (fun (s : State) e => s.eccError 0 e.1 e.2 true) s
      (s.setFaults (fun f => { f with scrubFrom := none, scrubDone := sat 32 (f.scrubDone + 1), scrubEnd := s.now })).returnTokens (fun r => r.op == 6))) ∧
  (∀ die cause lanes, die < 2 → Takes (fun t => .afeLost t die cause lanes) (fun s => s.dieLost die = false)
    (fun s =>
      let k := if s.now < s.grid.2 then 0 else (s.now - s.grid.2) / s.grid.period + 1
      let last := s.grid.at k
      let s := (s.logFault 0x0011 die cause lanes).markLost die cause
      let s : State := { s with front := { s.front with endStrobe := s.front.endStrobe ++ [(die, last)] } }
      s.driveTrip.bothLost)) ∧
  (∀ die last, Takes (fun t => .afeEndStrobe t die) (fun s => s.front.endStrobe.lookup die = some last ∧ last ≤ s.now)
    (fun s =>
      let s : State := { s with front := { s.front with endStrobe := s.front.endStrobe.filter (·.1 != die) } }
      let own := fun (key : Nat) => (dieChannels die).any (fun ch => ofChannel ch key)
      let s := (s.streams.table.filter (fun e => e.2.isOpen && own e.1)).foldl (fun (s : State) e => s.endWithGap e.1 5 10 last false) s
      (s.capture.groups.filter (fun e => e.2.active && e.2.channels.any (dieChannels die).contains)).foldl (fun (s : State) e =>
        let s := (e.2.channels.filter (dieChannels die).contains).foldl (fun (s : State) ch => s.endCaskStream e.1 ch last) s
        if e.2.channels.any (fun ch => s.captureAlive e.2.isFiltered ch) then (s.tryClose e.1).serveTail e.1
        else (s.haltGroup e.1 6 .stopped).logFault 0x0016 e.1 0 0) s)) ∧
  (∀ i, (∀ p, i ≠ .port p) → Takes (fun t => .islandDead t i) (fun _ => True)
    (fun s => (s.logFault 0x00F1 0 0 0).setFaults (fun f => { f with dead := f.dead ++ [(Island.code i, s.now)] }))) ∧
  (∀ port, port ≠ .up → Takes (fun t => .islandDead t (.port port)) (fun _ => True) (fun s => s.killPort port))

/-- The serial ports: whenever fabric time has come to the row's time and what the row needs holds then, it completes with the effect written out, and the hub settles. -/
def Obligations.SerialPortRowsTakeEffect : Prop :=
  (∀ f, Takes (fun t => .mportNopFrame t f)
    (fun s => s.serial.sp0Ctrl.getLsbD 0 = false ∧ s.rejection f false = 0 ∧ headerOp (spiHeader f) = 0)
    (fun s => s.frameEnds 0 false false [s.statusWord])) ∧
  (∀ f, Takes (fun t => .mportReadFrame t f)
    (fun s => s.serial.sp0Ctrl.getLsbD 0 = false ∧ s.rejection f false = 0 ∧ headerOp (spiHeader f) = 1)
    (fun s => s.frameRead (spiHeader f))) ∧
  (∀ f, Takes (fun t => .mportWriteFrame t f)
    (fun s => s.serial.sp0Ctrl.getLsbD 0 = false ∧ s.rejection f false = 0 ∧ headerOp (spiHeader f) = 2)
    (fun s => s.frameWrite f (spiHeader f))) ∧
  (∀ f, Takes (fun t => .mailboxPush t f)
    (fun s => s.serial.sp0Ctrl.getLsbD 0 = false ∧ s.rejection f false = 0 ∧ headerOp (spiHeader f) = 3 ∧ headerPulls (spiHeader f) = false)
    (fun s =>
      let n := headerLength (spiHeader f)
      let b := (((f.words.drop 1).map (fun (w : BitVec 32) => le 4 w.toNat)).flatten).take n
      ((s.frameEnds 0 false false (s.statusWord :: List.replicate ((n + 3) / 4) 0)).countSerial 4 1).setSerial (fun x => { x with commands := x.commands ++ [b] }))) ∧
  (∀ f, Takes (fun t => .mailboxPull t f)
    (fun s => s.serial.sp0Ctrl.getLsbD 0 = false ∧ s.rejection f false = 0 ∧ headerOp (spiHeader f) = 3 ∧ headerPulls (spiHeader f) = true)
    (fun s =>
      let b := s.serial.replies.headD []
      ((s.frameEnds 0 false false (s.statusWord :: words32 (b ++ zeros 4) 0 ((headerLength (spiHeader f) + 3) / 4))).countSerial 6 1).setSerial (fun x => { x with replies := x.replies.drop 1 }))) ∧
  (∀ f, Takes (fun t => .mportMasterPoll t f)
    (fun s => s.serial.sp0Ctrl.getLsbD 0 = true ∧ s.serial.polledAt ≤ s.now)
    (fun s => (s.frame f true).setSerial (fun x => { x with polledAt := s.now + (if headerOp (spiHeader f) = 0 then 1000 * (x.sp0Ctrl.toNat / 65536) else 1000) }))) ∧
  (∀ b r p, packetOf b = some p → Takes .commandRingRead
    (fun s => s.sys.fwPaused = false ∧ s.serial.held = [] ∧ s.serial.commands = b :: r)
    (fun s => (s.setSerial (fun x => { x with commands := r })).arrive p.opcode .mport p.cmd)) ∧
  (∀ b r, packetOf b = none → Takes .commandRingRead
    (fun s => s.sys.fwPaused = false ∧ s.serial.held = [] ∧ s.serial.commands = b :: r)
    (fun s => (s.setSerial (fun x => { x with commands := r })).count 1)) ∧
  (∀ b r, Takes .replyRingAppend
    (fun s => s.serial.held = b :: r ∧ entrySize b ≤ ringFree s.serial.replies)
    (fun s => s.setSerial (fun x => { x with replies := x.replies ++ [b], held := r }))) ∧
  Takes .flushCmd (fun _ => True)
    (fun s => { s with serial := { s.serial with counters := Tbl.modify 0 s.serial.counters 5 (fun v => sat 32 (v + s.serial.commands.length)), commands := [] }, cmds := { s.cmds with arrivals := s.cmds.arrivals.map (fun a => { a with ring := 0 }) } }) ∧
  Takes .flushReply (fun _ => True)
    (fun s => { s with serial := { s.serial with counters := Tbl.modify 0 s.serial.counters 7 (fun v => sat 32 (v + s.serial.replies.length)), replies := [] } }) ∧
  (∀ value : BitVec 32, Takes (fun t => .sp0CtrlWrite t value) (fun _ => True)
    (fun s => s.setSerial (fun x =>
      let v := value.toNat
      let old := x.sp0Ctrl.toNat
      let poll := v / 65536 % 65536
      let w := v % 8 + 256 * divisorAfter (old / 256 % 256) (v / 256 % 256) + 65536 * (if 1 ≤ poll ∧ poll ≤ 1000 then poll else old / 65536)
      { x with sp0Ctrl := BitVec.ofNat 32 w, polledAt := if v % 2 = 1 ∧ old % 2 = 0 then s.now + 1000 * (w / 65536) else x.polledAt, rdyFrom := if w = old then x.rdyFrom else s.now + 1000 }))) ∧
  (∀ value : BitVec 32, Takes (fun t => .sp1CtrlWrite t value) (fun _ => True)
    (fun s => s.setSerial (fun x =>
      let old := (x.sp1Next.getD x.sp1Ctrl).toNat
      let w := BitVec.ofNat 32 (divisorAfter (old % 256) (value.toNat % 256) + 256 * (value.toNat / 256 % 8))
      if s.flashRuns.isSome then { x with sp1Next := some w } else { x with sp1Ctrl := w, sp1Next := none }))) ∧
  Takes .timeSnapTake (fun _ => True)
    (fun s => s.setSerial (fun x => { x with snap := le 8 (s.now16 / 65536) ++ le 4 (s.now16 % 65536) ++ le 8 s.front.lastK ++ le 4 s.snapFlags ++ leInt 4 (roundDiv (((s.time.inc : Int) - oneNs) * 100000000000) (2 ^ 40)) })) ∧
  Takes .spCntClear (fun _ => True) (fun s => { s with serial := { s.serial with counters := [] } }) ∧
  (∀ value : BitVec 32, Takes (fun t => .calWindowWrite t value) (fun _ => True)
    (fun s => s.setCal (fun c => { c with page := if value.toNat % 4 = 3 then c.page else value.toNat % 4, view := value.toNat.testBit 2 }))) ∧
  (∀ addr, ∀ value : BitVec 32, 0x2000 ≤ addr → addr < 0x2FF0 → Takes (fun t => .calImageWindowWrite t addr value) (fun _ => True)
    (fun s => s.stageWrite (4096 * s.cal.page + (addr - 0x2000)) (le 4 value.toNat))) ∧
  (∀ addr value, Takes (fun t => .registerWrite t addr value) (fun _ => True) (fun s => s.writeReg addr value.toNat))

/-- In RESET and BOOT nothing but the rows of start-up acts (R71, R88, R92): every other row only lets its time pass. -/
def Obligations.OtherRowsStandInResetAndBoot : Prop :=
  (∀ (queue : Nat), Stands (fun t => .fenceWaitEnd t queue)) ∧
  (∀ (slot : Nat), Stands (fun t => .sessionIdleTimeout t slot)) ∧
  Stands (fun t => .firmwareActivationStart t) ∧
  Stands (fun t => .firmwareRestartEnd t) ∧
  (∀ (offset : Nat), Stands (fun t => .flashWindowRead t offset)) ∧
  (∀ (f : SpiFrame), Stands (fun t => .mportReadFrame t f)) ∧
  (∀ (f : SpiFrame), Stands (fun t => .mportWriteFrame t f)) ∧
  (∀ (f : SpiFrame), Stands (fun t => .mportNopFrame t f)) ∧
  (∀ (f : SpiFrame), Stands (fun t => .mailboxPush t f)) ∧
  (∀ (f : SpiFrame), Stands (fun t => .mailboxPull t f)) ∧
  (∀ (f : SpiFrame), Stands (fun t => .mportMasterPoll t f)) ∧
  Stands (fun t => .commandRingRead t) ∧
  Stands (fun t => .replyRingAppend t) ∧
  Stands (fun t => .flushCmd t) ∧
  Stands (fun t => .flushReply t) ∧
  (∀ (value : BitVec 32), Stands (fun t => .sp0CtrlWrite t value)) ∧
  (∀ (value : BitVec 32), Stands (fun t => .sp1CtrlWrite t value)) ∧
  Stands (fun t => .timeSnapTake t) ∧
  Stands (fun t => .spCntClear t) ∧
  (∀ (value : BitVec 32), Stands (fun t => .calWindowWrite t value)) ∧
  (∀ (addr : Nat) (value : BitVec 32), Stands (fun t => .calImageWindowWrite t addr value)) ∧
  (∀ (addr : Nat) (value : BitVec 32), Stands (fun t => .registerWrite t addr value)) ∧
  (∀ (k : Nat), Stands (fun t => .gridStrobe t k)) ∧
  (∀ (pan : Nat) (k : Nat), Stands (fun t => .strobeMessageSend t pan k)) ∧
  (∀ (pan : Nat), Stands (fun t => .strobeMessageReceive t pan)) ∧
  Stands (fun t => .epochBoundary t) ∧
  (∀ (pan : Nat) (c : Conversion), Stands (fun t => .conversionEnd t pan c)) ∧
  (∀ (pan : Nat) (c : Conversion), Stands (fun t => .urgentSlotBoundary t pan c)) ∧
  Stands (fun t => .spotReplyTimeout t) ∧
  (∀ (pan : Nat), Stands (fun t => .urgentRequestEndUnserved t pan)) ∧
  (∀ (ch : Nat) (beats : Nat), Stands (fun t => .tdcConversionEnd t ch beats)) ∧
  (∀ (pan : Nat), Stands (fun t => .comparatorEventDelivery t pan)) ∧
  Stands (fun t => .overloadIntervalEnd t) ∧
  (∀ (src : MashSource), Stands (fun t => .sampleArrivalMash t src)) ∧
  Stands (fun t => .captureSample t) ∧
  (∀ (group : Nat), Stands (fun t => .caskHandover t group)) ∧
  (∀ (entry : Nat), Stands (fun t => .timedTriggerApply t entry)) ∧
  (∀ (group : Nat) (term : Nat), Stands (fun t => .scheduleTime t group term)) ∧
  (∀ (msg : Bytes), Stands (fun t => .fabricTriggerReceive t msg)) ∧
  (∀ (input : Nat) (rising : Bool), Stands (fun t => .edgeArrival t input rising)) ∧
  (∀ (input : Nat) (b : Bool) (code : Nat) (a1 : Nat) (a2 : Nat), Stands (fun t => .interpolatorStampEnd t input b code a1 a2)) ∧
  (∀ (input : Nat) (b : Bool) (a1 : Nat) (a2 : Nat), Stands (fun t => .interpolatorCalRepeat t input b a1 a2)) ∧
  (∀ (input : Nat), Stands (fun t => .stampArrivalMem t input)) ∧
  (∀ (unit : Nat), Stands (fun t => .intervalTimeout t unit)) ∧
  (∀ (unit : Nat), Stands (fun t => .frequencyGateEnd t unit)) ∧
  (∀ (stream : Nat), Stands (fun t => .recordLatencyExpiry t stream)) ∧
  Stands (fun t => .recordAdmit t) ∧
  (∀ (stream : Nat), Stands (fun t => .pendingGapTimeout t stream)) ∧
  Stands (fun t => .eventEntryArise t) ∧
  Stands (fun t => .upRecordSend t) ∧
  Stands (fun t => .spillDrain t) ∧
  (∀ (lane : Nat) (failedBlocks : List Nat), Stands (fun t => .kilnRecordCode t lane failedBlocks)) ∧
  (∀ (tap : Nat), Stands (fun t => .tapRecordDecode t tap)) ∧
  Stands (fun t => .kilnJobBlock t) ∧
  (∀ (item : Bytes), Stands (fun t => .feedItem t item)) ∧
  (∀ (item : Bytes), Stands (fun t => .feedSyncItem t item)) ∧
  (∀ (bytes : Nat), Stands (fun t => .feedValidLow t bytes)) ∧
  Stands (fun t => .feedWatermark t) ∧
  Stands (fun t => .feedCreditReturn t) ∧
  (∀ (port : Port) (r : TrainingReport), Stands (fun t => .trainingStepAdvance t port r)) ∧
  (∀ (port : Port), Stands (fun t => .trainingStepLimit t port)) ∧
  (∀ (port : Port) (errs : List LaneErrors), Stands (fun t => .verifyEnd t port errs)) ∧
  (∀ (port : Port), Stands (fun t => .trainingRestartWait t port)) ∧
  (∀ (port : Port) (lane : Nat) (d : Detector) (asserted : Bool), Stands (fun t => .lossOfSignal t port lane d asserted)) ∧
  (∀ (port : Port) (lane : Nat), Stands (fun t => .laneFailed t port lane)) ∧
  (∀ (port : Port) (passed : Bool), Stands (fun t => .degradeTrainingEnd t port passed)) ∧
  (∀ (port : Port), Stands (fun t => .electricalIdleEntry t port)) ∧
  (∀ (port : Port), Stands (fun t => .portWake t port)) ∧
  (∀ (port : Port) (lane : Nat), Stands (fun t => .wakeBurstFail t port lane)) ∧
  (∀ (port : Port), Stands (fun t => .laneOffEntry t port)) ∧
  (∀ (port : Port) (f : Frame), Stands (fun t => .payloadReceive t port f)) ∧
  (∀ (port : Port) (f : Frame), Stands (fun t => .ackReceive t port f)) ∧
  (∀ (port : Port) (f : Frame), Stands (fun t => .nakReceive t port f)) ∧
  (∀ (port : Port), Stands (fun t => .replayTimeout t port)) ∧
  (∀ (port : Port) (f : Frame), Stands (fun t => .creditReceive t port f)) ∧
  (∀ (port : Port), Stands (fun t => .creditSendTimer t port)) ∧
  (∀ (port : Port) (linkId : BitVec 32), Stands (fun t => .helloSendTimer t port linkId)) ∧
  (∀ (port : Port) (f : Frame), Stands (fun t => .helloReceive t port f)) ∧
  (∀ (port : Port) (f : Frame), Stands (fun t => .abandonReceive t port f)) ∧
  (∀ (port : Port) (f : Frame), Stands (fun t => .attachReceive t port f)) ∧
  (∀ (port : Port) (f : Frame), Stands (fun t => .assignReceive t port f)) ∧
  Stands (fun t => .restartEntriesTimeout t) ∧
  (∀ (port : Port) (f : Frame), Stands (fun t => .detachReceive t port f)) ∧
  (∀ (port : Port) (f : Frame), Stands (fun t => .unreachableReceive t port f)) ∧
  (∀ (port : Port), Stands (fun t => .partnerLost t port)) ∧
  Stands (fun t => .upDetached t) ∧
  (∀ (port : Port) (txFrac : Nat), Stands (fun t => .syncSendTimer t port txFrac)) ∧
  (∀ (port : Port) (t1 : Int), Stands (fun t => .pdelayReqSend t port t1)) ∧
  (∀ (port : Port) (f : Frame) (t2 : Int) (t3 : Int), Stands (fun t => .pdelayReqReceive t port f t2 t3)) ∧
  (∀ (port : Port) (f : Frame) (t4 : Int), Stands (fun t => .pdelayRespReceive t port f t4)) ∧
  (∀ (port : Port) (f : Frame) (rx : Int), Stands (fun t => .syncReceive t port f rx)) ∧
  Stands (fun t => .syncMissing t) ∧
  Stands (fun t => .bridgeTimeout t) ∧
  (∀ (codes : PairCodes), Stands (fun t => .ppsInEdge t codes)) ∧
  Stands (fun t => .ppsOutSecond t) ∧
  (∀ (path : HbPath), Stands (fun t => .heartbeatSend t path)) ∧
  (∀ (path : HbPath) (msg : Bytes), Stands (fun t => .heartbeatReceive t path msg)) ∧
  (∀ (path : HbPath), Stands (fun t => .heartbeatPathDead t path)) ∧
  Stands (fun t => .claimWindowEnd t) ∧
  Stands (fun t => .dutyKeeperDrop t) ∧
  Stands (fun t => .twinCycleEnd t) ∧
  (∀ (msg : Bytes), Stands (fun t => .copyReceive t msg)) ∧
  (∀ (msg : Bytes), Stands (fun t => .copyAckReceive t msg)) ∧
  (∀ (msg : Bytes), Stands (fun t => .mirrorReceive t msg)) ∧
  (∀ (msg : Bytes), Stands (fun t => .mirrorDoneReceive t msg)) ∧
  (∀ (number : Nat), Stands (fun t => .mirrorTimeout t number)) ∧
  (∀ (msg : Bytes), Stands (fun t => .relayReceive t msg)) ∧
  (∀ (msg : Bytes), Stands (fun t => .relayReplyReceive t msg)) ∧
  (∀ (msg : Bytes), Stands (fun t => .twinTriggerReceive t msg)) ∧
  (∀ (record : Bytes), Stands (fun t => .gangPartnerRecord t record)) ∧
  Stands (fun t => .yieldTimeout t) ∧
  Stands (fun t => .pairingTimeout t) ∧
  Stands (fun t => .pairFormed t) ∧
  (∀ (temps : List Int), Stands (fun t => .rotationTrigger t temps)) ∧
  (∀ (weights : List Int) (offset : Int), Stands (fun t => .converterLoanEnd t weights offset)) ∧
  (∀ (ch : Nat) (fs : Nat), Stands (fun t => .tdcSelfMeasure t ch fs)) ∧
  (∀ (pan : Nat) (vcal : Int) (senseErr : Int), Stands (fun t => .foregroundPanStart t pan vcal senseErr)) ∧
  (∀ (pan : Nat) (results : PanResults), Stands (fun t => .foregroundPanEnd t pan results)) ∧
  (∀ (group : Nat), Stands (fun t => .groupIdleTimeout t group)) ∧
  (∀ (group : Nat), Stands (fun t => .groupWake t group)) ∧
  Stands (fun t => .dormantEntry t) ∧
  Stands (fun t => .dormantExit t) ∧
  Stands (fun t => .wakeHoldExpiry t) ∧
  (∀ (op : Nat) (port : Port), Stands (fun t => .sluiceRequest t op port)) ∧
  (∀ (recovery : Bool), Stands (fun t => .sluiceGrant t recovery)) ∧
  (∀ (op : Nat), Stands (fun t => .sluiceTokenReturn t op)) ∧
  (∀ (recovery : Bool), Stands (fun t => .sluiceTimeout t recovery)) ∧
  (∀ (store : Nat) (word : Nat) (double : Bool), Stands (fun t => .eccReadError t store word double)) ∧
  Stands (fun t => .scrubPassStart t) ∧
  Stands (fun t => .scrubPassEnd t) ∧
  (∀ (die : Nat) (cause : Nat) (lanes : Nat), Stands (fun t => .afeLost t die cause lanes)) ∧
  (∀ (die : Nat), Stands (fun t => .afeEndStrobe t die)) ∧
  Stands (fun t => .watchdogExpiry t) ∧
  (∀ (i : Island), Stands (fun t => .islandDead t i)) ∧
  Stands (fun t => .fwSlotVerifyEnd t) ∧
  Stands (fun t => .localTimeLock t) ∧
  (∀ (port : Port) (bits : List Nat) (errs : List Nat), Stands (fun t => .laneTestEnd t port bits errs)) ∧
  (∀ (port : Port), Stands (fun t => .laneOffWakeTimeout t port)) ∧
  (∀ (port : Port) (lane : LaneSeen), Stands (fun t => .markerLockLost t port lane)) ∧
  (∀ (port : Port) (lane : Nat), Stands (fun t => .idleEntryBlockReceive t port lane)) ∧
  Stands (fun t => .copyAckTimeout t)

/-! ## Packets -/

/-- The bytes of a packet and the packet say the same: reading them back gives the packet with every field at every value (R20, R22), no two byte strings read as one packet, and a runt reads as none (R40). -/
def Obligations.PacketsReadBack : Prop :=
  (∀ p : Packet, packetOf (packetBytes p) = some p) ∧ (∀ (b : Bytes) (p : Packet), packetOf b = some p → packetBytes p = b) ∧ (∀ b : Bytes, packetOf b = none ↔ b.length < 16)

/-- In RESET and in BOOT no command packet does anything, over MPORT or over the fabric (R71, R90, R92): nothing is admitted, answered or kept for later. -/
def Obligations.PacketsInResetAndBootDoNothing : Prop :=
  ∀ (op : BitVec 16) (o : Origin) (c : Cmd) (s : State),
    (s.sys.hub = .reset → State.submit op o c s = s) ∧ (s.sys.hub = .boot → State.submit op o c s = { s.settle with pending := s.pending })

/-- R40, steps 2 to 11: the checks of admission in the order of the table, and the status and detail of the first that fails. A packet that fails one is answered at once and changes nothing but the counters, the fault log with its mirror, and what is to be sent. -/
def Obligations.AdmissionMakesItsChecksInOrder : Prop :=
  (∀ (s : State) (op : BitVec 16) (o : Origin) (c : Cmd),
    let ses := s.sessionById c.sessionId
    let mine := ses.filter (fun e => e.2.takes o c)
    let owner : Owner := match mine with | some e => .session e.1 | none => .ended
    s.admitError op o c = (([
      (decide (c.version ≠ 2 ∧ c.version ≠ 3) || ses.any (fun e => e.2.version != c.version), (stBadVersion, (ses.map (fun e => e.2.version.toNat)).getD 3)),
      (decide (1024 < c.paramLength.toNat) || c.paramLength.toNat != c.params.length, (stMalformed, 6)),
      (decide (8 ≤ c.flags.toNat) || (ses.any (fun e => e.2.version == 2) && cmdDryRun c), (stMalformed, 1)),
      (decide (128 ≤ c.tag.toNat), (stMalformed, 4)),
      (decide (8 ≤ c.queue.toNat), (stMalformed, 5)),
      (decide (4096 ≤ c.target.toNat), (stMalformed, 8)),
      (decide (4096 ≤ c.source.toNat), (stMalformed, 10)),
      (mine.isNone && !(c.sessionId == 0 && needsNoSession op), (stDenied, 3)),
      (mine.any (fun e => !e.2.queues.getLsbD c.queue.toNat), (stDenied, 5)),
      (mine.isSome && (s.tagHolder owner c.tag).isSome, (stTagBusy, ((s.tagHolder owner c.tag).map (fun h => h.cmd.queue.toNat)).getD 0)),
      (decide (128 ≤ s.incompletes), (stNoResource, 6))] : List (Bool × Nat × Nat)).find? (·.1)).map (·.2)) ∧
  (∀ (s : State) (op : BitVec 16) (o : Origin) (c : Cmd) (st d : Nat),
    let t := s.rejectPacket op o c st d
    t = { s with cmds := t.cmds, faults := t.faults, streams := { s.streams with arisen := t.streams.arisen, eventTimes := t.streams.eventTimes } } ∧
    t.cmds.held = s.cmds.held ∧ t.cmds.sessions = s.cmds.sessions ∧ t.cmds.changes = s.cmds.changes ∧ ∃ p, t.cmds.sent = s.cmds.sent ++ [(o, p)])

/-- R45: a command that fails a check of its start has no side effect: it ends with the first failure's status and detail, and nothing else happens. The length is judged first, then the parameters. -/
def Obligations.AFailedCheckHasNoSideEffect : Prop :=
  (∀ (s : State) (op : Op) (h : Held) (st d : Nat), s.partnerPacket h = none → (startError op h s).or (if h.mirrored then none else s.budgetError op h) = some (st, d) →
    s.startKnown op h = s.finish h.serial st d []) ∧
  (∀ (s : State) (op : Op) (h : Held), h.cmd.params.length ≠ op.need h.cmd.params →
    startError op h s = some (stMalformed, min 255 (16 + min h.cmd.params.length (op.need h.cmd.params)))) ∧
  (∀ (s : State) (op : Op) (h : Held) (i : Nat), h.cmd.params.length = op.need h.cmd.params → firstBad (op.params h s) = some i → startError op h s = some (stBadParam, i)) ∧
  (∀ (s : State) (h : Held) (d : Nat), opcodeFault h.version h.opcode = some d →
    s.startCmd h = (s.setHeld h.serial (fun k => { k with phase := .executing, started := s.now })).finish h.serial stBadOpcode d [])

/-- R52: a dry run that passes its checks is answered and changes nothing: OK where the command would be done, OK with detail 1 where it would be accepted, its own status where it would fail. Only where the answer is the partner's to give is the partner asked. -/
def Obligations.ADryRunOnlyAnswers : Prop :=
  ∀ (s : State) (op : Op) (h : Held), cmdDryRun h.cmd = true → s.partnerPacket h = none → startError op h s = none → (h.mirrored = true ∨ s.budgetError op h = none) →
    (∀ t, s.askLeave op h = some t → s.startKnown op h = s.finish h.serial stOk 1 []) ∧
    (s.askLeave op h = none →
      (∀ t, op.run h s = .asks t → s.startKnown op h = t) ∧
      ((∀ t, op.run h s ≠ .asks t) →
        ∃ (st d : Nat) (r : Bytes), s.startKnown op h = s.finish h.serial st d r ∧
          (∀ d' r' t, op.run h s = .done d' r' t → (st, d, r) = (stOk, d', [])) ∧ (∀ r' t, op.run h s = .accepted r' t → (st, d, r) = (stOk, 1, [])) ∧
          (∀ t, op.run h s = .holds t → (st, d, r) = (stOk, 0, [])) ∧ (∀ st' d' r' t, op.run h s = .stopped st' d' r' t → (st, d, r) = (st', d', [])) ∧
          (∀ st' d', op.run h s = .fail st' d' → (st, d, r) = (st', d', [])) ∧ (∀ st' d' r', op.run h s = .failWith st' d' r' → (st, d, r) = (st', d', r'))))

/-- R51: in a queue a FENCE command is next to start only when every earlier command of the queue has its final status and its reply has left (R44); it ends ABORTED with detail 3 if a predecessor since the last FENCE failed, and otherwise runs. -/
def Obligations.AFenceWaitsForItsQueue : Prop :=
  (∀ (l : List Held) (h : Held), nextStart l [] [] = some (h, false) → h.removed = false → cmdFence h.cmd = true →
    ∃ a b, l = a ++ h :: b ∧ ∀ k ∈ a, k.line = h.line → k.incomplete = false ∧ k.replyOut = none) ∧
  (∀ (s : State) (h : Held) (q : Nat), h.removed = false → cmdFence h.cmd = true → h.line = some q →
    ((Tbl.get {} s.cmds.fences q).failed.contains h.segment = true →
      s.startQueued h = (s.setHeld h.serial (fun k => { k with phase := .executing, started := s.now })).finish h.serial stAborted 3 []) ∧
    ((Tbl.get {} s.cmds.fences q).failed.contains h.segment = false → s.startQueued h = s.startCmd h))

/-- R55: a broadcast that has a source or a session, or whose opcode is not broadcast-capable, or that fails its checks, is refused: it counts once in CMD_CNT_BCAST_REJECT, writes one fault-log entry and is not answered. No opcode of group 0x00 is broadcast-capable. -/
def Obligations.BroadcastsAreRefusedInSilence : Prop :=
  (∀ (op : BitVec 16) (b : Bytes) (e : Op), op.toNat < 256 → opEntry op = some e → e.bcast b = false) ∧
  (∀ (s : State) (op : BitVec 16) (o : Origin) (c : Cmd), c.source ≠ 0 ∨ c.sessionId ≠ 0 ∨ (opEntry op).any (fun e => e.bcast c.params) = false →
    ∃ st, s.broadcast op o c = s.refuseBroadcast op c st) ∧
  (∀ (s : State) (op : BitVec 16) (c : Cmd) (st : Nat),
    let t := s.refuseBroadcast op c st
    t.cmds = (s.count 11).cmds ∧ t.faults.nextSerial = (s.faults.nextSerial + 1) % 2 ^ 32 ∧
    t = { s with cmds := t.cmds, faults := t.faults, streams := { s.streams with arisen := t.streams.arisen, eventTimes := t.streams.eventTimes } })

/-- R26: the param_length of a reply counts the 4-byte status block plus the result parameters, and never exceeds 1024 bytes; whatever the command and the result. -/
def Obligations.RepliesCountTheirParameters : Prop :=
  ∀ (s : State) (op : BitVec 16) (c : Cmd) (v : Byte) (id : BitVec 32) (st d : Nat) (res : Bytes),
    let p := replyPacket s op c v id st d res
    p.cmd.paramLength.toNat = p.cmd.params.length ∧ p.cmd.params.length ≤ 1024 ∧ p.cmd.params.take 4 = statusBlock v st d s.sys.hub ∧
    ∃ n, p.cmd.params.drop 4 = res.take n ∧ (¬(op = 0x0001 ∧ v = 2) → n = 1020)

/-- R25: a reply copies opcode, tag, queue and flags bits 2 to 0 and sets bit 7, with the version and session id under which its command was admitted, from the hub to the command's source, whose reserved bits it sends as 0 (R9); it leaves by the path on which the command came (R21), and stands as the command's reply until it has left. -/
def Obligations.RepliesCopyTheirCommand : Prop :=
  ∀ (s : State) (h : Held) (st d : Nat) (res : Bytes), (∃ n, h.owner = .session n) ∨ h.owner = .ended →
    ∃ p : Packet, s.reply h st d res = (s.emit h.origin p).setHeld h.serial (fun k => { k with replyOut := some (h.origin, packetBytes p) }) ∧ p.opcode = h.opcode ∧ p.cmd.tag = h.cmd.tag ∧ p.cmd.queue = h.cmd.queue ∧
      (∀ i, i < 3 → p.cmd.flags.getLsbD i = h.cmd.flags.getLsbD i) ∧ (∀ i, 3 ≤ i → i < 7 → p.cmd.flags.getLsbD i = false) ∧ p.cmd.flags.getLsbD 7 = true ∧
      p.cmd.version = h.version ∧ p.cmd.target = h.cmd.source &&& 0x0FFF ∧ p.cmd.source.toNat = s.fabric.address.toNat ∧ p.cmd.sessionId = h.replyId

/-- R28: the notice tag counter of a session starts at 128 when HELLO completes, each notice carries it and advances it by one, and it wraps from 255 to 128; every other session keeps its own. -/
def Obligations.NoticeTagsCountPerSession : Prop :=
  (∀ (h : Held) (s t : State) (d : Nat) (r : Bytes), runHello h s = .done d r t → ∃ slot ses, s.cmds.sessions.lookup slot = none ∧ t.cmds.sessions.lookup slot = some ses ∧ ses.noticeTag = 128) ∧
  (∀ (s : State) (slot : Nat) (ses : Session) (op : BitVec 16) (f q : Byte) (st d : Nat) (b : Bytes), s.cmds.sessions.lookup slot = some ses →
    let t := s.notice slot op f q st d b
    t.cmds.sessions.lookup slot = some { ses with noticeTag := if ses.noticeTag = 255 then 128 else ses.noticeTag + 1 } ∧
    (∀ k, k ≠ slot → t.cmds.sessions.lookup k = s.cmds.sessions.lookup k) ∧
    ∃ p : Packet, t.cmds.sent = s.cmds.sent ++ [(ses.origin, p)] ∧ p.cmd.tag = BitVec.ofNat 8 ses.noticeTag ∧ p.opcode = op ∧ p.cmd.flags.getLsbD 7 = true)

/-- R58: a query reads and changes nothing: its answer leaves the state that it found. Named apart are those that zero what they count when asked to, LANE_GET_EQ, whose eye estimates are free values, and FLASH_READ, which may wait for an operation or suspend one. -/
def Obligations.QueriesReadAndChangeNothing : Prop :=
  ∀ (op : BitVec 16) (e : Op) (h : Held) (s : State), isQuery op.toNat = true → opEntry op = some e →
    op.toNat ∉ [0x0404, 0x0502, 0x0602, 0x0702, 0x0802, 0x0804, 0x0902, 0x0982, 0x0983, 0x0B02, 0x0D02, 0x0E03, 0x0F03, 0x1003] →
    ∃ d r, e.run h s = .done d r s

/-- Finishing a command touches the admitted commands, the counters, the sessions' notices and what is to be sent; for what the partner brought, the messages to it and their notice tags; for a broadcast, the fault log with its mirror (R21, R42, R48, R55). Registers, streams and settings are as before. -/
def Obligations.FinishingTouchesOnlyTheCommandProcessor : Prop :=
  ∀ (s : State) (serial status detail : Nat) (r : Bytes),
    let t := s.finish serial status detail r
    t = { s with cmds := t.cmds, twin := { s.twin with outbox := t.twin.outbox, relayTag := t.twin.relayTag }, faults := t.faults, streams := { s.streams with arisen := t.streams.arisen, eventTimes := t.streams.eventTimes } } ∧
    t.cmds.changes = s.cmds.changes ∧ (∀ h, s.heldOf serial = some h → h.owner ≠ .broadcast → t.faults = s.faults ∧ t.streams = s.streams)

/-! ## State, faults and settings -/

/-- R73: a change of state records old and new state, reason and time, heads the history of 16, and raises one class 1 EVENT entry; every session that asked for it gets NOTICE_STATE, and nothing but commands to send and the time of the newest entry of that class (R319) is touched besides. -/
def Obligations.StateChangesAreRecorded : Prop :=
  ∀ (s : State) (new : HubState) (reason : Nat),
    let t := s.go new reason
    let x : Transition := { old := s.sys.hub, new, reason, time := s.now }
    t.sys = { s.sys with hub := new, old := s.sys.hub, reason, changedAt := s.now, history := (x :: s.sys.history).take 16 } ∧
    t = { s with sys := t.sys, cmds := t.cmds, streams := { s.streams with arisen := t.streams.arisen, eventTimes := t.streams.eventTimes } } ∧
    t.streams.arisen.length = s.streams.arisen.length + 1 ∧ t.cmds.held = s.cmds.held

/-- R157: a change takes its place after every change accepted before it for the same or an earlier epoch, and before those of later epochs; the others keep their order. -/
def Obligations.ChangesStandInOrder : Prop :=
  ∀ (c : Change) (l : List Change), l.Pairwise (fun a b => a.epoch ≤ b.epoch) →
    ∃ a b, l = a ++ b ∧ insertChange c l = a ++ c :: b ∧ (∀ x ∈ a, x.epoch ≤ c.epoch) ∧ (∀ x ∈ b, c.epoch < x.epoch)

/-- The frame of the settings of single channels (PAN_SET_GAIN, PAN_SET_FILTER, GRID_SET_DELAY): at their epoch config_gen advances by one (R157), the channels named change, and every other channel, and everything but the table of channels, is as before. The value written is the one given. -/
def Obligations.ChannelSettingsTouchOnlyTheirChannels : Prop :=
  ∀ (s : State) (c : Change), c.opcode = 0x0211 ∨ c.opcode = 0x0212 ∨ c.opcode = 0x0313 →
    let t := (s.applyChange c).1
    let first := u16 c.params 0
    let count := u16 c.params 2
    t = { s with sys := { s.sys with configGen := s.sys.configGen + 1 }, front := { s.front with chans := t.front.chans } } ∧
    (∀ ch, ch < first ∨ first + count ≤ ch → t.chan ch = s.chan ch) ∧
    (∀ i, i < count →
      let x := t.chan (first + i)
      let y := s.chan (first + i)
      (c.opcode = 0x0211 → x.gain = u8 c.params (12 + i) ∧ x.filter = y.filter ∧ x.userDelay = y.userDelay) ∧
      (c.opcode = 0x0212 → x.filter = (u8 c.params (12 + i) == 1) ∧ x.gain = y.gain ∧ x.userDelay = y.userDelay) ∧
      (c.opcode = 0x0313 → x.userDelay = i8 c.params (12 + i) ∧ x.gain = y.gain ∧ x.filter = y.filter))

/-- R523: a fault-log entry takes the serial and advances it by one; it goes to slot serial mod 256, or where that holds a pinned entry to the next slot that holds none; every other slot keeps its entry, so that a pinned one stays, and a Fatal entry is pinned. -/
def Obligations.TheFaultLogKeepsPinnedEntries : Prop :=
  ∀ (s : State) (code inst d0 d1 : Nat),
    let t := s.logFault code inst d0 d1
    let n := s.faults.nextSerial
    let pinned := fun (k : Nat) => (s.faults.log.lookup k).any (·.pinned) = true
    let slot := freeSlot s.faults.log n 256
    t.faults.nextSerial = (n + 1) % 2 ^ 32 ∧
    (∃ e, t.faults.log.lookup slot = some e ∧ e.serial = n ∧ e.code = code ∧ (e.pinned = true ↔ faultClass code = 5)) ∧
    (∀ k, k ≠ slot → t.faults.log.lookup k = s.faults.log.lookup k) ∧
    (∀ k, k < 256 → ¬ pinned ((n + k) % 256) → (∀ j, j < k → pinned ((n + j) % 256)) → slot = (n + k) % 256)

/-! ## The data path -/

/-- R116, R117: at a slot boundary a pan serves, of its first four urgent requests (the ones that wait, R116), the first handover that can be served; only with none, the first spot conversion in the order of arrival. -/
def Obligations.HandoversGoBeforeSpots : Prop :=
  ∀ (x : Pan) (f : PanFrame) (n : Nat) (u : Urgent), nextUrgent x f n = some u →
    urgentServable x f n u = true ∧ ∃ a b, x.urgent = a ++ u :: b ∧ a.length < 4 ∧ (∀ v ∈ a, v.isHandover = u.isHandover → urgentServable x f n v = false) ∧
      (u.isHandover = false → ∀ v ∈ x.urgent.take 4, v.isHandover = true → urgentServable x f n v = false)

/-- R146: the strobe message for an instant T names the last cycle of the counter, at its present increment, not after T − L − 1 ns, and the residual to it in τ of 2^−7 ns, rounded to even: from 0 to 128 while inc is within the limits of R400. The names are the model's reading of time(c) for cycles to come (DEDUCED). -/
def Obligations.StrobesNameTheLastCycle : Prop :=
  ∀ (s : State) (k time : Nat), 0 < s.time.inc → s.time.inc ≤ 2 ^ 40 + 2 ^ 40 / 2000 → s.time.counter + s.lead * 2 ^ 33 ≤ (time - 1) * 2 ^ 40 →
    let m := s.strobeFor k time
    let target := (time - 1) * 2 ^ 40 - s.lead * 2 ^ 33
    m.k = k ∧ m.time = time ∧ (∃ j, m.cycle = s.time.counter + j * s.time.inc) ∧ m.cycle ≤ target ∧ target < m.cycle + s.time.inc ∧
    m.resid ≤ 128 ∧ 2 * m.resid * 2 ^ 33 ≤ 2 * (target - m.cycle) + 2 ^ 33 ∧ 2 * (target - m.cycle) ≤ 2 * m.resid * 2 ^ 33 + 2 ^ 33 ∧
    (2 * m.resid * 2 ^ 33 = 2 * (target - m.cycle) + 2 ^ 33 ∨ 2 * (target - m.cycle) = 2 * m.resid * 2 ^ 33 + 2 ^ 33 → m.resid % 2 = 0)

/-- R461, R106: the sample code is the correction of the converter's code by the path's offsets and gain of the live image, rounded once to even, clipped to 18 bits; it is flagged as clipped exactly at the two ends. A path with no correction passes the code on. -/
def Obligations.SampleCodesAreCorrectedAndClipped : Prop :=
  ∀ (s : State) (a g : Nat) (c : Int),
    let o := s.calI16 a + roundEven (s.calI16 (a + 2) * 2 ^ g) 128
    let x := roundEven ((16 * c - o) * (2 ^ 20 + s.calI16 (a + 4 + 2 * g))) (2 ^ 24)
    let y := (s.sampleCode a g c).1
    (x > 131071 → y = 131071) ∧ (x < -131072 → y = -131072) ∧ (-131072 ≤ x → x ≤ 131071 → y = x) ∧
    ((s.sampleCode a g c).2 = true ↔ y = 131071 ∨ y = -131072) ∧
    (s.calI16 a = 0 → s.calI16 (a + 2) = 0 → s.calI16 (a + 4 + 2 * g) = 0 → -131072 ≤ c → c ≤ 131071 → y = c)

/-- R171, R401: rounding is to the nearest, ties to even, for every numerator and divisor, and shift_round_sat rounds by a power of two and saturates to 24 bits exactly when the rounded value lies outside them. R180: the i-th output of a fade of L is the blend with w = floor(i × 65,536 / L); the L-th is the new value; between two 24-bit values the blend never saturates and never leaves them. -/
def Obligations.RoundingAndFadesAreExact : Prop :=
  (∀ (a : Int) (b : Nat), 0 < b →
    let q := roundEven a b
    2 * (q * b - a) ≤ b ∧ 2 * (a - q * b) ≤ b ∧ (2 * (q * b - a) = b ∨ 2 * (a - q * b) = b → q % 2 = 0)) ∧
  (∀ (a : Int) (n : Nat),
    let q := roundEven a (2 ^ n)
    shiftRoundSat a n = if 8388607 < q then (8388607, true) else if q < -8388608 then (-8388608, true) else (q, false)) ∧
  ∀ (old new : Int) (i len : Nat), 1 ≤ i → i ≤ len → -8388608 ≤ old → old ≤ 8388607 → -8388608 ≤ new → new ≤ 8388607 →
    let w : Int := ((i * 65536 / len : Nat) : Int)
    let y := fadeOutput old new i len
    (y, false) = shiftRoundSat (old * (65536 - w) + new * w) 16 ∧ min old new ≤ y ∧ y ≤ max old new ∧ (i = len → y = new)

/-- R274 to R288: a compression lane loses nothing. Every block of 1 to 256 samples of 18 or 24 bits that the coder codes, whatever the predictors allowed, fresh or not, decodes to its samples, given the history and the reference samples that the coder used. -/
def Obligations.CodedBlocksDecodeToTheirSamples : Prop :=
  ∀ (w mask left : Nat) (pair : Bool) (c : BlockContext) (xs : List Int) (ref : Bool → Int → Option Int),
    w = 18 ∨ w = 24 → 1 ≤ xs.length → xs.length ≤ 256 → xs.length ≤ left → samplesFit w xs = true → c.hist.length = 3 → samplesFit w c.hist = true →
    (∀ ys, c.ys = some ys → ys.length = xs.length ∧ samplesFit w ys = true ∧ ∀ (b : Bool) (i : Nat), i < xs.length → ref b i = ys[i]?) →
    (∀ y, c.y1 = some y → samplesFit w [y] = true ∧ ∀ b : Bool, ref b (-1) = some y) →
    ∃ k : Block, decodeBlock w left (some c.hist) ref (codeBlock w mask pair c xs).1 = .ok k ∧ k.samples = xs ∧ k.fresh = c.fresh ∧ 4 * k.words = (codeBlock w mask pair c xs).1.length

/-- R431: outside RESET and BOOT a TRIP output without duty, or not enabled, shows its inactive level, which is its polarity bit; an output is active only while a channel routed to it is in alarm. -/
def Obligations.TripOutputsNeedAnAlarmAndDuty : Prop :=
  ∀ (s : State) (k : Nat), k < 4 → s.sys.hub ≠ .reset → s.sys.hub ≠ .boot →
    (s.mayIssue = false ∨ s.front.tripEnable.getLsbD k = false → s.tripLevels.getLsbD k = s.front.tripPolarity.getLsbD k) ∧
    (s.tripLevels.getLsbD k ≠ s.front.tripPolarity.getLsbD k → ∃ e ∈ s.front.chans, e.2.alarm ≠ .none ∧ e.2.route.getLsbD k = true ∧ s.dieLost (dieOf (panOf e.1)) = false)

/-! ## Fabric, time, power and safety -/

/-- R380: of the sequenced frames that reach a link that is up, intact, one whose link_seq is expected and that passes every check is accepted, advances the expected value by one and is acknowledged; one behind it is acknowledged again and nothing else; any other is refused with NAK. -/
def Obligations.FramesAreAcceptedInSequence : Prop :=
  ∀ (s : State) (p : Port) (f : Frame) (type : Nat), s.receives p = true → s.linkUp p = true → f.intact = true →
    f.type.toNat = type ∨ (type = 1 ∧ (f.type.toNat < 2 ∨ 10 < f.type.toNat)) →
    let u := (s.gotFrame p).takeAck p f.ack.toNat
    let n := (u.link p).rxNext
    n < 65536 →
    (f.linkSeq.toNat = n → u.nakReason p f = 0 →
      ∃ v : State, s.acceptFrame p f type = (true, v.sendAck p) ∧ (v.link p).rxNext = (n + 1) % 65536 ∧ ∃ g : Link → Link, v = u.setLink p g) ∧
    (32768 ≤ (f.linkSeq.toNat + 65536 - n) % 65536 → s.acceptFrame p f type = (false, u.sendAck p)) ∧
    ((f.linkSeq.toNat + 65536 - n) % 65536 < 32768 → u.nakReason p f ≠ 0 → s.acceptFrame p f type = (false, u.refuseFrame p f (u.nakReason p f))) ∧
    (f.linkSeq.toNat ≠ n → u.nakReason p f = 2)

/-- R399, R400: outside RESET one GRID cycle adds inc to the counter, which wraps at 2^64 ns, unless it brings a reset commanded before or the end of a spot conversion; inc stands, unless a local reference has just gone (R427); inc is held within 1.0 ± 500 ppm, and every sum beyond is clamped and counted. -/
def Obligations.TheCounterTakesItsIncrement : Prop :=
  (∀ s : State, s.sys.hub ≠ .reset → s.cmds.resetAfter = none → (∀ e ∈ s.front.pans, e.2.spot = none) → (s.sys.localMode = true → s.time.fellBack = true ∨ s.time.source = 0) → s.pending = [] → ∃ t, step s = .next t ∧ t.time.counter = (s.time.counter + s.time.inc) % 2 ^ 104 ∧ t.time.inc = s.time.inc) ∧
  (∀ (s : State) (x : Int),
    let t := s.setInc x
    let lo : Int := 2 ^ 40 - 2 ^ 40 / 2000
    let hi : Int := 2 ^ 40 + 2 ^ 40 / 2000
    lo ≤ t.time.inc ∧ (t.time.inc : Int) ≤ hi ∧ (lo ≤ x → x ≤ hi → (t.time.inc : Int) = x ∧ t.time.clamps = s.time.clamps) ∧
    (x < lo → (t.time.inc : Int) = lo) ∧ (hi < x → (t.time.inc : Int) = hi) ∧ (x < lo ∨ hi < x → t.time.clamps = min (2 ^ 32 - 1) (s.time.clamps + 1)))

/-- R492: the sluice grants a normal request exactly when it heads the normal queue, no recovery request waits and its cost fits within the budget less the tokens in use on every rail it names; a recovery request exactly when it heads the recovery queue and fits within budget plus reserve. -/
def Obligations.TheSluiceGrantsTheHeadThatFits : Prop :=
  ∀ (x : Sluice) (r : Request) (recovery : Bool), (∀ q ∈ x.normal, q.recovery = false) → (∀ q ∈ x.recovery, q.recovery = true) →
    (x.grantable recovery = some r ↔
      (∃ rest, (if recovery then x.recovery else x.normal) = r :: rest) ∧ (recovery = false → x.recovery = []) ∧
      (r.cost.vdd ≠ 0 → x.inUse.vdd + r.cost.vdd ≤ x.budget.vdd + (if recovery then x.reserve.vdd else 0)) ∧
      (r.cost.av ≠ 0 → x.inUse.av + r.cost.av ≤ x.budget.av + (if recovery then x.reserve.av else 0)) ∧
      (r.cost.vdds ≠ 0 → x.inUse.vdds + r.cost.vdds ≤ x.budget.vdds + (if recovery then x.reserve.vdds else 0)))

/-- R510: a channel commands an output high only while all that the rule lists holds: a set in force, every masked input pair in the run state in its own half and in the partner's latest, the demand latch clear, no fault latched for the pair or the channel, hub-enable high, and no test pulse of its own on the pair. -/
def Obligations.SafetyOutputsNeedEveryCondition : Prop :=
  ∀ (c : SafeCh) (x : SafeChan) (k : Nat), (SafeChan.command c x).cmd.testBit k = true →
    k < 4 ∧ x.held = false ∧ x.set.isSome = true ∧ (∀ i ∈ x.masked k, x.ownRuns c i = true ∧ x.partnerRuns c i = true) ∧ x.demand.testBit k = false ∧
    x.latches = 0 ∧ x.readback.testBit k = false ∧ (∀ i ∈ x.masked k, x.disc.testBit i = false) ∧ x.enable = true ∧ x.pulsing k = false

/-! ## Serial ports and memories -/

/-- R545: a frame that is rejected writes nothing, clears no fresh bit and changes no ring: only SP0_REJECTS advances, and the next status word carries FRAME_ERR and the reason. -/
def Obligations.RejectedFramesWriteNothing : Prop :=
  ∀ (s : State) (f : SpiFrame) (master : Bool), s.rejection f master ≠ 0 →
    let t := s.frame f master
    t = { s with serial := { s.serial with counters := t.serial.counters, reason := t.serial.reason, readEnd := false, writeEnd := false, driven := [s.statusWord] } } ∧
    Tbl.get 0 t.serial.counters 1 = min (2 ^ 32 - 1) (Tbl.get 0 s.serial.counters 1 + 1) ∧ (∀ i, i ≠ 1 → Tbl.get 0 t.serial.counters i = Tbl.get 0 s.serial.counters i) ∧
    t.statusWord % 2 = 1 ∧ t.statusWord / 2 % 8 = s.rejection f master

/-- R551, R552: what is bound for MPORT is never dropped: it follows what the reply ring and the held packets contain, in order; it enters the ring only where there is room, and while a packet is held the hub reads no command entry. -/
def Obligations.RepliesOverTheRingAreNeverDropped : Prop :=
  (∀ (s : State) (b : Bytes), (s.appendReply b).serial.replies ++ (s.appendReply b).serial.held = s.serial.replies ++ s.serial.held ++ [b]) ∧
  (∀ s : State, s.replyAppend.serial.replies ++ s.replyAppend.serial.held = s.serial.replies ++ s.serial.held) ∧
  (∀ (s : State) (b : Bytes), (s.serial.replies.map entrySize).sum ≤ 16384 →
    ((s.appendReply b).serial.replies.map entrySize).sum ≤ 16384 ∧ (s.replyAppend.serial.replies.map entrySize).sum ≤ 16384) ∧
  (∀ s : State, s.serial.held ≠ [] → s.ringRead = s)

/-- The frame of the MPORT frames (R544 to R551): a frame that is committed or rejected touches the state of the serial ports, the sequence results whose fresh bits a READ takes, and the calibration image's window and staging copy: nothing else. A NOP, a push, a pull and a rejected frame touch the serial ports alone. -/
def Obligations.SerialFramesTouchOnlyTheirBlocks : Prop :=
  ∀ (s : State) (f : SpiFrame) (master : Bool),
    let t := s.frame f master
    t = { s with serial := t.serial, front := { s.front with results := t.front.results }, cal := { s.cal with page := t.cal.page, view := t.cal.view, staging := t.cal.staging, stagedChanged := t.cal.stagedChanged } } ∧
    (headerOp (spiHeader f) = 0 ∨ headerOp (spiHeader f) = 3 ∨ s.rejection f master ≠ 0 → t = { s with serial := t.serial }) ∧
    (headerOp (spiHeader f) = 1 → t.cal = s.cal) ∧ (headerOp (spiHeader f) = 2 → t.front = s.front) ∧
    t.serial.flash = s.serial.flash

/-- A register that the map gives no behaviour on a write, and every read-only one, is unchanged by a write to its address, as the whole state is (R9, R548). A write through the calibration window puts its four bytes at the page's place in the staging image and nowhere else, keeps the memory's canonical form, and sets the flag of staged changes; nothing else changes (R478, R479). -/
def Obligations.RegisterWritesTouchOnlyTheirRegister : Prop :=
  (∀ (s : State) (a v : Nat), ¬(0x2000 ≤ a ∧ a < 0x2FF0) → a ∉ [0x0200, 0x0208, 0x040C, 0x2FF0, 0x3000, 0x4070] → s.writeReg a v = s) ∧
  ∀ (s : State) (a v : Nat), 0x2000 ≤ a → a < 0x2FF0 → Mem.wf nominalByte s.cal.staging = true →
    let t := s.writeReg a v
    let at' := 4096 * s.cal.page + (a - 0x2000)
    t = { s with cal := { s.cal with staging := t.cal.staging, stagedChanged := true } } ∧ Mem.wf nominalByte t.cal.staging = true ∧
    (∀ i, i < 4 → t.stagingByte (at' + i) = BitVec.ofNat 8 (v / 256 ^ i)) ∧ (∀ q, q < at' ∨ at' + 4 ≤ q → t.stagingByte q = s.stagingByte q)

/-- R556, R557: a flash operation that its status register shows done has changed the bytes of its region and no others: an erased sector reads 0xFF, a programmed byte the and of what it held with the data (PRESUMED: the flash part's own rule); the memory keeps its canonical form. While the busy bit is set nothing changes but the status read. -/
def Obligations.FlashOperationsChangeTheirRegion : Prop :=
  ∀ (s : State) (o : FlashOp) (status : Byte), s.flashRuns = some o → Mem.wf (fun _ => 0xFF) s.serial.flash = true →
    let t := s.flashDone status
    let a := s.flashAddr o.addr
    let n := if o.erase then o.size else o.data.length
    (status.getLsbD 0 = true → t = { s with serial := { s.serial with status := status } }) ∧
    (status.getLsbD 0 = false → Mem.wf (fun _ => 0xFF) t.serial.flash = true ∧
      (o.erase = true → ∀ i, i < o.size → t.flashByte (a + i) = 0xFF) ∧
      (o.erase = false → ∀ i, i < o.data.length → t.flashByte (a + i) = o.data.getD i 0 &&& s.flashByte (a + i)) ∧
      (∀ q, q < a ∨ a + n ≤ q → t.flashByte q = s.flashByte q))
end

