-- ==== Sys2Proof/Laws/Blocks.lean ====
section
/-! SUPPORT. What the receiver's descrambler does (R346). -/
namespace Sys2Proof.Machine

open Sys2Proof

/-- The descrambler undoes the scrambler when both start from the same 58 bits. -/
theorem descramble_scramble (b h : List Bool) : descramble (scramble b h) h = b := by
  induction b generalizing h with
  | nil => rfl
  | cons x r ih => simp [scramble, descramble, ih]

/-- Both leave as many bits as they take. -/
theorem scramble_length (b h : List Bool) : (scramble b h).length = b.length := by
  induction b generalizing h with
  | nil => rfl
  | cons x r ih => simp [scramble, ih]

end Sys2Proof.Machine
end

