-- ==== Sys2Proof/Laws/State.lean ====
section
/-! SUPPORT. What the named updates of a state leave alone: one lemma for each update and each component of `State`, and what a table of numbered things reads after one of its entries has changed. -/
namespace Sys2Proof.Machine

open Sys2Proof

/-! ## Tables of numbered things -/

theorem Tbl.get_cons {α : Type} (d : α) (k : Nat) (v : α) (t : Tbl α) (q : Nat) : Tbl.get d ((k, v) :: t) q = if q = k then v else Tbl.get d t q := by
  unfold Tbl.get
  rw [List.lookup_cons]
  split <;> simp_all

theorem Tbl.get_set_same {α : Type} (d : α) (t : Tbl α) (k : Nat) (v : α) : Tbl.get d (Tbl.set t k v) k = v := by
  induction t with
  | nil => simp [Tbl.set, Tbl.get_cons]
  | cons e r ih =>
    obtain ⟨k', v'⟩ := e
    unfold Tbl.set
    split
    · simp [Tbl.get_cons]
    · split
      · simp [Tbl.get_cons]
      · rename_i h; simp [Tbl.get_cons, h, ih]

theorem Tbl.get_set_other {α : Type} (d : α) (t : Tbl α) {k q : Nat} (v : α) (h : q ≠ k) : Tbl.get d (Tbl.set t k v) q = Tbl.get d t q := by
  induction t with
  | nil => simp [Tbl.set, Tbl.get_cons, h]
  | cons e r ih =>
    obtain ⟨k', v'⟩ := e
    unfold Tbl.set
    split
    · simp [Tbl.get_cons, h]
    · split
      · rename_i h2; simp [Tbl.get_cons, h, ← h2]
      · simp [Tbl.get_cons, ih]

theorem Tbl.get_modify_same {α : Type} (d : α) (t : Tbl α) (k : Nat) (f : α → α) : Tbl.get d (Tbl.modify d t k f) k = f (Tbl.get d t k) :=
  Tbl.get_set_same d t k _

theorem Tbl.get_modify_other {α : Type} (d : α) (t : Tbl α) {k q : Nat} (f : α → α) (h : q ≠ k) : Tbl.get d (Tbl.modify d t k f) q = Tbl.get d t q :=
  Tbl.get_set_other d t _ h

/-! ## Updates and components -/

@[simp] theorem State.setSys_pending (s : State) (f : Sys → Sys) : (s.setSys f).pending = s.pending := rfl
@[simp] theorem State.setSys_cmds (s : State) (f : Sys → Sys) : (s.setSys f).cmds = s.cmds := rfl
@[simp] theorem State.setSys_front (s : State) (f : Sys → Sys) : (s.setSys f).front = s.front := rfl
@[simp] theorem State.setSys_mash (s : State) (f : Sys → Sys) : (s.setSys f).mash = s.mash := rfl
@[simp] theorem State.setSys_capture (s : State) (f : Sys → Sys) : (s.setSys f).capture = s.capture := rfl
@[simp] theorem State.setSys_edges (s : State) (f : Sys → Sys) : (s.setSys f).edges = s.edges := rfl
@[simp] theorem State.setSys_streams (s : State) (f : Sys → Sys) : (s.setSys f).streams = s.streams := rfl
@[simp] theorem State.setSys_kiln (s : State) (f : Sys → Sys) : (s.setSys f).kiln = s.kiln := rfl
@[simp] theorem State.setSys_feed (s : State) (f : Sys → Sys) : (s.setSys f).feed = s.feed := rfl
@[simp] theorem State.setSys_fabric (s : State) (f : Sys → Sys) : (s.setSys f).fabric = s.fabric := rfl
@[simp] theorem State.setSys_time (s : State) (f : Sys → Sys) : (s.setSys f).time = s.time := rfl
@[simp] theorem State.setSys_twin (s : State) (f : Sys → Sys) : (s.setSys f).twin = s.twin := rfl
@[simp] theorem State.setSys_cal (s : State) (f : Sys → Sys) : (s.setSys f).cal = s.cal := rfl
@[simp] theorem State.setSys_power (s : State) (f : Sys → Sys) : (s.setSys f).power = s.power := rfl
@[simp] theorem State.setSys_sluice (s : State) (f : Sys → Sys) : (s.setSys f).sluice = s.sluice := rfl
@[simp] theorem State.setSys_faults (s : State) (f : Sys → Sys) : (s.setSys f).faults = s.faults := rfl
@[simp] theorem State.setSys_safety (s : State) (f : Sys → Sys) : (s.setSys f).safety = s.safety := rfl
@[simp] theorem State.setSys_serial (s : State) (f : Sys → Sys) : (s.setSys f).serial = s.serial := rfl
@[simp] theorem State.setSys_sys (s : State) (f : Sys → Sys) : (s.setSys f).sys = f s.sys := rfl

@[simp] theorem State.setTwin_pending (s : State) (f : Twin → Twin) : (s.setTwin f).pending = s.pending := rfl
@[simp] theorem State.setTwin_sys (s : State) (f : Twin → Twin) : (s.setTwin f).sys = s.sys := rfl
@[simp] theorem State.setTwin_cmds (s : State) (f : Twin → Twin) : (s.setTwin f).cmds = s.cmds := rfl
@[simp] theorem State.setTwin_front (s : State) (f : Twin → Twin) : (s.setTwin f).front = s.front := rfl
@[simp] theorem State.setTwin_mash (s : State) (f : Twin → Twin) : (s.setTwin f).mash = s.mash := rfl
@[simp] theorem State.setTwin_capture (s : State) (f : Twin → Twin) : (s.setTwin f).capture = s.capture := rfl
@[simp] theorem State.setTwin_edges (s : State) (f : Twin → Twin) : (s.setTwin f).edges = s.edges := rfl
@[simp] theorem State.setTwin_streams (s : State) (f : Twin → Twin) : (s.setTwin f).streams = s.streams := rfl
@[simp] theorem State.setTwin_kiln (s : State) (f : Twin → Twin) : (s.setTwin f).kiln = s.kiln := rfl
@[simp] theorem State.setTwin_feed (s : State) (f : Twin → Twin) : (s.setTwin f).feed = s.feed := rfl
@[simp] theorem State.setTwin_fabric (s : State) (f : Twin → Twin) : (s.setTwin f).fabric = s.fabric := rfl
@[simp] theorem State.setTwin_time (s : State) (f : Twin → Twin) : (s.setTwin f).time = s.time := rfl
@[simp] theorem State.setTwin_cal (s : State) (f : Twin → Twin) : (s.setTwin f).cal = s.cal := rfl
@[simp] theorem State.setTwin_power (s : State) (f : Twin → Twin) : (s.setTwin f).power = s.power := rfl
@[simp] theorem State.setTwin_sluice (s : State) (f : Twin → Twin) : (s.setTwin f).sluice = s.sluice := rfl
@[simp] theorem State.setTwin_faults (s : State) (f : Twin → Twin) : (s.setTwin f).faults = s.faults := rfl
@[simp] theorem State.setTwin_safety (s : State) (f : Twin → Twin) : (s.setTwin f).safety = s.safety := rfl
@[simp] theorem State.setTwin_serial (s : State) (f : Twin → Twin) : (s.setTwin f).serial = s.serial := rfl
@[simp] theorem State.setTwin_twin (s : State) (f : Twin → Twin) : (s.setTwin f).twin = f s.twin := rfl

@[simp] theorem State.setCal_pending (s : State) (f : Cal → Cal) : (s.setCal f).pending = s.pending := rfl
@[simp] theorem State.setCal_sys (s : State) (f : Cal → Cal) : (s.setCal f).sys = s.sys := rfl
@[simp] theorem State.setCal_cmds (s : State) (f : Cal → Cal) : (s.setCal f).cmds = s.cmds := rfl
@[simp] theorem State.setCal_front (s : State) (f : Cal → Cal) : (s.setCal f).front = s.front := rfl
@[simp] theorem State.setCal_mash (s : State) (f : Cal → Cal) : (s.setCal f).mash = s.mash := rfl
@[simp] theorem State.setCal_capture (s : State) (f : Cal → Cal) : (s.setCal f).capture = s.capture := rfl
@[simp] theorem State.setCal_edges (s : State) (f : Cal → Cal) : (s.setCal f).edges = s.edges := rfl
@[simp] theorem State.setCal_streams (s : State) (f : Cal → Cal) : (s.setCal f).streams = s.streams := rfl
@[simp] theorem State.setCal_kiln (s : State) (f : Cal → Cal) : (s.setCal f).kiln = s.kiln := rfl
@[simp] theorem State.setCal_feed (s : State) (f : Cal → Cal) : (s.setCal f).feed = s.feed := rfl
@[simp] theorem State.setCal_fabric (s : State) (f : Cal → Cal) : (s.setCal f).fabric = s.fabric := rfl
@[simp] theorem State.setCal_time (s : State) (f : Cal → Cal) : (s.setCal f).time = s.time := rfl
@[simp] theorem State.setCal_twin (s : State) (f : Cal → Cal) : (s.setCal f).twin = s.twin := rfl
@[simp] theorem State.setCal_power (s : State) (f : Cal → Cal) : (s.setCal f).power = s.power := rfl
@[simp] theorem State.setCal_sluice (s : State) (f : Cal → Cal) : (s.setCal f).sluice = s.sluice := rfl
@[simp] theorem State.setCal_faults (s : State) (f : Cal → Cal) : (s.setCal f).faults = s.faults := rfl
@[simp] theorem State.setCal_safety (s : State) (f : Cal → Cal) : (s.setCal f).safety = s.safety := rfl
@[simp] theorem State.setCal_serial (s : State) (f : Cal → Cal) : (s.setCal f).serial = s.serial := rfl
@[simp] theorem State.setCal_cal (s : State) (f : Cal → Cal) : (s.setCal f).cal = f s.cal := rfl

@[simp] theorem State.setPower_pending (s : State) (f : Power → Power) : (s.setPower f).pending = s.pending := rfl
@[simp] theorem State.setPower_sys (s : State) (f : Power → Power) : (s.setPower f).sys = s.sys := rfl
@[simp] theorem State.setPower_cmds (s : State) (f : Power → Power) : (s.setPower f).cmds = s.cmds := rfl
@[simp] theorem State.setPower_front (s : State) (f : Power → Power) : (s.setPower f).front = s.front := rfl
@[simp] theorem State.setPower_mash (s : State) (f : Power → Power) : (s.setPower f).mash = s.mash := rfl
@[simp] theorem State.setPower_capture (s : State) (f : Power → Power) : (s.setPower f).capture = s.capture := rfl
@[simp] theorem State.setPower_edges (s : State) (f : Power → Power) : (s.setPower f).edges = s.edges := rfl
@[simp] theorem State.setPower_streams (s : State) (f : Power → Power) : (s.setPower f).streams = s.streams := rfl
@[simp] theorem State.setPower_kiln (s : State) (f : Power → Power) : (s.setPower f).kiln = s.kiln := rfl
@[simp] theorem State.setPower_feed (s : State) (f : Power → Power) : (s.setPower f).feed = s.feed := rfl
@[simp] theorem State.setPower_fabric (s : State) (f : Power → Power) : (s.setPower f).fabric = s.fabric := rfl
@[simp] theorem State.setPower_time (s : State) (f : Power → Power) : (s.setPower f).time = s.time := rfl
@[simp] theorem State.setPower_twin (s : State) (f : Power → Power) : (s.setPower f).twin = s.twin := rfl
@[simp] theorem State.setPower_cal (s : State) (f : Power → Power) : (s.setPower f).cal = s.cal := rfl
@[simp] theorem State.setPower_sluice (s : State) (f : Power → Power) : (s.setPower f).sluice = s.sluice := rfl
@[simp] theorem State.setPower_faults (s : State) (f : Power → Power) : (s.setPower f).faults = s.faults := rfl
@[simp] theorem State.setPower_safety (s : State) (f : Power → Power) : (s.setPower f).safety = s.safety := rfl
@[simp] theorem State.setPower_serial (s : State) (f : Power → Power) : (s.setPower f).serial = s.serial := rfl
@[simp] theorem State.setPower_power (s : State) (f : Power → Power) : (s.setPower f).power = f s.power := rfl

@[simp] theorem State.setFaults_pending (s : State) (f : Faults → Faults) : (s.setFaults f).pending = s.pending := rfl
@[simp] theorem State.setFaults_sys (s : State) (f : Faults → Faults) : (s.setFaults f).sys = s.sys := rfl
@[simp] theorem State.setFaults_cmds (s : State) (f : Faults → Faults) : (s.setFaults f).cmds = s.cmds := rfl
@[simp] theorem State.setFaults_front (s : State) (f : Faults → Faults) : (s.setFaults f).front = s.front := rfl
@[simp] theorem State.setFaults_mash (s : State) (f : Faults → Faults) : (s.setFaults f).mash = s.mash := rfl
@[simp] theorem State.setFaults_capture (s : State) (f : Faults → Faults) : (s.setFaults f).capture = s.capture := rfl
@[simp] theorem State.setFaults_edges (s : State) (f : Faults → Faults) : (s.setFaults f).edges = s.edges := rfl
@[simp] theorem State.setFaults_streams (s : State) (f : Faults → Faults) : (s.setFaults f).streams = s.streams := rfl
@[simp] theorem State.setFaults_kiln (s : State) (f : Faults → Faults) : (s.setFaults f).kiln = s.kiln := rfl
@[simp] theorem State.setFaults_feed (s : State) (f : Faults → Faults) : (s.setFaults f).feed = s.feed := rfl
@[simp] theorem State.setFaults_fabric (s : State) (f : Faults → Faults) : (s.setFaults f).fabric = s.fabric := rfl
@[simp] theorem State.setFaults_time (s : State) (f : Faults → Faults) : (s.setFaults f).time = s.time := rfl
@[simp] theorem State.setFaults_twin (s : State) (f : Faults → Faults) : (s.setFaults f).twin = s.twin := rfl
@[simp] theorem State.setFaults_cal (s : State) (f : Faults → Faults) : (s.setFaults f).cal = s.cal := rfl
@[simp] theorem State.setFaults_power (s : State) (f : Faults → Faults) : (s.setFaults f).power = s.power := rfl
@[simp] theorem State.setFaults_sluice (s : State) (f : Faults → Faults) : (s.setFaults f).sluice = s.sluice := rfl
@[simp] theorem State.setFaults_safety (s : State) (f : Faults → Faults) : (s.setFaults f).safety = s.safety := rfl
@[simp] theorem State.setFaults_serial (s : State) (f : Faults → Faults) : (s.setFaults f).serial = s.serial := rfl
@[simp] theorem State.setFaults_faults (s : State) (f : Faults → Faults) : (s.setFaults f).faults = f s.faults := rfl

@[simp] theorem State.setFeed_pending (s : State) (f : Feed → Feed) : (s.setFeed f).pending = s.pending := rfl
@[simp] theorem State.setFeed_sys (s : State) (f : Feed → Feed) : (s.setFeed f).sys = s.sys := rfl
@[simp] theorem State.setFeed_cmds (s : State) (f : Feed → Feed) : (s.setFeed f).cmds = s.cmds := rfl
@[simp] theorem State.setFeed_front (s : State) (f : Feed → Feed) : (s.setFeed f).front = s.front := rfl
@[simp] theorem State.setFeed_mash (s : State) (f : Feed → Feed) : (s.setFeed f).mash = s.mash := rfl
@[simp] theorem State.setFeed_capture (s : State) (f : Feed → Feed) : (s.setFeed f).capture = s.capture := rfl
@[simp] theorem State.setFeed_edges (s : State) (f : Feed → Feed) : (s.setFeed f).edges = s.edges := rfl
@[simp] theorem State.setFeed_streams (s : State) (f : Feed → Feed) : (s.setFeed f).streams = s.streams := rfl
@[simp] theorem State.setFeed_kiln (s : State) (f : Feed → Feed) : (s.setFeed f).kiln = s.kiln := rfl
@[simp] theorem State.setFeed_fabric (s : State) (f : Feed → Feed) : (s.setFeed f).fabric = s.fabric := rfl
@[simp] theorem State.setFeed_time (s : State) (f : Feed → Feed) : (s.setFeed f).time = s.time := rfl
@[simp] theorem State.setFeed_twin (s : State) (f : Feed → Feed) : (s.setFeed f).twin = s.twin := rfl
@[simp] theorem State.setFeed_cal (s : State) (f : Feed → Feed) : (s.setFeed f).cal = s.cal := rfl
@[simp] theorem State.setFeed_power (s : State) (f : Feed → Feed) : (s.setFeed f).power = s.power := rfl
@[simp] theorem State.setFeed_sluice (s : State) (f : Feed → Feed) : (s.setFeed f).sluice = s.sluice := rfl
@[simp] theorem State.setFeed_faults (s : State) (f : Feed → Feed) : (s.setFeed f).faults = s.faults := rfl
@[simp] theorem State.setFeed_safety (s : State) (f : Feed → Feed) : (s.setFeed f).safety = s.safety := rfl
@[simp] theorem State.setFeed_serial (s : State) (f : Feed → Feed) : (s.setFeed f).serial = s.serial := rfl
@[simp] theorem State.setFeed_feed (s : State) (f : Feed → Feed) : (s.setFeed f).feed = f s.feed := rfl

@[simp] theorem State.setSerial_pending (s : State) (f : Serial → Serial) : (s.setSerial f).pending = s.pending := rfl
@[simp] theorem State.setSerial_sys (s : State) (f : Serial → Serial) : (s.setSerial f).sys = s.sys := rfl
@[simp] theorem State.setSerial_cmds (s : State) (f : Serial → Serial) : (s.setSerial f).cmds = s.cmds := rfl
@[simp] theorem State.setSerial_front (s : State) (f : Serial → Serial) : (s.setSerial f).front = s.front := rfl
@[simp] theorem State.setSerial_mash (s : State) (f : Serial → Serial) : (s.setSerial f).mash = s.mash := rfl
@[simp] theorem State.setSerial_capture (s : State) (f : Serial → Serial) : (s.setSerial f).capture = s.capture := rfl
@[simp] theorem State.setSerial_edges (s : State) (f : Serial → Serial) : (s.setSerial f).edges = s.edges := rfl
@[simp] theorem State.setSerial_streams (s : State) (f : Serial → Serial) : (s.setSerial f).streams = s.streams := rfl
@[simp] theorem State.setSerial_kiln (s : State) (f : Serial → Serial) : (s.setSerial f).kiln = s.kiln := rfl
@[simp] theorem State.setSerial_feed (s : State) (f : Serial → Serial) : (s.setSerial f).feed = s.feed := rfl
@[simp] theorem State.setSerial_fabric (s : State) (f : Serial → Serial) : (s.setSerial f).fabric = s.fabric := rfl
@[simp] theorem State.setSerial_time (s : State) (f : Serial → Serial) : (s.setSerial f).time = s.time := rfl
@[simp] theorem State.setSerial_twin (s : State) (f : Serial → Serial) : (s.setSerial f).twin = s.twin := rfl
@[simp] theorem State.setSerial_cal (s : State) (f : Serial → Serial) : (s.setSerial f).cal = s.cal := rfl
@[simp] theorem State.setSerial_power (s : State) (f : Serial → Serial) : (s.setSerial f).power = s.power := rfl
@[simp] theorem State.setSerial_sluice (s : State) (f : Serial → Serial) : (s.setSerial f).sluice = s.sluice := rfl
@[simp] theorem State.setSerial_faults (s : State) (f : Serial → Serial) : (s.setSerial f).faults = s.faults := rfl
@[simp] theorem State.setSerial_safety (s : State) (f : Serial → Serial) : (s.setSerial f).safety = s.safety := rfl
@[simp] theorem State.setSerial_serial (s : State) (f : Serial → Serial) : (s.setSerial f).serial = f s.serial := rfl

@[simp] theorem State.setSafety_pending (s : State) (f : Safety → Safety) : (s.setSafety f).pending = s.pending := rfl
@[simp] theorem State.setSafety_sys (s : State) (f : Safety → Safety) : (s.setSafety f).sys = s.sys := rfl
@[simp] theorem State.setSafety_cmds (s : State) (f : Safety → Safety) : (s.setSafety f).cmds = s.cmds := rfl
@[simp] theorem State.setSafety_front (s : State) (f : Safety → Safety) : (s.setSafety f).front = s.front := rfl
@[simp] theorem State.setSafety_mash (s : State) (f : Safety → Safety) : (s.setSafety f).mash = s.mash := rfl
@[simp] theorem State.setSafety_capture (s : State) (f : Safety → Safety) : (s.setSafety f).capture = s.capture := rfl
@[simp] theorem State.setSafety_edges (s : State) (f : Safety → Safety) : (s.setSafety f).edges = s.edges := rfl
@[simp] theorem State.setSafety_streams (s : State) (f : Safety → Safety) : (s.setSafety f).streams = s.streams := rfl
@[simp] theorem State.setSafety_kiln (s : State) (f : Safety → Safety) : (s.setSafety f).kiln = s.kiln := rfl
@[simp] theorem State.setSafety_feed (s : State) (f : Safety → Safety) : (s.setSafety f).feed = s.feed := rfl
@[simp] theorem State.setSafety_fabric (s : State) (f : Safety → Safety) : (s.setSafety f).fabric = s.fabric := rfl
@[simp] theorem State.setSafety_time (s : State) (f : Safety → Safety) : (s.setSafety f).time = s.time := rfl
@[simp] theorem State.setSafety_twin (s : State) (f : Safety → Safety) : (s.setSafety f).twin = s.twin := rfl
@[simp] theorem State.setSafety_cal (s : State) (f : Safety → Safety) : (s.setSafety f).cal = s.cal := rfl
@[simp] theorem State.setSafety_power (s : State) (f : Safety → Safety) : (s.setSafety f).power = s.power := rfl
@[simp] theorem State.setSafety_sluice (s : State) (f : Safety → Safety) : (s.setSafety f).sluice = s.sluice := rfl
@[simp] theorem State.setSafety_faults (s : State) (f : Safety → Safety) : (s.setSafety f).faults = s.faults := rfl
@[simp] theorem State.setSafety_serial (s : State) (f : Safety → Safety) : (s.setSafety f).serial = s.serial := rfl
@[simp] theorem State.setSafety_safety (s : State) (f : Safety → Safety) : (s.setSafety f).safety = f s.safety := rfl

@[simp] theorem State.setPan_pending (s : State) (p : Nat) (f : Pan → Pan) : (s.setPan p f).pending = s.pending := rfl
@[simp] theorem State.setPan_sys (s : State) (p : Nat) (f : Pan → Pan) : (s.setPan p f).sys = s.sys := rfl
@[simp] theorem State.setPan_cmds (s : State) (p : Nat) (f : Pan → Pan) : (s.setPan p f).cmds = s.cmds := rfl
@[simp] theorem State.setPan_mash (s : State) (p : Nat) (f : Pan → Pan) : (s.setPan p f).mash = s.mash := rfl
@[simp] theorem State.setPan_capture (s : State) (p : Nat) (f : Pan → Pan) : (s.setPan p f).capture = s.capture := rfl
@[simp] theorem State.setPan_edges (s : State) (p : Nat) (f : Pan → Pan) : (s.setPan p f).edges = s.edges := rfl
@[simp] theorem State.setPan_streams (s : State) (p : Nat) (f : Pan → Pan) : (s.setPan p f).streams = s.streams := rfl
@[simp] theorem State.setPan_kiln (s : State) (p : Nat) (f : Pan → Pan) : (s.setPan p f).kiln = s.kiln := rfl
@[simp] theorem State.setPan_feed (s : State) (p : Nat) (f : Pan → Pan) : (s.setPan p f).feed = s.feed := rfl
@[simp] theorem State.setPan_fabric (s : State) (p : Nat) (f : Pan → Pan) : (s.setPan p f).fabric = s.fabric := rfl
@[simp] theorem State.setPan_time (s : State) (p : Nat) (f : Pan → Pan) : (s.setPan p f).time = s.time := rfl
@[simp] theorem State.setPan_twin (s : State) (p : Nat) (f : Pan → Pan) : (s.setPan p f).twin = s.twin := rfl
@[simp] theorem State.setPan_cal (s : State) (p : Nat) (f : Pan → Pan) : (s.setPan p f).cal = s.cal := rfl
@[simp] theorem State.setPan_power (s : State) (p : Nat) (f : Pan → Pan) : (s.setPan p f).power = s.power := rfl
@[simp] theorem State.setPan_sluice (s : State) (p : Nat) (f : Pan → Pan) : (s.setPan p f).sluice = s.sluice := rfl
@[simp] theorem State.setPan_faults (s : State) (p : Nat) (f : Pan → Pan) : (s.setPan p f).faults = s.faults := rfl
@[simp] theorem State.setPan_safety (s : State) (p : Nat) (f : Pan → Pan) : (s.setPan p f).safety = s.safety := rfl
@[simp] theorem State.setPan_serial (s : State) (p : Nat) (f : Pan → Pan) : (s.setPan p f).serial = s.serial := rfl

@[simp] theorem State.setChan_pending (s : State) (c : Nat) (f : Chan → Chan) : (s.setChan c f).pending = s.pending := rfl
@[simp] theorem State.setChan_sys (s : State) (c : Nat) (f : Chan → Chan) : (s.setChan c f).sys = s.sys := rfl
@[simp] theorem State.setChan_cmds (s : State) (c : Nat) (f : Chan → Chan) : (s.setChan c f).cmds = s.cmds := rfl
@[simp] theorem State.setChan_mash (s : State) (c : Nat) (f : Chan → Chan) : (s.setChan c f).mash = s.mash := rfl
@[simp] theorem State.setChan_capture (s : State) (c : Nat) (f : Chan → Chan) : (s.setChan c f).capture = s.capture := rfl
@[simp] theorem State.setChan_edges (s : State) (c : Nat) (f : Chan → Chan) : (s.setChan c f).edges = s.edges := rfl
@[simp] theorem State.setChan_streams (s : State) (c : Nat) (f : Chan → Chan) : (s.setChan c f).streams = s.streams := rfl
@[simp] theorem State.setChan_kiln (s : State) (c : Nat) (f : Chan → Chan) : (s.setChan c f).kiln = s.kiln := rfl
@[simp] theorem State.setChan_feed (s : State) (c : Nat) (f : Chan → Chan) : (s.setChan c f).feed = s.feed := rfl
@[simp] theorem State.setChan_fabric (s : State) (c : Nat) (f : Chan → Chan) : (s.setChan c f).fabric = s.fabric := rfl
@[simp] theorem State.setChan_time (s : State) (c : Nat) (f : Chan → Chan) : (s.setChan c f).time = s.time := rfl
@[simp] theorem State.setChan_twin (s : State) (c : Nat) (f : Chan → Chan) : (s.setChan c f).twin = s.twin := rfl
@[simp] theorem State.setChan_cal (s : State) (c : Nat) (f : Chan → Chan) : (s.setChan c f).cal = s.cal := rfl
@[simp] theorem State.setChan_power (s : State) (c : Nat) (f : Chan → Chan) : (s.setChan c f).power = s.power := rfl
@[simp] theorem State.setChan_sluice (s : State) (c : Nat) (f : Chan → Chan) : (s.setChan c f).sluice = s.sluice := rfl
@[simp] theorem State.setChan_faults (s : State) (c : Nat) (f : Chan → Chan) : (s.setChan c f).faults = s.faults := rfl
@[simp] theorem State.setChan_safety (s : State) (c : Nat) (f : Chan → Chan) : (s.setChan c f).safety = s.safety := rfl
@[simp] theorem State.setChan_serial (s : State) (c : Nat) (f : Chan → Chan) : (s.setChan c f).serial = s.serial := rfl

@[simp] theorem State.setMchan_pending (s : State) (c : Nat) (f : MashChan → MashChan) : (s.setMchan c f).pending = s.pending := rfl
@[simp] theorem State.setMchan_sys (s : State) (c : Nat) (f : MashChan → MashChan) : (s.setMchan c f).sys = s.sys := rfl
@[simp] theorem State.setMchan_cmds (s : State) (c : Nat) (f : MashChan → MashChan) : (s.setMchan c f).cmds = s.cmds := rfl
@[simp] theorem State.setMchan_front (s : State) (c : Nat) (f : MashChan → MashChan) : (s.setMchan c f).front = s.front := rfl
@[simp] theorem State.setMchan_capture (s : State) (c : Nat) (f : MashChan → MashChan) : (s.setMchan c f).capture = s.capture := rfl
@[simp] theorem State.setMchan_edges (s : State) (c : Nat) (f : MashChan → MashChan) : (s.setMchan c f).edges = s.edges := rfl
@[simp] theorem State.setMchan_streams (s : State) (c : Nat) (f : MashChan → MashChan) : (s.setMchan c f).streams = s.streams := rfl
@[simp] theorem State.setMchan_kiln (s : State) (c : Nat) (f : MashChan → MashChan) : (s.setMchan c f).kiln = s.kiln := rfl
@[simp] theorem State.setMchan_feed (s : State) (c : Nat) (f : MashChan → MashChan) : (s.setMchan c f).feed = s.feed := rfl
@[simp] theorem State.setMchan_fabric (s : State) (c : Nat) (f : MashChan → MashChan) : (s.setMchan c f).fabric = s.fabric := rfl
@[simp] theorem State.setMchan_time (s : State) (c : Nat) (f : MashChan → MashChan) : (s.setMchan c f).time = s.time := rfl
@[simp] theorem State.setMchan_twin (s : State) (c : Nat) (f : MashChan → MashChan) : (s.setMchan c f).twin = s.twin := rfl
@[simp] theorem State.setMchan_cal (s : State) (c : Nat) (f : MashChan → MashChan) : (s.setMchan c f).cal = s.cal := rfl
@[simp] theorem State.setMchan_power (s : State) (c : Nat) (f : MashChan → MashChan) : (s.setMchan c f).power = s.power := rfl
@[simp] theorem State.setMchan_sluice (s : State) (c : Nat) (f : MashChan → MashChan) : (s.setMchan c f).sluice = s.sluice := rfl
@[simp] theorem State.setMchan_faults (s : State) (c : Nat) (f : MashChan → MashChan) : (s.setMchan c f).faults = s.faults := rfl
@[simp] theorem State.setMchan_safety (s : State) (c : Nat) (f : MashChan → MashChan) : (s.setMchan c f).safety = s.safety := rfl
@[simp] theorem State.setMchan_serial (s : State) (c : Nat) (f : MashChan → MashChan) : (s.setMchan c f).serial = s.serial := rfl

@[simp] theorem State.setRecipe_pending (s : State) (r : Nat) (f : Recipe → Recipe) : (s.setRecipe r f).pending = s.pending := rfl
@[simp] theorem State.setRecipe_sys (s : State) (r : Nat) (f : Recipe → Recipe) : (s.setRecipe r f).sys = s.sys := rfl
@[simp] theorem State.setRecipe_cmds (s : State) (r : Nat) (f : Recipe → Recipe) : (s.setRecipe r f).cmds = s.cmds := rfl
@[simp] theorem State.setRecipe_front (s : State) (r : Nat) (f : Recipe → Recipe) : (s.setRecipe r f).front = s.front := rfl
@[simp] theorem State.setRecipe_capture (s : State) (r : Nat) (f : Recipe → Recipe) : (s.setRecipe r f).capture = s.capture := rfl
@[simp] theorem State.setRecipe_edges (s : State) (r : Nat) (f : Recipe → Recipe) : (s.setRecipe r f).edges = s.edges := rfl
@[simp] theorem State.setRecipe_streams (s : State) (r : Nat) (f : Recipe → Recipe) : (s.setRecipe r f).streams = s.streams := rfl
@[simp] theorem State.setRecipe_kiln (s : State) (r : Nat) (f : Recipe → Recipe) : (s.setRecipe r f).kiln = s.kiln := rfl
@[simp] theorem State.setRecipe_feed (s : State) (r : Nat) (f : Recipe → Recipe) : (s.setRecipe r f).feed = s.feed := rfl
@[simp] theorem State.setRecipe_fabric (s : State) (r : Nat) (f : Recipe → Recipe) : (s.setRecipe r f).fabric = s.fabric := rfl
@[simp] theorem State.setRecipe_time (s : State) (r : Nat) (f : Recipe → Recipe) : (s.setRecipe r f).time = s.time := rfl
@[simp] theorem State.setRecipe_twin (s : State) (r : Nat) (f : Recipe → Recipe) : (s.setRecipe r f).twin = s.twin := rfl
@[simp] theorem State.setRecipe_cal (s : State) (r : Nat) (f : Recipe → Recipe) : (s.setRecipe r f).cal = s.cal := rfl
@[simp] theorem State.setRecipe_power (s : State) (r : Nat) (f : Recipe → Recipe) : (s.setRecipe r f).power = s.power := rfl
@[simp] theorem State.setRecipe_sluice (s : State) (r : Nat) (f : Recipe → Recipe) : (s.setRecipe r f).sluice = s.sluice := rfl
@[simp] theorem State.setRecipe_faults (s : State) (r : Nat) (f : Recipe → Recipe) : (s.setRecipe r f).faults = s.faults := rfl
@[simp] theorem State.setRecipe_safety (s : State) (r : Nat) (f : Recipe → Recipe) : (s.setRecipe r f).safety = s.safety := rfl
@[simp] theorem State.setRecipe_serial (s : State) (r : Nat) (f : Recipe → Recipe) : (s.setRecipe r f).serial = s.serial := rfl

@[simp] theorem State.setGroup_pending (s : State) (g : Nat) (f : Group → Group) : (s.setGroup g f).pending = s.pending := rfl
@[simp] theorem State.setGroup_sys (s : State) (g : Nat) (f : Group → Group) : (s.setGroup g f).sys = s.sys := rfl
@[simp] theorem State.setGroup_cmds (s : State) (g : Nat) (f : Group → Group) : (s.setGroup g f).cmds = s.cmds := rfl
@[simp] theorem State.setGroup_front (s : State) (g : Nat) (f : Group → Group) : (s.setGroup g f).front = s.front := rfl
@[simp] theorem State.setGroup_mash (s : State) (g : Nat) (f : Group → Group) : (s.setGroup g f).mash = s.mash := rfl
@[simp] theorem State.setGroup_edges (s : State) (g : Nat) (f : Group → Group) : (s.setGroup g f).edges = s.edges := rfl
@[simp] theorem State.setGroup_streams (s : State) (g : Nat) (f : Group → Group) : (s.setGroup g f).streams = s.streams := rfl
@[simp] theorem State.setGroup_kiln (s : State) (g : Nat) (f : Group → Group) : (s.setGroup g f).kiln = s.kiln := rfl
@[simp] theorem State.setGroup_feed (s : State) (g : Nat) (f : Group → Group) : (s.setGroup g f).feed = s.feed := rfl
@[simp] theorem State.setGroup_fabric (s : State) (g : Nat) (f : Group → Group) : (s.setGroup g f).fabric = s.fabric := rfl
@[simp] theorem State.setGroup_time (s : State) (g : Nat) (f : Group → Group) : (s.setGroup g f).time = s.time := rfl
@[simp] theorem State.setGroup_twin (s : State) (g : Nat) (f : Group → Group) : (s.setGroup g f).twin = s.twin := rfl
@[simp] theorem State.setGroup_cal (s : State) (g : Nat) (f : Group → Group) : (s.setGroup g f).cal = s.cal := rfl
@[simp] theorem State.setGroup_power (s : State) (g : Nat) (f : Group → Group) : (s.setGroup g f).power = s.power := rfl
@[simp] theorem State.setGroup_sluice (s : State) (g : Nat) (f : Group → Group) : (s.setGroup g f).sluice = s.sluice := rfl
@[simp] theorem State.setGroup_faults (s : State) (g : Nat) (f : Group → Group) : (s.setGroup g f).faults = s.faults := rfl
@[simp] theorem State.setGroup_safety (s : State) (g : Nat) (f : Group → Group) : (s.setGroup g f).safety = s.safety := rfl
@[simp] theorem State.setGroup_serial (s : State) (g : Nat) (f : Group → Group) : (s.setGroup g f).serial = s.serial := rfl

@[simp] theorem State.setTimed_pending (s : State) (f : List TimedTrigger → List TimedTrigger) : (s.setTimed f).pending = s.pending := rfl
@[simp] theorem State.setTimed_sys (s : State) (f : List TimedTrigger → List TimedTrigger) : (s.setTimed f).sys = s.sys := rfl
@[simp] theorem State.setTimed_cmds (s : State) (f : List TimedTrigger → List TimedTrigger) : (s.setTimed f).cmds = s.cmds := rfl
@[simp] theorem State.setTimed_front (s : State) (f : List TimedTrigger → List TimedTrigger) : (s.setTimed f).front = s.front := rfl
@[simp] theorem State.setTimed_mash (s : State) (f : List TimedTrigger → List TimedTrigger) : (s.setTimed f).mash = s.mash := rfl
@[simp] theorem State.setTimed_edges (s : State) (f : List TimedTrigger → List TimedTrigger) : (s.setTimed f).edges = s.edges := rfl
@[simp] theorem State.setTimed_streams (s : State) (f : List TimedTrigger → List TimedTrigger) : (s.setTimed f).streams = s.streams := rfl
@[simp] theorem State.setTimed_kiln (s : State) (f : List TimedTrigger → List TimedTrigger) : (s.setTimed f).kiln = s.kiln := rfl
@[simp] theorem State.setTimed_feed (s : State) (f : List TimedTrigger → List TimedTrigger) : (s.setTimed f).feed = s.feed := rfl
@[simp] theorem State.setTimed_fabric (s : State) (f : List TimedTrigger → List TimedTrigger) : (s.setTimed f).fabric = s.fabric := rfl
@[simp] theorem State.setTimed_time (s : State) (f : List TimedTrigger → List TimedTrigger) : (s.setTimed f).time = s.time := rfl
@[simp] theorem State.setTimed_twin (s : State) (f : List TimedTrigger → List TimedTrigger) : (s.setTimed f).twin = s.twin := rfl
@[simp] theorem State.setTimed_cal (s : State) (f : List TimedTrigger → List TimedTrigger) : (s.setTimed f).cal = s.cal := rfl
@[simp] theorem State.setTimed_power (s : State) (f : List TimedTrigger → List TimedTrigger) : (s.setTimed f).power = s.power := rfl
@[simp] theorem State.setTimed_sluice (s : State) (f : List TimedTrigger → List TimedTrigger) : (s.setTimed f).sluice = s.sluice := rfl
@[simp] theorem State.setTimed_faults (s : State) (f : List TimedTrigger → List TimedTrigger) : (s.setTimed f).faults = s.faults := rfl
@[simp] theorem State.setTimed_safety (s : State) (f : List TimedTrigger → List TimedTrigger) : (s.setTimed f).safety = s.safety := rfl
@[simp] theorem State.setTimed_serial (s : State) (f : List TimedTrigger → List TimedTrigger) : (s.setTimed f).serial = s.serial := rfl

@[simp] theorem State.setEdge_pending (s : State) (i : Nat) (f : Edge → Edge) : (s.setEdge i f).pending = s.pending := rfl
@[simp] theorem State.setEdge_sys (s : State) (i : Nat) (f : Edge → Edge) : (s.setEdge i f).sys = s.sys := rfl
@[simp] theorem State.setEdge_cmds (s : State) (i : Nat) (f : Edge → Edge) : (s.setEdge i f).cmds = s.cmds := rfl
@[simp] theorem State.setEdge_front (s : State) (i : Nat) (f : Edge → Edge) : (s.setEdge i f).front = s.front := rfl
@[simp] theorem State.setEdge_mash (s : State) (i : Nat) (f : Edge → Edge) : (s.setEdge i f).mash = s.mash := rfl
@[simp] theorem State.setEdge_capture (s : State) (i : Nat) (f : Edge → Edge) : (s.setEdge i f).capture = s.capture := rfl
@[simp] theorem State.setEdge_streams (s : State) (i : Nat) (f : Edge → Edge) : (s.setEdge i f).streams = s.streams := rfl
@[simp] theorem State.setEdge_kiln (s : State) (i : Nat) (f : Edge → Edge) : (s.setEdge i f).kiln = s.kiln := rfl
@[simp] theorem State.setEdge_feed (s : State) (i : Nat) (f : Edge → Edge) : (s.setEdge i f).feed = s.feed := rfl
@[simp] theorem State.setEdge_fabric (s : State) (i : Nat) (f : Edge → Edge) : (s.setEdge i f).fabric = s.fabric := rfl
@[simp] theorem State.setEdge_time (s : State) (i : Nat) (f : Edge → Edge) : (s.setEdge i f).time = s.time := rfl
@[simp] theorem State.setEdge_twin (s : State) (i : Nat) (f : Edge → Edge) : (s.setEdge i f).twin = s.twin := rfl
@[simp] theorem State.setEdge_cal (s : State) (i : Nat) (f : Edge → Edge) : (s.setEdge i f).cal = s.cal := rfl
@[simp] theorem State.setEdge_power (s : State) (i : Nat) (f : Edge → Edge) : (s.setEdge i f).power = s.power := rfl
@[simp] theorem State.setEdge_sluice (s : State) (i : Nat) (f : Edge → Edge) : (s.setEdge i f).sluice = s.sluice := rfl
@[simp] theorem State.setEdge_faults (s : State) (i : Nat) (f : Edge → Edge) : (s.setEdge i f).faults = s.faults := rfl
@[simp] theorem State.setEdge_safety (s : State) (i : Nat) (f : Edge → Edge) : (s.setEdge i f).safety = s.safety := rfl
@[simp] theorem State.setEdge_serial (s : State) (i : Nat) (f : Edge → Edge) : (s.setEdge i f).serial = s.serial := rfl

@[simp] theorem State.setUnit_pending (s : State) (m : Nat) (f : Unit8 → Unit8) : (s.setUnit m f).pending = s.pending := rfl
@[simp] theorem State.setUnit_sys (s : State) (m : Nat) (f : Unit8 → Unit8) : (s.setUnit m f).sys = s.sys := rfl
@[simp] theorem State.setUnit_cmds (s : State) (m : Nat) (f : Unit8 → Unit8) : (s.setUnit m f).cmds = s.cmds := rfl
@[simp] theorem State.setUnit_front (s : State) (m : Nat) (f : Unit8 → Unit8) : (s.setUnit m f).front = s.front := rfl
@[simp] theorem State.setUnit_mash (s : State) (m : Nat) (f : Unit8 → Unit8) : (s.setUnit m f).mash = s.mash := rfl
@[simp] theorem State.setUnit_capture (s : State) (m : Nat) (f : Unit8 → Unit8) : (s.setUnit m f).capture = s.capture := rfl
@[simp] theorem State.setUnit_streams (s : State) (m : Nat) (f : Unit8 → Unit8) : (s.setUnit m f).streams = s.streams := rfl
@[simp] theorem State.setUnit_kiln (s : State) (m : Nat) (f : Unit8 → Unit8) : (s.setUnit m f).kiln = s.kiln := rfl
@[simp] theorem State.setUnit_feed (s : State) (m : Nat) (f : Unit8 → Unit8) : (s.setUnit m f).feed = s.feed := rfl
@[simp] theorem State.setUnit_fabric (s : State) (m : Nat) (f : Unit8 → Unit8) : (s.setUnit m f).fabric = s.fabric := rfl
@[simp] theorem State.setUnit_time (s : State) (m : Nat) (f : Unit8 → Unit8) : (s.setUnit m f).time = s.time := rfl
@[simp] theorem State.setUnit_twin (s : State) (m : Nat) (f : Unit8 → Unit8) : (s.setUnit m f).twin = s.twin := rfl
@[simp] theorem State.setUnit_cal (s : State) (m : Nat) (f : Unit8 → Unit8) : (s.setUnit m f).cal = s.cal := rfl
@[simp] theorem State.setUnit_power (s : State) (m : Nat) (f : Unit8 → Unit8) : (s.setUnit m f).power = s.power := rfl
@[simp] theorem State.setUnit_sluice (s : State) (m : Nat) (f : Unit8 → Unit8) : (s.setUnit m f).sluice = s.sluice := rfl
@[simp] theorem State.setUnit_faults (s : State) (m : Nat) (f : Unit8 → Unit8) : (s.setUnit m f).faults = s.faults := rfl
@[simp] theorem State.setUnit_safety (s : State) (m : Nat) (f : Unit8 → Unit8) : (s.setUnit m f).safety = s.safety := rfl
@[simp] theorem State.setUnit_serial (s : State) (m : Nat) (f : Unit8 → Unit8) : (s.setUnit m f).serial = s.serial := rfl

@[simp] theorem State.setStream_pending (s : State) (k : Nat) (f : Stream → Stream) : (s.setStream k f).pending = s.pending := rfl
@[simp] theorem State.setStream_sys (s : State) (k : Nat) (f : Stream → Stream) : (s.setStream k f).sys = s.sys := rfl
@[simp] theorem State.setStream_cmds (s : State) (k : Nat) (f : Stream → Stream) : (s.setStream k f).cmds = s.cmds := rfl
@[simp] theorem State.setStream_front (s : State) (k : Nat) (f : Stream → Stream) : (s.setStream k f).front = s.front := rfl
@[simp] theorem State.setStream_mash (s : State) (k : Nat) (f : Stream → Stream) : (s.setStream k f).mash = s.mash := rfl
@[simp] theorem State.setStream_capture (s : State) (k : Nat) (f : Stream → Stream) : (s.setStream k f).capture = s.capture := rfl
@[simp] theorem State.setStream_edges (s : State) (k : Nat) (f : Stream → Stream) : (s.setStream k f).edges = s.edges := rfl
@[simp] theorem State.setStream_kiln (s : State) (k : Nat) (f : Stream → Stream) : (s.setStream k f).kiln = s.kiln := rfl
@[simp] theorem State.setStream_feed (s : State) (k : Nat) (f : Stream → Stream) : (s.setStream k f).feed = s.feed := rfl
@[simp] theorem State.setStream_fabric (s : State) (k : Nat) (f : Stream → Stream) : (s.setStream k f).fabric = s.fabric := rfl
@[simp] theorem State.setStream_time (s : State) (k : Nat) (f : Stream → Stream) : (s.setStream k f).time = s.time := rfl
@[simp] theorem State.setStream_twin (s : State) (k : Nat) (f : Stream → Stream) : (s.setStream k f).twin = s.twin := rfl
@[simp] theorem State.setStream_cal (s : State) (k : Nat) (f : Stream → Stream) : (s.setStream k f).cal = s.cal := rfl
@[simp] theorem State.setStream_power (s : State) (k : Nat) (f : Stream → Stream) : (s.setStream k f).power = s.power := rfl
@[simp] theorem State.setStream_sluice (s : State) (k : Nat) (f : Stream → Stream) : (s.setStream k f).sluice = s.sluice := rfl
@[simp] theorem State.setStream_faults (s : State) (k : Nat) (f : Stream → Stream) : (s.setStream k f).faults = s.faults := rfl
@[simp] theorem State.setStream_safety (s : State) (k : Nat) (f : Stream → Stream) : (s.setStream k f).safety = s.safety := rfl
@[simp] theorem State.setStream_serial (s : State) (k : Nat) (f : Stream → Stream) : (s.setStream k f).serial = s.serial := rfl

@[simp] theorem State.setCoder_pending (s : State) (k : Nat) (f : Coder → Coder) : (s.setCoder k f).pending = s.pending := rfl
@[simp] theorem State.setCoder_sys (s : State) (k : Nat) (f : Coder → Coder) : (s.setCoder k f).sys = s.sys := rfl
@[simp] theorem State.setCoder_cmds (s : State) (k : Nat) (f : Coder → Coder) : (s.setCoder k f).cmds = s.cmds := rfl
@[simp] theorem State.setCoder_front (s : State) (k : Nat) (f : Coder → Coder) : (s.setCoder k f).front = s.front := rfl
@[simp] theorem State.setCoder_mash (s : State) (k : Nat) (f : Coder → Coder) : (s.setCoder k f).mash = s.mash := rfl
@[simp] theorem State.setCoder_capture (s : State) (k : Nat) (f : Coder → Coder) : (s.setCoder k f).capture = s.capture := rfl
@[simp] theorem State.setCoder_edges (s : State) (k : Nat) (f : Coder → Coder) : (s.setCoder k f).edges = s.edges := rfl
@[simp] theorem State.setCoder_streams (s : State) (k : Nat) (f : Coder → Coder) : (s.setCoder k f).streams = s.streams := rfl
@[simp] theorem State.setCoder_feed (s : State) (k : Nat) (f : Coder → Coder) : (s.setCoder k f).feed = s.feed := rfl
@[simp] theorem State.setCoder_fabric (s : State) (k : Nat) (f : Coder → Coder) : (s.setCoder k f).fabric = s.fabric := rfl
@[simp] theorem State.setCoder_time (s : State) (k : Nat) (f : Coder → Coder) : (s.setCoder k f).time = s.time := rfl
@[simp] theorem State.setCoder_twin (s : State) (k : Nat) (f : Coder → Coder) : (s.setCoder k f).twin = s.twin := rfl
@[simp] theorem State.setCoder_cal (s : State) (k : Nat) (f : Coder → Coder) : (s.setCoder k f).cal = s.cal := rfl
@[simp] theorem State.setCoder_power (s : State) (k : Nat) (f : Coder → Coder) : (s.setCoder k f).power = s.power := rfl
@[simp] theorem State.setCoder_sluice (s : State) (k : Nat) (f : Coder → Coder) : (s.setCoder k f).sluice = s.sluice := rfl
@[simp] theorem State.setCoder_faults (s : State) (k : Nat) (f : Coder → Coder) : (s.setCoder k f).faults = s.faults := rfl
@[simp] theorem State.setCoder_safety (s : State) (k : Nat) (f : Coder → Coder) : (s.setCoder k f).safety = s.safety := rfl
@[simp] theorem State.setCoder_serial (s : State) (k : Nat) (f : Coder → Coder) : (s.setCoder k f).serial = s.serial := rfl

@[simp] theorem State.setTap_pending (s : State) (i : Nat) (f : Tap → Tap) : (s.setTap i f).pending = s.pending := rfl
@[simp] theorem State.setTap_sys (s : State) (i : Nat) (f : Tap → Tap) : (s.setTap i f).sys = s.sys := rfl
@[simp] theorem State.setTap_cmds (s : State) (i : Nat) (f : Tap → Tap) : (s.setTap i f).cmds = s.cmds := rfl
@[simp] theorem State.setTap_front (s : State) (i : Nat) (f : Tap → Tap) : (s.setTap i f).front = s.front := rfl
@[simp] theorem State.setTap_mash (s : State) (i : Nat) (f : Tap → Tap) : (s.setTap i f).mash = s.mash := rfl
@[simp] theorem State.setTap_capture (s : State) (i : Nat) (f : Tap → Tap) : (s.setTap i f).capture = s.capture := rfl
@[simp] theorem State.setTap_edges (s : State) (i : Nat) (f : Tap → Tap) : (s.setTap i f).edges = s.edges := rfl
@[simp] theorem State.setTap_streams (s : State) (i : Nat) (f : Tap → Tap) : (s.setTap i f).streams = s.streams := rfl
@[simp] theorem State.setTap_feed (s : State) (i : Nat) (f : Tap → Tap) : (s.setTap i f).feed = s.feed := rfl
@[simp] theorem State.setTap_fabric (s : State) (i : Nat) (f : Tap → Tap) : (s.setTap i f).fabric = s.fabric := rfl
@[simp] theorem State.setTap_time (s : State) (i : Nat) (f : Tap → Tap) : (s.setTap i f).time = s.time := rfl
@[simp] theorem State.setTap_twin (s : State) (i : Nat) (f : Tap → Tap) : (s.setTap i f).twin = s.twin := rfl
@[simp] theorem State.setTap_cal (s : State) (i : Nat) (f : Tap → Tap) : (s.setTap i f).cal = s.cal := rfl
@[simp] theorem State.setTap_power (s : State) (i : Nat) (f : Tap → Tap) : (s.setTap i f).power = s.power := rfl
@[simp] theorem State.setTap_sluice (s : State) (i : Nat) (f : Tap → Tap) : (s.setTap i f).sluice = s.sluice := rfl
@[simp] theorem State.setTap_faults (s : State) (i : Nat) (f : Tap → Tap) : (s.setTap i f).faults = s.faults := rfl
@[simp] theorem State.setTap_safety (s : State) (i : Nat) (f : Tap → Tap) : (s.setTap i f).safety = s.safety := rfl
@[simp] theorem State.setTap_serial (s : State) (i : Nat) (f : Tap → Tap) : (s.setTap i f).serial = s.serial := rfl

@[simp] theorem State.setJob_pending (s : State) (f : Job → Job) : (s.setJob f).pending = s.pending := rfl
@[simp] theorem State.setJob_sys (s : State) (f : Job → Job) : (s.setJob f).sys = s.sys := rfl
@[simp] theorem State.setJob_cmds (s : State) (f : Job → Job) : (s.setJob f).cmds = s.cmds := rfl
@[simp] theorem State.setJob_front (s : State) (f : Job → Job) : (s.setJob f).front = s.front := rfl
@[simp] theorem State.setJob_mash (s : State) (f : Job → Job) : (s.setJob f).mash = s.mash := rfl
@[simp] theorem State.setJob_capture (s : State) (f : Job → Job) : (s.setJob f).capture = s.capture := rfl
@[simp] theorem State.setJob_edges (s : State) (f : Job → Job) : (s.setJob f).edges = s.edges := rfl
@[simp] theorem State.setJob_streams (s : State) (f : Job → Job) : (s.setJob f).streams = s.streams := rfl
@[simp] theorem State.setJob_feed (s : State) (f : Job → Job) : (s.setJob f).feed = s.feed := rfl
@[simp] theorem State.setJob_fabric (s : State) (f : Job → Job) : (s.setJob f).fabric = s.fabric := rfl
@[simp] theorem State.setJob_time (s : State) (f : Job → Job) : (s.setJob f).time = s.time := rfl
@[simp] theorem State.setJob_twin (s : State) (f : Job → Job) : (s.setJob f).twin = s.twin := rfl
@[simp] theorem State.setJob_cal (s : State) (f : Job → Job) : (s.setJob f).cal = s.cal := rfl
@[simp] theorem State.setJob_power (s : State) (f : Job → Job) : (s.setJob f).power = s.power := rfl
@[simp] theorem State.setJob_sluice (s : State) (f : Job → Job) : (s.setJob f).sluice = s.sluice := rfl
@[simp] theorem State.setJob_faults (s : State) (f : Job → Job) : (s.setJob f).faults = s.faults := rfl
@[simp] theorem State.setJob_safety (s : State) (f : Job → Job) : (s.setJob f).safety = s.safety := rfl
@[simp] theorem State.setJob_serial (s : State) (f : Job → Job) : (s.setJob f).serial = s.serial := rfl

@[simp] theorem State.setPort_pending (s : State) (p : Port) (f : LanePort → LanePort) : (s.setPort p f).pending = s.pending := rfl
@[simp] theorem State.setPort_sys (s : State) (p : Port) (f : LanePort → LanePort) : (s.setPort p f).sys = s.sys := rfl
@[simp] theorem State.setPort_cmds (s : State) (p : Port) (f : LanePort → LanePort) : (s.setPort p f).cmds = s.cmds := rfl
@[simp] theorem State.setPort_front (s : State) (p : Port) (f : LanePort → LanePort) : (s.setPort p f).front = s.front := rfl
@[simp] theorem State.setPort_mash (s : State) (p : Port) (f : LanePort → LanePort) : (s.setPort p f).mash = s.mash := rfl
@[simp] theorem State.setPort_capture (s : State) (p : Port) (f : LanePort → LanePort) : (s.setPort p f).capture = s.capture := rfl
@[simp] theorem State.setPort_edges (s : State) (p : Port) (f : LanePort → LanePort) : (s.setPort p f).edges = s.edges := rfl
@[simp] theorem State.setPort_streams (s : State) (p : Port) (f : LanePort → LanePort) : (s.setPort p f).streams = s.streams := rfl
@[simp] theorem State.setPort_kiln (s : State) (p : Port) (f : LanePort → LanePort) : (s.setPort p f).kiln = s.kiln := rfl
@[simp] theorem State.setPort_feed (s : State) (p : Port) (f : LanePort → LanePort) : (s.setPort p f).feed = s.feed := rfl
@[simp] theorem State.setPort_time (s : State) (p : Port) (f : LanePort → LanePort) : (s.setPort p f).time = s.time := rfl
@[simp] theorem State.setPort_twin (s : State) (p : Port) (f : LanePort → LanePort) : (s.setPort p f).twin = s.twin := rfl
@[simp] theorem State.setPort_cal (s : State) (p : Port) (f : LanePort → LanePort) : (s.setPort p f).cal = s.cal := rfl
@[simp] theorem State.setPort_power (s : State) (p : Port) (f : LanePort → LanePort) : (s.setPort p f).power = s.power := rfl
@[simp] theorem State.setPort_sluice (s : State) (p : Port) (f : LanePort → LanePort) : (s.setPort p f).sluice = s.sluice := rfl
@[simp] theorem State.setPort_faults (s : State) (p : Port) (f : LanePort → LanePort) : (s.setPort p f).faults = s.faults := rfl
@[simp] theorem State.setPort_safety (s : State) (p : Port) (f : LanePort → LanePort) : (s.setPort p f).safety = s.safety := rfl
@[simp] theorem State.setPort_serial (s : State) (p : Port) (f : LanePort → LanePort) : (s.setPort p f).serial = s.serial := rfl

@[simp] theorem State.setLink_pending (s : State) (p : Port) (f : Link → Link) : (s.setLink p f).pending = s.pending := rfl
@[simp] theorem State.setLink_sys (s : State) (p : Port) (f : Link → Link) : (s.setLink p f).sys = s.sys := rfl
@[simp] theorem State.setLink_cmds (s : State) (p : Port) (f : Link → Link) : (s.setLink p f).cmds = s.cmds := rfl
@[simp] theorem State.setLink_front (s : State) (p : Port) (f : Link → Link) : (s.setLink p f).front = s.front := rfl
@[simp] theorem State.setLink_mash (s : State) (p : Port) (f : Link → Link) : (s.setLink p f).mash = s.mash := rfl
@[simp] theorem State.setLink_capture (s : State) (p : Port) (f : Link → Link) : (s.setLink p f).capture = s.capture := rfl
@[simp] theorem State.setLink_edges (s : State) (p : Port) (f : Link → Link) : (s.setLink p f).edges = s.edges := rfl
@[simp] theorem State.setLink_streams (s : State) (p : Port) (f : Link → Link) : (s.setLink p f).streams = s.streams := rfl
@[simp] theorem State.setLink_kiln (s : State) (p : Port) (f : Link → Link) : (s.setLink p f).kiln = s.kiln := rfl
@[simp] theorem State.setLink_feed (s : State) (p : Port) (f : Link → Link) : (s.setLink p f).feed = s.feed := rfl
@[simp] theorem State.setLink_time (s : State) (p : Port) (f : Link → Link) : (s.setLink p f).time = s.time := rfl
@[simp] theorem State.setLink_twin (s : State) (p : Port) (f : Link → Link) : (s.setLink p f).twin = s.twin := rfl
@[simp] theorem State.setLink_cal (s : State) (p : Port) (f : Link → Link) : (s.setLink p f).cal = s.cal := rfl
@[simp] theorem State.setLink_power (s : State) (p : Port) (f : Link → Link) : (s.setLink p f).power = s.power := rfl
@[simp] theorem State.setLink_sluice (s : State) (p : Port) (f : Link → Link) : (s.setLink p f).sluice = s.sluice := rfl
@[simp] theorem State.setLink_faults (s : State) (p : Port) (f : Link → Link) : (s.setLink p f).faults = s.faults := rfl
@[simp] theorem State.setLink_safety (s : State) (p : Port) (f : Link → Link) : (s.setLink p f).safety = s.safety := rfl
@[simp] theorem State.setLink_serial (s : State) (p : Port) (f : Link → Link) : (s.setLink p f).serial = s.serial := rfl

@[simp] theorem State.setTimePort_pending (s : State) (p : Port) (f : TimePort → TimePort) : (s.setTimePort p f).pending = s.pending := rfl
@[simp] theorem State.setTimePort_sys (s : State) (p : Port) (f : TimePort → TimePort) : (s.setTimePort p f).sys = s.sys := rfl
@[simp] theorem State.setTimePort_cmds (s : State) (p : Port) (f : TimePort → TimePort) : (s.setTimePort p f).cmds = s.cmds := rfl
@[simp] theorem State.setTimePort_front (s : State) (p : Port) (f : TimePort → TimePort) : (s.setTimePort p f).front = s.front := rfl
@[simp] theorem State.setTimePort_mash (s : State) (p : Port) (f : TimePort → TimePort) : (s.setTimePort p f).mash = s.mash := rfl
@[simp] theorem State.setTimePort_capture (s : State) (p : Port) (f : TimePort → TimePort) : (s.setTimePort p f).capture = s.capture := rfl
@[simp] theorem State.setTimePort_edges (s : State) (p : Port) (f : TimePort → TimePort) : (s.setTimePort p f).edges = s.edges := rfl
@[simp] theorem State.setTimePort_streams (s : State) (p : Port) (f : TimePort → TimePort) : (s.setTimePort p f).streams = s.streams := rfl
@[simp] theorem State.setTimePort_kiln (s : State) (p : Port) (f : TimePort → TimePort) : (s.setTimePort p f).kiln = s.kiln := rfl
@[simp] theorem State.setTimePort_feed (s : State) (p : Port) (f : TimePort → TimePort) : (s.setTimePort p f).feed = s.feed := rfl
@[simp] theorem State.setTimePort_fabric (s : State) (p : Port) (f : TimePort → TimePort) : (s.setTimePort p f).fabric = s.fabric := rfl
@[simp] theorem State.setTimePort_twin (s : State) (p : Port) (f : TimePort → TimePort) : (s.setTimePort p f).twin = s.twin := rfl
@[simp] theorem State.setTimePort_cal (s : State) (p : Port) (f : TimePort → TimePort) : (s.setTimePort p f).cal = s.cal := rfl
@[simp] theorem State.setTimePort_power (s : State) (p : Port) (f : TimePort → TimePort) : (s.setTimePort p f).power = s.power := rfl
@[simp] theorem State.setTimePort_sluice (s : State) (p : Port) (f : TimePort → TimePort) : (s.setTimePort p f).sluice = s.sluice := rfl
@[simp] theorem State.setTimePort_faults (s : State) (p : Port) (f : TimePort → TimePort) : (s.setTimePort p f).faults = s.faults := rfl
@[simp] theorem State.setTimePort_safety (s : State) (p : Port) (f : TimePort → TimePort) : (s.setTimePort p f).safety = s.safety := rfl
@[simp] theorem State.setTimePort_serial (s : State) (p : Port) (f : TimePort → TimePort) : (s.setTimePort p f).serial = s.serial := rfl

@[simp] theorem State.setHeld_pending (s : State) (n : Nat) (f : Held → Held) : (s.setHeld n f).pending = s.pending := rfl
@[simp] theorem State.setHeld_sys (s : State) (n : Nat) (f : Held → Held) : (s.setHeld n f).sys = s.sys := rfl
@[simp] theorem State.setHeld_front (s : State) (n : Nat) (f : Held → Held) : (s.setHeld n f).front = s.front := rfl
@[simp] theorem State.setHeld_mash (s : State) (n : Nat) (f : Held → Held) : (s.setHeld n f).mash = s.mash := rfl
@[simp] theorem State.setHeld_capture (s : State) (n : Nat) (f : Held → Held) : (s.setHeld n f).capture = s.capture := rfl
@[simp] theorem State.setHeld_edges (s : State) (n : Nat) (f : Held → Held) : (s.setHeld n f).edges = s.edges := rfl
@[simp] theorem State.setHeld_streams (s : State) (n : Nat) (f : Held → Held) : (s.setHeld n f).streams = s.streams := rfl
@[simp] theorem State.setHeld_kiln (s : State) (n : Nat) (f : Held → Held) : (s.setHeld n f).kiln = s.kiln := rfl
@[simp] theorem State.setHeld_feed (s : State) (n : Nat) (f : Held → Held) : (s.setHeld n f).feed = s.feed := rfl
@[simp] theorem State.setHeld_fabric (s : State) (n : Nat) (f : Held → Held) : (s.setHeld n f).fabric = s.fabric := rfl
@[simp] theorem State.setHeld_time (s : State) (n : Nat) (f : Held → Held) : (s.setHeld n f).time = s.time := rfl
@[simp] theorem State.setHeld_twin (s : State) (n : Nat) (f : Held → Held) : (s.setHeld n f).twin = s.twin := rfl
@[simp] theorem State.setHeld_cal (s : State) (n : Nat) (f : Held → Held) : (s.setHeld n f).cal = s.cal := rfl
@[simp] theorem State.setHeld_power (s : State) (n : Nat) (f : Held → Held) : (s.setHeld n f).power = s.power := rfl
@[simp] theorem State.setHeld_sluice (s : State) (n : Nat) (f : Held → Held) : (s.setHeld n f).sluice = s.sluice := rfl
@[simp] theorem State.setHeld_faults (s : State) (n : Nat) (f : Held → Held) : (s.setHeld n f).faults = s.faults := rfl
@[simp] theorem State.setHeld_safety (s : State) (n : Nat) (f : Held → Held) : (s.setHeld n f).safety = s.safety := rfl
@[simp] theorem State.setHeld_serial (s : State) (n : Nat) (f : Held → Held) : (s.setHeld n f).serial = s.serial := rfl

@[simp] theorem State.dropHeld_pending (s : State) (n : Nat) : (s.dropHeld n).pending = s.pending := rfl
@[simp] theorem State.dropHeld_sys (s : State) (n : Nat) : (s.dropHeld n).sys = s.sys := rfl
@[simp] theorem State.dropHeld_front (s : State) (n : Nat) : (s.dropHeld n).front = s.front := rfl
@[simp] theorem State.dropHeld_mash (s : State) (n : Nat) : (s.dropHeld n).mash = s.mash := rfl
@[simp] theorem State.dropHeld_capture (s : State) (n : Nat) : (s.dropHeld n).capture = s.capture := rfl
@[simp] theorem State.dropHeld_edges (s : State) (n : Nat) : (s.dropHeld n).edges = s.edges := rfl
@[simp] theorem State.dropHeld_streams (s : State) (n : Nat) : (s.dropHeld n).streams = s.streams := rfl
@[simp] theorem State.dropHeld_kiln (s : State) (n : Nat) : (s.dropHeld n).kiln = s.kiln := rfl
@[simp] theorem State.dropHeld_feed (s : State) (n : Nat) : (s.dropHeld n).feed = s.feed := rfl
@[simp] theorem State.dropHeld_fabric (s : State) (n : Nat) : (s.dropHeld n).fabric = s.fabric := rfl
@[simp] theorem State.dropHeld_time (s : State) (n : Nat) : (s.dropHeld n).time = s.time := rfl
@[simp] theorem State.dropHeld_twin (s : State) (n : Nat) : (s.dropHeld n).twin = s.twin := rfl
@[simp] theorem State.dropHeld_cal (s : State) (n : Nat) : (s.dropHeld n).cal = s.cal := rfl
@[simp] theorem State.dropHeld_power (s : State) (n : Nat) : (s.dropHeld n).power = s.power := rfl
@[simp] theorem State.dropHeld_sluice (s : State) (n : Nat) : (s.dropHeld n).sluice = s.sluice := rfl
@[simp] theorem State.dropHeld_faults (s : State) (n : Nat) : (s.dropHeld n).faults = s.faults := rfl
@[simp] theorem State.dropHeld_safety (s : State) (n : Nat) : (s.dropHeld n).safety = s.safety := rfl
@[simp] theorem State.dropHeld_serial (s : State) (n : Nat) : (s.dropHeld n).serial = s.serial := rfl

@[simp] theorem State.count_pending (s : State) (i : Nat) : (s.count i).pending = s.pending := rfl
@[simp] theorem State.count_sys (s : State) (i : Nat) : (s.count i).sys = s.sys := rfl
@[simp] theorem State.count_front (s : State) (i : Nat) : (s.count i).front = s.front := rfl
@[simp] theorem State.count_mash (s : State) (i : Nat) : (s.count i).mash = s.mash := rfl
@[simp] theorem State.count_capture (s : State) (i : Nat) : (s.count i).capture = s.capture := rfl
@[simp] theorem State.count_edges (s : State) (i : Nat) : (s.count i).edges = s.edges := rfl
@[simp] theorem State.count_streams (s : State) (i : Nat) : (s.count i).streams = s.streams := rfl
@[simp] theorem State.count_kiln (s : State) (i : Nat) : (s.count i).kiln = s.kiln := rfl
@[simp] theorem State.count_feed (s : State) (i : Nat) : (s.count i).feed = s.feed := rfl
@[simp] theorem State.count_fabric (s : State) (i : Nat) : (s.count i).fabric = s.fabric := rfl
@[simp] theorem State.count_time (s : State) (i : Nat) : (s.count i).time = s.time := rfl
@[simp] theorem State.count_twin (s : State) (i : Nat) : (s.count i).twin = s.twin := rfl
@[simp] theorem State.count_cal (s : State) (i : Nat) : (s.count i).cal = s.cal := rfl
@[simp] theorem State.count_power (s : State) (i : Nat) : (s.count i).power = s.power := rfl
@[simp] theorem State.count_sluice (s : State) (i : Nat) : (s.count i).sluice = s.sluice := rfl
@[simp] theorem State.count_faults (s : State) (i : Nat) : (s.count i).faults = s.faults := rfl
@[simp] theorem State.count_safety (s : State) (i : Nat) : (s.count i).safety = s.safety := rfl
@[simp] theorem State.count_serial (s : State) (i : Nat) : (s.count i).serial = s.serial := rfl

@[simp] theorem State.emit_pending (s : State) (o : Origin) (p : Packet) : (s.emit o p).pending = s.pending := rfl
@[simp] theorem State.emit_sys (s : State) (o : Origin) (p : Packet) : (s.emit o p).sys = s.sys := rfl
@[simp] theorem State.emit_front (s : State) (o : Origin) (p : Packet) : (s.emit o p).front = s.front := rfl
@[simp] theorem State.emit_mash (s : State) (o : Origin) (p : Packet) : (s.emit o p).mash = s.mash := rfl
@[simp] theorem State.emit_capture (s : State) (o : Origin) (p : Packet) : (s.emit o p).capture = s.capture := rfl
@[simp] theorem State.emit_edges (s : State) (o : Origin) (p : Packet) : (s.emit o p).edges = s.edges := rfl
@[simp] theorem State.emit_streams (s : State) (o : Origin) (p : Packet) : (s.emit o p).streams = s.streams := rfl
@[simp] theorem State.emit_kiln (s : State) (o : Origin) (p : Packet) : (s.emit o p).kiln = s.kiln := rfl
@[simp] theorem State.emit_feed (s : State) (o : Origin) (p : Packet) : (s.emit o p).feed = s.feed := rfl
@[simp] theorem State.emit_fabric (s : State) (o : Origin) (p : Packet) : (s.emit o p).fabric = s.fabric := rfl
@[simp] theorem State.emit_time (s : State) (o : Origin) (p : Packet) : (s.emit o p).time = s.time := rfl
@[simp] theorem State.emit_twin (s : State) (o : Origin) (p : Packet) : (s.emit o p).twin = s.twin := rfl
@[simp] theorem State.emit_cal (s : State) (o : Origin) (p : Packet) : (s.emit o p).cal = s.cal := rfl
@[simp] theorem State.emit_power (s : State) (o : Origin) (p : Packet) : (s.emit o p).power = s.power := rfl
@[simp] theorem State.emit_sluice (s : State) (o : Origin) (p : Packet) : (s.emit o p).sluice = s.sluice := rfl
@[simp] theorem State.emit_faults (s : State) (o : Origin) (p : Packet) : (s.emit o p).faults = s.faults := rfl
@[simp] theorem State.emit_safety (s : State) (o : Origin) (p : Packet) : (s.emit o p).safety = s.safety := rfl
@[simp] theorem State.emit_serial (s : State) (o : Origin) (p : Packet) : (s.emit o p).serial = s.serial := rfl

@[simp] theorem State.nextGen_pending (s : State) : (s.nextGen).pending = s.pending := rfl
@[simp] theorem State.nextGen_cmds (s : State) : (s.nextGen).cmds = s.cmds := rfl
@[simp] theorem State.nextGen_front (s : State) : (s.nextGen).front = s.front := rfl
@[simp] theorem State.nextGen_mash (s : State) : (s.nextGen).mash = s.mash := rfl
@[simp] theorem State.nextGen_capture (s : State) : (s.nextGen).capture = s.capture := rfl
@[simp] theorem State.nextGen_edges (s : State) : (s.nextGen).edges = s.edges := rfl
@[simp] theorem State.nextGen_streams (s : State) : (s.nextGen).streams = s.streams := rfl
@[simp] theorem State.nextGen_kiln (s : State) : (s.nextGen).kiln = s.kiln := rfl
@[simp] theorem State.nextGen_feed (s : State) : (s.nextGen).feed = s.feed := rfl
@[simp] theorem State.nextGen_fabric (s : State) : (s.nextGen).fabric = s.fabric := rfl
@[simp] theorem State.nextGen_time (s : State) : (s.nextGen).time = s.time := rfl
@[simp] theorem State.nextGen_twin (s : State) : (s.nextGen).twin = s.twin := rfl
@[simp] theorem State.nextGen_cal (s : State) : (s.nextGen).cal = s.cal := rfl
@[simp] theorem State.nextGen_power (s : State) : (s.nextGen).power = s.power := rfl
@[simp] theorem State.nextGen_sluice (s : State) : (s.nextGen).sluice = s.sluice := rfl
@[simp] theorem State.nextGen_faults (s : State) : (s.nextGen).faults = s.faults := rfl
@[simp] theorem State.nextGen_safety (s : State) : (s.nextGen).safety = s.safety := rfl
@[simp] theorem State.nextGen_serial (s : State) : (s.nextGen).serial = s.serial := rfl

@[simp] theorem State.tellTwin_pending (s : State) (m : Bytes) : (s.tellTwin m).pending = s.pending := rfl
@[simp] theorem State.tellTwin_sys (s : State) (m : Bytes) : (s.tellTwin m).sys = s.sys := rfl
@[simp] theorem State.tellTwin_cmds (s : State) (m : Bytes) : (s.tellTwin m).cmds = s.cmds := rfl
@[simp] theorem State.tellTwin_front (s : State) (m : Bytes) : (s.tellTwin m).front = s.front := rfl
@[simp] theorem State.tellTwin_mash (s : State) (m : Bytes) : (s.tellTwin m).mash = s.mash := rfl
@[simp] theorem State.tellTwin_capture (s : State) (m : Bytes) : (s.tellTwin m).capture = s.capture := rfl
@[simp] theorem State.tellTwin_edges (s : State) (m : Bytes) : (s.tellTwin m).edges = s.edges := rfl
@[simp] theorem State.tellTwin_streams (s : State) (m : Bytes) : (s.tellTwin m).streams = s.streams := rfl
@[simp] theorem State.tellTwin_kiln (s : State) (m : Bytes) : (s.tellTwin m).kiln = s.kiln := rfl
@[simp] theorem State.tellTwin_feed (s : State) (m : Bytes) : (s.tellTwin m).feed = s.feed := rfl
@[simp] theorem State.tellTwin_fabric (s : State) (m : Bytes) : (s.tellTwin m).fabric = s.fabric := rfl
@[simp] theorem State.tellTwin_time (s : State) (m : Bytes) : (s.tellTwin m).time = s.time := rfl
@[simp] theorem State.tellTwin_cal (s : State) (m : Bytes) : (s.tellTwin m).cal = s.cal := rfl
@[simp] theorem State.tellTwin_power (s : State) (m : Bytes) : (s.tellTwin m).power = s.power := rfl
@[simp] theorem State.tellTwin_sluice (s : State) (m : Bytes) : (s.tellTwin m).sluice = s.sluice := rfl
@[simp] theorem State.tellTwin_faults (s : State) (m : Bytes) : (s.tellTwin m).faults = s.faults := rfl
@[simp] theorem State.tellTwin_safety (s : State) (m : Bytes) : (s.tellTwin m).safety = s.safety := rfl
@[simp] theorem State.tellTwin_serial (s : State) (m : Bytes) : (s.tellTwin m).serial = s.serial := rfl

/-! ## Numbered things after an update -/

theorem Port.code_ne {p q : Port} (h : q ≠ p) : Port.code q ≠ Port.code p := by cases p <;> cases q <;> simp_all [Port.code]

@[simp] theorem State.pan_setPan (s : State) (k : Nat) (f : Pan → Pan) : (s.setPan k f).pan k = f (s.pan k) := Tbl.get_modify_same _ _ _ _
theorem State.pan_setPan_other (s : State) {k q : Nat} (f : Pan → Pan) (h : q ≠ k) : (s.setPan k f).pan q = s.pan q := Tbl.get_modify_other _ _ _ h
@[simp] theorem State.chan_setChan (s : State) (k : Nat) (f : Chan → Chan) : (s.setChan k f).chan k = f (s.chan k) := Tbl.get_modify_same _ _ _ _
theorem State.chan_setChan_other (s : State) {k q : Nat} (f : Chan → Chan) (h : q ≠ k) : (s.setChan k f).chan q = s.chan q := Tbl.get_modify_other _ _ _ h
@[simp] theorem State.mchan_setMchan (s : State) (k : Nat) (f : MashChan → MashChan) : (s.setMchan k f).mchan k = f (s.mchan k) := Tbl.get_modify_same _ _ _ _
theorem State.mchan_setMchan_other (s : State) {k q : Nat} (f : MashChan → MashChan) (h : q ≠ k) : (s.setMchan k f).mchan q = s.mchan q := Tbl.get_modify_other _ _ _ h
@[simp] theorem State.recipe_setRecipe (s : State) (k : Nat) (f : Recipe → Recipe) : (s.setRecipe k f).recipe k = f (s.recipe k) := Tbl.get_modify_same _ _ _ _
theorem State.recipe_setRecipe_other (s : State) {k q : Nat} (f : Recipe → Recipe) (h : q ≠ k) : (s.setRecipe k f).recipe q = s.recipe q := Tbl.get_modify_other _ _ _ h
@[simp] theorem State.group_setGroup (s : State) (k : Nat) (f : Group → Group) : (s.setGroup k f).group k = f (s.group k) := Tbl.get_modify_same _ _ _ _
theorem State.group_setGroup_other (s : State) {k q : Nat} (f : Group → Group) (h : q ≠ k) : (s.setGroup k f).group q = s.group q := Tbl.get_modify_other _ _ _ h
@[simp] theorem State.edge_setEdge (s : State) (k : Nat) (f : Edge → Edge) : (s.setEdge k f).edge k = f (s.edge k) := Tbl.get_modify_same _ _ _ _
theorem State.edge_setEdge_other (s : State) {k q : Nat} (f : Edge → Edge) (h : q ≠ k) : (s.setEdge k f).edge q = s.edge q := Tbl.get_modify_other _ _ _ h
@[simp] theorem State.unit_setUnit (s : State) (k : Nat) (f : Unit8 → Unit8) : (s.setUnit k f).unit k = f (s.unit k) := Tbl.get_modify_same _ _ _ _
theorem State.unit_setUnit_other (s : State) {k q : Nat} (f : Unit8 → Unit8) (h : q ≠ k) : (s.setUnit k f).unit q = s.unit q := Tbl.get_modify_other _ _ _ h
@[simp] theorem State.stream_setStream (s : State) (k : Nat) (f : Stream → Stream) : (s.setStream k f).stream k = f (s.stream k) := Tbl.get_modify_same _ _ _ _
theorem State.stream_setStream_other (s : State) {k q : Nat} (f : Stream → Stream) (h : q ≠ k) : (s.setStream k f).stream q = s.stream q := Tbl.get_modify_other _ _ _ h
@[simp] theorem State.coder_setCoder (s : State) (k : Nat) (f : Coder → Coder) : (s.setCoder k f).coder k = f (s.coder k) := Tbl.get_modify_same _ _ _ _
theorem State.coder_setCoder_other (s : State) {k q : Nat} (f : Coder → Coder) (h : q ≠ k) : (s.setCoder k f).coder q = s.coder q := Tbl.get_modify_other _ _ _ h
@[simp] theorem State.tap_setTap (s : State) (k : Nat) (f : Tap → Tap) : (s.setTap k f).tap k = f (s.tap k) := Tbl.get_modify_same _ _ _ _
theorem State.tap_setTap_other (s : State) {k q : Nat} (f : Tap → Tap) (h : q ≠ k) : (s.setTap k f).tap q = s.tap q := Tbl.get_modify_other _ _ _ h
@[simp] theorem State.port_setPort (s : State) (k : Port) (f : LanePort → LanePort) : (s.setPort k f).port k = f (s.port k) := Tbl.get_modify_same _ _ _ _
theorem State.port_setPort_other (s : State) {k q : Port} (f : LanePort → LanePort) (h : q ≠ k) : (s.setPort k f).port q = s.port q := Tbl.get_modify_other _ _ _ (Port.code_ne h)
@[simp] theorem State.link_setLink (s : State) (k : Port) (f : Link → Link) : (s.setLink k f).link k = f (s.link k) := Tbl.get_modify_same _ _ _ _
theorem State.link_setLink_other (s : State) {k q : Port} (f : Link → Link) (h : q ≠ k) : (s.setLink k f).link q = s.link q := Tbl.get_modify_other _ _ _ (Port.code_ne h)
@[simp] theorem State.timePort_setTimePort (s : State) (k : Port) (f : TimePort → TimePort) : (s.setTimePort k f).timePort k = f (s.timePort k) := Tbl.get_modify_same _ _ _ _
theorem State.timePort_setTimePort_other (s : State) {k q : Port} (f : TimePort → TimePort) (h : q ≠ k) : (s.setTimePort k f).timePort q = s.timePort q := Tbl.get_modify_other _ _ _ (Port.code_ne h)

end Sys2Proof.Machine
end

