-- ==== Sys2Proof/Laws/Commands.lean ====
section
/-! SUPPORT. A command whose turn has come and that nothing stands in the way of: what its packet leaves. -/
namespace Sys2Proof.Machine

open Sys2Proof

/-- The one lemma about a packet that is carried out: it is admitted, starts at once or as the first of the queues, and the hub settles after its answer. -/
theorem submit_turn {op o c} {s : State} {h v} (e : Op) (ht : s.turn op o c = some (h, v)) (he : opEntry op = some e)
    (hf : opcodeFault h.version op = none) (hc : (v.begin h).clear e (h.begun v.now) = true) :
    State.submit op o c s = { v.afterTurn op ((v.begin h).carry (h.begun v.now) (e.run (h.begun v.now) (v.begin h))) with pending := s.pending } := by
  unfold State.turn at ht
  split at ht
  · cases ht
  rename_i h0
  simp only [Bool.or_eq_true, Bool.not_eq_true', Bool.and_eq_true, not_or, not_and, bne_iff_ne, ne_eq, beq_iff_eq, Bool.not_eq_false] at h0
  obtain ⟨htk, hb⟩ := h0
  have hpc : s.packetComes op o c = s.arrive op o c := by
    unfold State.takes at htk
    unfold State.packetComes
    cases o <;> simp_all [State.controlPacket, State.takeArrival, State.payBack]
  have hseq : s.arrive op o c = s.wakeCommands.admitPacket op o c := by
    unfold State.arrive
    simp only [ite_eq_right_iff]
    intro hh; exact absurd hh.2 (hb hh.1)
  simp only [] at ht
  split at ht
  · cases ht
  rename_i hadm
  generalize hg : s.wakeCommands.admitCmd op o c (s.wakeCommands.ownerOf c).1 (s.wakeCommands.ownerOf c).2 (isImmediate op) = g at ht
  obtain ⟨k, a⟩ := g
  have hap : s.wakeCommands.admitPacket op o c = if k.immediate then a.startCmd k else a := by
    unfold State.admitPacket
    rw [hadm]
    unfold State.ownerOf at hg
    cases hs : s.wakeCommands.sessionById c.sessionId <;> simp only [hs] at hg ⊢ <;> rw [hg]
  have hkop : k.opcode = op := by have := congrArg (·.1.opcode) hg; simpa [State.admitCmd] using this.symm
  have hkim : k.immediate = isImmediate op := by have := congrArg (·.1.immediate) hg; simpa [State.admitCmd] using this.symm
  have start : ∀ w : State, ∀ k : Held, k.opcode = op → opcodeFault k.version op = none → (w.begin k).clear e (k.begun w.now) = true →
      w.startCmd k = (w.begin k).carry (k.begun w.now) (e.run (k.begun w.now) (w.begin k)) := by
    intro w k hk hf hc
    unfold State.startCmd
    have : (w.setHeld k.serial fun k => { k with phase := .executing, started := w.now }) = w.begin k := rfl
    simp only [this]
    rw [show opcodeFault k.version k.opcode = none from hk ▸ hf, show opEntry k.opcode = some e from hk ▸ he]
    show (w.begin k).startKnown e (k.begun w.now) = _
    unfold State.clear at hc
    simp only [Bool.and_eq_true, Option.isNone_iff_eq_none] at hc
    obtain ⟨⟨⟨h1, h2⟩, h3⟩, h4⟩ := hc
    have hn : ((w.begin k).now) = w.now := rfl
    unfold State.startKnown
    simp only [h1, Option.filter_none, h2, h3, h4, ite_self, Option.none_or]
    rfl
  split at ht
  · rename_i him
    cases ht
    unfold State.submit State.afterTurn
    rw [hpc, hseq, hap, hkim, if_pos him, if_pos him, start _ _ hkop hf hc]
  · rename_i him
    split at ht
    · cases ht
    rename_i hp
    split at ht
    · rename_i k' hns
      split at ht
      · rename_i hk
        cases ht
        unfold State.submit State.afterTurn
        rw [hpc, hseq, hap, hkim, if_neg him, if_neg him]
        have hk' : k' = k := eq_of_beq (Bool.and_eq_true _ _ ▸ hk).1
        subst hk'
        have hr : a.sys.hub ≠ .reset := by
          have h1 := congrArg (·.2.sys.hub) hg
          have h2 : s.sys.hub ≠ .reset := by unfold State.takes at htk; simp_all
          simp only [State.admitCmd, State.count, State.wakeCommands, State.setPower] at h1
          rw [← h1]; exact h2
        have hnr : ¬ k'.removed := by
          have h1 := congrArg (·.1.removed) hg
          simp only [State.admitCmd] at h1
          rw [← h1]; simp
        have hkc : k'.cmd = c := (congrArg (·.1.cmd) hg).symm
        unfold State.settle
        rw [if_neg hr]
        simp only
        clear hpc hseq hap hg hadm
        generalize a.beforeQueues = B at *
        obtain ⟨n, hn⟩ : ∃ n, 2 * B.cmds.held.length = n + 1 := by
          cases hl : B.cmds.held with
          | nil => rw [hl] at hns; cases hns
          | cons x r => exact ⟨2 * r.length + 1, by rw [List.length_cons]; omega⟩
        have hp2 : ¬ (B.sys.fwPaused = true ∨ B.fwWaits = true) := by simpa using hp
        have hsq : B.startQueued k' = B.startCmd k' := by
          unfold State.startQueued
          have hf2 := (Bool.and_eq_true _ _ ▸ hk).2
          simp only [hnr]
          rw [hkc]
          simp only [Bool.false_eq_true, if_false]
          cases hl : k'.line with
          | none => simp
          | some q =>
            simp only [hl, Option.any_some, Bool.not_eq_true', Bool.and_eq_false_imp] at hf2
            simp only [ite_eq_right_iff]
            intro hh; exact absurd hh.2 (by simpa using hf2 hh.1)
        unfold State.settleRest
        rw [hn, State.pump, if_neg hp2, hns]
        simp only [hsq, start _ _ hkop hf hc]
        rfl
      · cases ht
    · cases ht

/-! ## Frames -/

/-- A frame that reaches a port changes of its link the count of frames alone. -/
theorem State.link_gotFrame (s : State) (p : Port) : (s.gotFrame p).link p = { s.link p with counters := Tbl.bump 32 (s.link p).counters 1 } := by
  unfold State.gotFrame State.countLink
  rw [State.link_setLink]
  rfl

/-- The one lemma about a sequenced frame that a port takes: it is accepted, and what that does. -/
theorem State.acceptFrame_of_takes {s : State} {p f n} (h : s.takesFrame p f n) : s.acceptFrame p f n = (true, s.tookFrame p f) := by
  obtain ⟨h1, h2, h3, h4, h5⟩ := h
  unfold State.acceptFrame
  rw [if_neg (by simp [h1, h2, h3])]
  simp only [h4, Bool.not_true, Bool.false_eq_true, if_false]
  have hs : f.linkSeq.toNat = (((s.gotFrame p).takeAck p f.ack.toNat).link p).rxNext := by
    unfold State.nakReason at h5
    simp only at h5
    split at h5
    · cases h5
    · rename_i hh; simpa using hh
  have hlt : f.linkSeq.toNat < 65536 := f.linkSeq.isLt
  rw [if_neg (by rw [← hs]; omega), h5]
  rfl

/-- The one lemma about a link frame that a port takes. -/
theorem State.acceptLinkFrame_of_takes {s : State} {p f n} (h : s.takesLinkFrame p f n) : s.acceptLinkFrame p f n = (true, s.gotFrame p) := by
  obtain ⟨h1, h2, h3, h4, h5⟩ := h
  have hl : lengthOk ((s.gotFrame p).link p) f = true := by rw [State.link_gotFrame]; exact h5
  unfold State.acceptLinkFrame
  rw [if_neg (by simp [h1])]
  simp [h2, h3, h4, hl]

end Sys2Proof.Machine
end

