-- ==== Sys2Proof/Laws/Memory.lean ====
section
/-! SUPPORT. The byte memories (flash, calibration images, kiln workspace): every operation keeps the canonical form, a written byte reads back, and the others stay. -/
namespace Sys2Proof.Machine

open Sys2Proof

theorem Mem.wf_cons (d : Nat → Byte) (k : Nat) (v : Byte) (r : List Host.Cell) :
    Mem.wf d ((k, v) :: r) = true ↔ v ≠ d k ∧ (∀ c ∈ r, k < c.1) ∧ Mem.wf d r = true := by
  simp [Mem.wf, and_assoc]

theorem Mem.mem_write (d : Nat → Byte) (m : List Host.Cell) (a : Nat) (b : Byte) : ∀ c ∈ Mem.write d m a b, c ∈ m ∨ c = (a, b) := by
  induction m with
  | nil => intro c hc; unfold Mem.write at hc; split at hc <;> simp_all
  | cons e r ih =>
    obtain ⟨k, v⟩ := e
    intro c hc
    unfold Mem.write at hc
    split at hc
    · split at hc
      · exact .inl hc
      · rcases List.mem_cons.mp hc with h | h
        · exact .inr h
        · exact .inl h
    · split at hc
      · split at hc
        · exact .inl (List.mem_cons_of_mem _ hc)
        · rcases List.mem_cons.mp hc with h | h
          · exact .inr h
          · exact .inl (List.mem_cons_of_mem _ h)
      · rcases List.mem_cons.mp hc with h | h
        · exact .inl (h ▸ List.mem_cons_self)
        · rcases ih c h with h | h
          · exact .inl (List.mem_cons_of_mem _ h)
          · exact .inr h

/-- A write keeps the canonical form. -/
theorem Mem.write_wf (d : Nat → Byte) (m : List Host.Cell) (a : Nat) (b : Byte) (h : Mem.wf d m = true) : Mem.wf d (Mem.write d m a b) = true := by
  induction m with
  | nil => unfold Mem.write; split <;> simp_all [Mem.wf]
  | cons e r ih =>
    obtain ⟨k, v⟩ := e
    have hc := (Mem.wf_cons d k v r).mp h
    unfold Mem.write
    split
    · rename_i hk
      split
      · exact h
      · rename_i hb
        refine (Mem.wf_cons _ _ _ _).mpr ⟨hb, ?_, h⟩
        intro c hm
        rcases List.mem_cons.mp hm with rfl | hm
        · exact hk
        · exact Nat.lt_trans hk (hc.2.1 c hm)
    · split
      · rename_i hk; subst hk
        split
        · exact hc.2.2
        · rename_i hb; exact (Mem.wf_cons _ _ _ _).mpr ⟨hb, hc.2⟩
      · rename_i h1 h2
        refine (Mem.wf_cons _ _ _ _).mpr ⟨hc.1, ?_, ih hc.2.2⟩
        intro c hm
        rcases Mem.mem_write d r a b c hm with h | h
        · exact hc.2.1 c h
        · rw [h]; show k < a; omega

/-- An address below every listed one reads as unwritten. -/
theorem Mem.read_above (d : Nat → Byte) (m : List Host.Cell) (a : Nat) (h : ∀ c ∈ m, a < c.1) : Mem.read d m a = d a := by
  induction m with
  | nil => rfl
  | cons e r ih =>
    have h1 : a < e.1 := h e (by simp)
    unfold Mem.read
    rw [if_neg (by omega)]
    exact ih (fun c hc => h c (by simp [hc]))

/-- A written byte reads back. -/
theorem Mem.read_write_same (d : Nat → Byte) (m : List Host.Cell) (a : Nat) (b : Byte) (h : Mem.wf d m = true) : Mem.read d (Mem.write d m a b) a = b := by
  induction m with
  | nil =>
    unfold Mem.write
    split
    · rename_i hb; exact hb.symm
    · simp [Mem.read]
  | cons e r ih =>
    obtain ⟨k, v⟩ := e
    have hc := (Mem.wf_cons d k v r).mp h
    unfold Mem.write
    split
    · rename_i hk
      split
      · rename_i hb
        rw [Mem.read_above, hb]
        intro c hm
        rcases List.mem_cons.mp hm with rfl | hm
        · exact hk
        · exact Nat.lt_trans hk (hc.2.1 c hm)
      · simp [Mem.read]
    · split
      · rename_i hk; subst hk
        split
        · rename_i hb; rw [Mem.read_above _ _ _ hc.2.1, hb]
        · simp [Mem.read]
      · rename_i h1 h2
        unfold Mem.read
        rw [if_neg (by omega)]
        exact ih hc.2.2

/-- Every other address reads as before. -/
theorem Mem.read_write_other (d : Nat → Byte) (m : List Host.Cell) (a q : Nat) (b : Byte) (h : q ≠ a) : Mem.read d (Mem.write d m a b) q = Mem.read d m q := by
  induction m with
  | nil => unfold Mem.write; split <;> simp [Mem.read, Ne.symm h]
  | cons e r ih =>
    obtain ⟨k, v⟩ := e
    unfold Mem.write
    split
    · split
      · rfl
      · conv => lhs; unfold Mem.read
        rw [if_neg (Ne.symm h)]
    · split
      · rename_i hk; subst hk
        split
        · conv => rhs; unfold Mem.read
          rw [if_neg (Ne.symm h)]
        · simp [Mem.read, Ne.symm h]
      · unfold Mem.read; rw [ih]

/-- A write of several bytes keeps the canonical form. -/
theorem Mem.writeN_wf (d : Nat → Byte) (b : Bytes) (m : List Host.Cell) (a : Nat) (h : Mem.wf d m = true) : Mem.wf d (Mem.writeN d m a b) = true := by
  induction b generalizing m a with
  | nil => exact h
  | cons x r ih => exact ih _ _ (Mem.write_wf d m a x h)

/-- An address outside the bytes written reads as before. -/
theorem Mem.read_writeN_other (d : Nat → Byte) (b : Bytes) (m : List Host.Cell) (a q : Nat) (h : q < a ∨ a + b.length ≤ q) : Mem.read d (Mem.writeN d m a b) q = Mem.read d m q := by
  induction b generalizing m a with
  | nil => rfl
  | cons x r ih =>
    simp only [List.length_cons] at h
    show Mem.read d (Mem.writeN d (Mem.write d m a x) (a + 1) r) q = _
    rw [ih _ _ (by omega), Mem.read_write_other _ _ _ _ _ (by omega)]

/-- Every byte written reads back. -/
theorem Mem.read_writeN (d : Nat → Byte) (b : Bytes) (m : List Host.Cell) (a i : Nat) (h : Mem.wf d m = true) (hi : i < b.length) : Mem.read d (Mem.writeN d m a b) (a + i) = b.getD i 0 := by
  induction b generalizing m a i with
  | nil => simp at hi
  | cons x r ih =>
    show Mem.read d (Mem.writeN d (Mem.write d m a x) (a + 1) r) (a + i) = _
    cases i with
    | zero =>
      rw [Mem.read_writeN_other _ _ _ _ _ (by omega)]
      simpa using Mem.read_write_same d m a x h
    | succ j =>
      have := ih (Mem.write d m a x) (a + 1) j (Mem.write_wf d m a x h) (by simpa using hi)
      rw [show a + (j + 1) = a + 1 + j by omega, this]
      simp

/-! ## The hub's own memories -/

theorem State.writeFlash_wf (s : State) (a : Nat) (b : Bytes) (h : Mem.wf (fun _ => 0xFF) s.serial.flash = true) : Mem.wf (fun _ => 0xFF) (s.writeFlash a b).serial.flash = true :=
  Mem.writeN_wf _ b _ a h

theorem State.workWrite_wf (s : State) (a : Nat) (b : Bytes) (h : Mem.wf (fun _ => 0) s.kiln.work = true) : Mem.wf (fun _ => 0) (s.workWrite a b).kiln.work = true :=
  Mem.writeN_wf _ b _ a h

theorem State.stageWrite_wf (s : State) (a : Nat) (b : Bytes) (h : Mem.wf nominalByte s.cal.staging = true) : Mem.wf nominalByte (s.stageWrite a b).cal.staging = true :=
  Mem.writeN_wf _ b _ a h

theorem State.stage_wf (s : State) (h : Mem.wf nominalByte s.cal.live = true) : Mem.wf nominalByte s.stage.cal.staging = true :=
  Mem.writeN_wf _ _ _ 0 h

theorem State.calWrite_wf (s : State) (a : Nat) (b : Bytes) (h : Mem.wf nominalByte s.cal.live = true) : Mem.wf nominalByte (s.calWrite a b).cal.live = true :=
  Mem.writeN_wf _ _ _ _ (Mem.writeN_wf _ b _ a h)

/-- Writes of single bytes one after the other keep the canonical form. -/
theorem Mem.foldl_write_wf (d : Nat → Byte) (b : Byte) (l : List Nat) (m : List Host.Cell) (h : Mem.wf d m = true) : Mem.wf d (l.foldl (fun m a => Mem.write d m a b) m) = true := by
  induction l generalizing m with
  | nil => exact h
  | cons a r ih => exact ih _ (Mem.write_wf d m a b h)

/-- The memories of the reset state list nothing. -/
theorem State.reset_memories : State.reset.serial.flash = [] ∧ State.reset.cal.live = [] ∧ State.reset.cal.staging = [] ∧ State.reset.kiln.work = [] := ⟨rfl, rfl, rfl, rfl⟩

end Sys2Proof.Machine
end

