-- ==== Sys2Proof/Laws/PerInstr.lean ====
section
/-! SUPPORT. What holds of every command, one lemma for each constructor of `Instr`. -/
namespace Sys2Proof

open Sys2Proof.Machine

/-- Every command answers a next state: some state settled, with the queue as it was. -/
def Laws.Settles.Statement (i : Instr) : Prop := ∀ s : State, ∃ w : State, exec i s = .next { w.settle with pending := s.pending }

namespace Laws.Settles

theorem hello (o : Origin) (c : Cmd) : Statement (.hello o c) := fun _ => ⟨_, rfl⟩
theorem getInfo (o : Origin) (c : Cmd) : Statement (.getInfo o c) := fun _ => ⟨_, rfl⟩
theorem goodbye (o : Origin) (c : Cmd) : Statement (.goodbye o c) := fun _ => ⟨_, rfl⟩
theorem echo (o : Origin) (c : Cmd) : Statement (.echo o c) := fun _ => ⟨_, rfl⟩
theorem cmdAbort (o : Origin) (c : Cmd) : Statement (.cmdAbort o c) := fun _ => ⟨_, rfl⟩
theorem cmdQuery (o : Origin) (c : Cmd) : Statement (.cmdQuery o c) := fun _ => ⟨_, rfl⟩
theorem cmdStats (o : Origin) (c : Cmd) : Statement (.cmdStats o c) := fun _ => ⟨_, rfl⟩
theorem fenceWaitEnd (t : Nat) (queue : Nat) : Statement (.fenceWaitEnd t queue) := fun _ => ⟨_, rfl⟩
theorem sessionIdleTimeout (t : Nat) (slot : Nat) : Statement (.sessionIdleTimeout t slot) := fun _ => ⟨_, rfl⟩
theorem stateGet (o : Origin) (c : Cmd) : Statement (.stateGet o c) := fun _ => ⟨_, rfl⟩
theorem stateHistory (o : Origin) (c : Cmd) : Statement (.stateHistory o c) := fun _ => ⟨_, rfl⟩
theorem stateRun (o : Origin) (c : Cmd) : Statement (.stateRun o c) := fun _ => ⟨_, rfl⟩
theorem stateStop (o : Origin) (c : Cmd) : Statement (.stateStop o c) := fun _ => ⟨_, rfl⟩
theorem stateGoLocal (o : Origin) (c : Cmd) : Statement (.stateGoLocal o c) := fun _ => ⟨_, rfl⟩
theorem stateReset (o : Origin) (c : Cmd) : Statement (.stateReset o c) := fun _ => ⟨_, rfl⟩
theorem stateLeaveFault (o : Origin) (c : Cmd) : Statement (.stateLeaveFault o c) := fun _ => ⟨_, rfl⟩
theorem fwGetStatus (o : Origin) (c : Cmd) : Statement (.fwGetStatus o c) := fun _ => ⟨_, rfl⟩
theorem fwVerify (o : Origin) (c : Cmd) : Statement (.fwVerify o c) := fun _ => ⟨_, rfl⟩
theorem fwActivate (o : Origin) (c : Cmd) : Statement (.fwActivate o c) := fun _ => ⟨_, rfl⟩
theorem firmwareActivationStart (t : Nat) : Statement (.firmwareActivationStart t) := fun _ => ⟨_, rfl⟩
theorem firmwareRestartEnd (t : Nat) : Statement (.firmwareRestartEnd t) := fun _ => ⟨_, rfl⟩
theorem panGetConfig (o : Origin) (c : Cmd) : Statement (.panGetConfig o c) := fun _ => ⟨_, rfl⟩
theorem panReadResults (o : Origin) (c : Cmd) : Statement (.panReadResults o c) := fun _ => ⟨_, rfl⟩
theorem compGet (o : Origin) (c : Cmd) : Statement (.compGet o c) := fun _ => ⟨_, rfl⟩
theorem panGetStatus (o : Origin) (c : Cmd) : Statement (.panGetStatus o c) := fun _ => ⟨_, rfl⟩
theorem panPower (o : Origin) (c : Cmd) : Statement (.panPower o c) := fun _ => ⟨_, rfl⟩
theorem panSetGain (o : Origin) (c : Cmd) : Statement (.panSetGain o c) := fun _ => ⟨_, rfl⟩
theorem panSetFilter (o : Origin) (c : Cmd) : Statement (.panSetFilter o c) := fun _ => ⟨_, rfl⟩
theorem panSetSequence (o : Origin) (c : Cmd) : Statement (.panSetSequence o c) := fun _ => ⟨_, rfl⟩
theorem panSpot (o : Origin) (c : Cmd) : Statement (.panSpot o c) := fun _ => ⟨_, rfl⟩
theorem panSetTestDac (o : Origin) (c : Cmd) : Statement (.panSetTestDac o c) := fun _ => ⟨_, rfl⟩
theorem compSet (o : Origin) (c : Cmd) : Statement (.compSet o c) := fun _ => ⟨_, rfl⟩
theorem tripSet (o : Origin) (c : Cmd) : Statement (.tripSet o c) := fun _ => ⟨_, rfl⟩
theorem panSubstitute (o : Origin) (c : Cmd) : Statement (.panSubstitute o c) := fun _ => ⟨_, rfl⟩
theorem gridGetConfig (o : Origin) (c : Cmd) : Statement (.gridGetConfig o c) := fun _ => ⟨_, rfl⟩
theorem gridGetStatus (o : Origin) (c : Cmd) : Statement (.gridGetStatus o c) := fun _ => ⟨_, rfl⟩
theorem gridGetDelays (o : Origin) (c : Cmd) : Statement (.gridGetDelays o c) := fun _ => ⟨_, rfl⟩
theorem gridSetOrigin (o : Origin) (c : Cmd) : Statement (.gridSetOrigin o c) := fun _ => ⟨_, rfl⟩
theorem gridSetPeriod (o : Origin) (c : Cmd) : Statement (.gridSetPeriod o c) := fun _ => ⟨_, rfl⟩
theorem gridSetDivisor (o : Origin) (c : Cmd) : Statement (.gridSetDivisor o c) := fun _ => ⟨_, rfl⟩
theorem gridSetDelay (o : Origin) (c : Cmd) : Statement (.gridSetDelay o c) := fun _ => ⟨_, rfl⟩
theorem recipeGet (o : Origin) (c : Cmd) : Statement (.recipeGet o c) := fun _ => ⟨_, rfl⟩
theorem recipeReadBank (o : Origin) (c : Cmd) : Statement (.recipeReadBank o c) := fun _ => ⟨_, rfl⟩
theorem recipeGetAssign (o : Origin) (c : Cmd) : Statement (.recipeGetAssign o c) := fun _ => ⟨_, rfl⟩
theorem recipeGetStats (o : Origin) (c : Cmd) : Statement (.recipeGetStats o c) := fun _ => ⟨_, rfl⟩
theorem reduceGet (o : Origin) (c : Cmd) : Statement (.reduceGet o c) := fun _ => ⟨_, rfl⟩
theorem recipeDefine (o : Origin) (c : Cmd) : Statement (.recipeDefine o c) := fun _ => ⟨_, rfl⟩
theorem recipeLoadCoefs (o : Origin) (c : Cmd) : Statement (.recipeLoadCoefs o c) := fun _ => ⟨_, rfl⟩
theorem recipeSetShifts (o : Origin) (c : Cmd) : Statement (.recipeSetShifts o c) := fun _ => ⟨_, rfl⟩
theorem recipeAssign (o : Origin) (c : Cmd) : Statement (.recipeAssign o c) := fun _ => ⟨_, rfl⟩
theorem recipeSwap (o : Origin) (c : Cmd) : Statement (.recipeSwap o c) := fun _ => ⟨_, rfl⟩
theorem recipeReset (o : Origin) (c : Cmd) : Statement (.recipeReset o c) := fun _ => ⟨_, rfl⟩
theorem reduceSet (o : Origin) (c : Cmd) : Statement (.reduceSet o c) := fun _ => ⟨_, rfl⟩
theorem captureGet (o : Origin) (c : Cmd) : Statement (.captureGet o c) := fun _ => ⟨_, rfl⟩
theorem captureGetStatus (o : Origin) (c : Cmd) : Statement (.captureGetStatus o c) := fun _ => ⟨_, rfl⟩
theorem captureGetMemory (o : Origin) (c : Cmd) : Statement (.captureGetMemory o c) := fun _ => ⟨_, rfl⟩
theorem captureListHeld (o : Origin) (c : Cmd) : Statement (.captureListHeld o c) := fun _ => ⟨_, rfl⟩
theorem captureDefine (o : Origin) (c : Cmd) : Statement (.captureDefine o c) := fun _ => ⟨_, rfl⟩
theorem captureSetTrigger (o : Origin) (c : Cmd) : Statement (.captureSetTrigger o c) := fun _ => ⟨_, rfl⟩
theorem captureEnable (o : Origin) (c : Cmd) : Statement (.captureEnable o c) := fun _ => ⟨_, rfl⟩
theorem captureForce (o : Origin) (c : Cmd) : Statement (.captureForce o c) := fun _ => ⟨_, rfl⟩
theorem captureReadout (o : Origin) (c : Cmd) : Statement (.captureReadout o c) := fun _ => ⟨_, rfl⟩
theorem captureRelease (o : Origin) (c : Cmd) : Statement (.captureRelease o c) := fun _ => ⟨_, rfl⟩
theorem captureSetMeasure (o : Origin) (c : Cmd) : Statement (.captureSetMeasure o c) := fun _ => ⟨_, rfl⟩
theorem captureFree (o : Origin) (c : Cmd) : Statement (.captureFree o c) := fun _ => ⟨_, rfl⟩
theorem edgeGetConfig (o : Origin) (c : Cmd) : Statement (.edgeGetConfig o c) := fun _ => ⟨_, rfl⟩
theorem edgeGetStatus (o : Origin) (c : Cmd) : Statement (.edgeGetStatus o c) := fun _ => ⟨_, rfl⟩
theorem measGet (o : Origin) (c : Cmd) : Statement (.measGet o c) := fun _ => ⟨_, rfl⟩
theorem edgeSetInput (o : Origin) (c : Cmd) : Statement (.edgeSetInput o c) := fun _ => ⟨_, rfl⟩
theorem edgeSetStream (o : Origin) (c : Cmd) : Statement (.edgeSetStream o c) := fun _ => ⟨_, rfl⟩
theorem measSetInterval (o : Origin) (c : Cmd) : Statement (.measSetInterval o c) := fun _ => ⟨_, rfl⟩
theorem measSetFrequency (o : Origin) (c : Cmd) : Statement (.measSetFrequency o c) := fun _ => ⟨_, rfl⟩
theorem measOff (o : Origin) (c : Cmd) : Statement (.measOff o c) := fun _ => ⟨_, rfl⟩
theorem kilnGetCoding (o : Origin) (c : Cmd) : Statement (.kilnGetCoding o c) := fun _ => ⟨_, rfl⟩
theorem kilnGetStatus (o : Origin) (c : Cmd) : Statement (.kilnGetStatus o c) := fun _ => ⟨_, rfl⟩
theorem kilnJobGet (o : Origin) (c : Cmd) : Statement (.kilnJobGet o c) := fun _ => ⟨_, rfl⟩
theorem kilnRead (o : Origin) (c : Cmd) : Statement (.kilnRead o c) := fun _ => ⟨_, rfl⟩
theorem kilnGetState (o : Origin) (c : Cmd) : Statement (.kilnGetState o c) := fun _ => ⟨_, rfl⟩
theorem kilnSetCoding (o : Origin) (c : Cmd) : Statement (.kilnSetCoding o c) := fun _ => ⟨_, rfl⟩
theorem kilnSetState (o : Origin) (c : Cmd) : Statement (.kilnSetState o c) := fun _ => ⟨_, rfl⟩
theorem kilnTap (o : Origin) (c : Cmd) : Statement (.kilnTap o c) := fun _ => ⟨_, rfl⟩
theorem kilnWorkspace (o : Origin) (c : Cmd) : Statement (.kilnWorkspace o c) := fun _ => ⟨_, rfl⟩
theorem kilnWrite (o : Origin) (c : Cmd) : Statement (.kilnWrite o c) := fun _ => ⟨_, rfl⟩
theorem kilnJobStart (o : Origin) (c : Cmd) : Statement (.kilnJobStart o c) := fun _ => ⟨_, rfl⟩
theorem kilnJobResume (o : Origin) (c : Cmd) : Statement (.kilnJobResume o c) := fun _ => ⟨_, rfl⟩
theorem streamGet (o : Origin) (c : Cmd) : Statement (.streamGet o c) := fun _ => ⟨_, rfl⟩
theorem streamGetOutbound (o : Origin) (c : Cmd) : Statement (.streamGetOutbound o c) := fun _ => ⟨_, rfl⟩
theorem streamList (o : Origin) (c : Cmd) : Statement (.streamList o c) := fun _ => ⟨_, rfl⟩
theorem feedGetStatus (o : Origin) (c : Cmd) : Statement (.feedGetStatus o c) := fun _ => ⟨_, rfl⟩
theorem streamSetEnable (o : Origin) (c : Cmd) : Statement (.streamSetEnable o c) := fun _ => ⟨_, rfl⟩
theorem streamSetRecord (o : Origin) (c : Cmd) : Statement (.streamSetRecord o c) := fun _ => ⟨_, rfl⟩
theorem streamAck (o : Origin) (c : Cmd) : Statement (.streamAck o c) := fun _ => ⟨_, rfl⟩
theorem streamDropRest (o : Origin) (c : Cmd) : Statement (.streamDropRest o c) := fun _ => ⟨_, rfl⟩
theorem streamSetFormat (o : Origin) (c : Cmd) : Statement (.streamSetFormat o c) := fun _ => ⟨_, rfl⟩
theorem streamSetSpill (o : Origin) (c : Cmd) : Statement (.streamSetSpill o c) := fun _ => ⟨_, rfl⟩
theorem feedSetConfig (o : Origin) (c : Cmd) : Statement (.feedSetConfig o c) := fun _ => ⟨_, rfl⟩
theorem feedSetChannel (o : Origin) (c : Cmd) : Statement (.feedSetChannel o c) := fun _ => ⟨_, rfl⟩
theorem feedFlush (o : Origin) (c : Cmd) : Statement (.feedFlush o c) := fun _ => ⟨_, rfl⟩
theorem laneGetStatus (o : Origin) (c : Cmd) : Statement (.laneGetStatus o c) := fun _ => ⟨_, rfl⟩
theorem laneGetEq (o : Origin) (c : Cmd) : Statement (.laneGetEq o c) := fun _ => ⟨_, rfl⟩
theorem laneGetCounters (o : Origin) (c : Cmd) : Statement (.laneGetCounters o c) := fun _ => ⟨_, rfl⟩
theorem laneSetRates (o : Origin) (c : Cmd) : Statement (.laneSetRates o c) := fun _ => ⟨_, rfl⟩
theorem laneRetrain (o : Origin) (c : Cmd) : Statement (.laneRetrain o c) := fun _ => ⟨_, rfl⟩
theorem laneSetEq (o : Origin) (c : Cmd) : Statement (.laneSetEq o c) := fun _ => ⟨_, rfl⟩
theorem lanePortEnable (o : Origin) (c : Cmd) : Statement (.lanePortEnable o c) := fun _ => ⟨_, rfl⟩
theorem laneTest (o : Origin) (c : Cmd) : Statement (.laneTest o c) := fun _ => ⟨_, rfl⟩
theorem fabricGetPort (o : Origin) (c : Cmd) : Statement (.fabricGetPort o c) := fun _ => ⟨_, rfl⟩
theorem fabricGetCounters (o : Origin) (c : Cmd) : Statement (.fabricGetCounters o c) := fun _ => ⟨_, rfl⟩
theorem fabricGetRoutes (o : Origin) (c : Cmd) : Statement (.fabricGetRoutes o c) := fun _ => ⟨_, rfl⟩
theorem fabricGetConfig (o : Origin) (c : Cmd) : Statement (.fabricGetConfig o c) := fun _ => ⟨_, rfl⟩
theorem fabricSetCredit (o : Origin) (c : Cmd) : Statement (.fabricSetCredit o c) := fun _ => ⟨_, rfl⟩
theorem fabricSetLimits (o : Origin) (c : Cmd) : Statement (.fabricSetLimits o c) := fun _ => ⟨_, rfl⟩
theorem fabricLeave (o : Origin) (c : Cmd) : Statement (.fabricLeave o c) := fun _ => ⟨_, rfl⟩
theorem fabricRejoin (o : Origin) (c : Cmd) : Statement (.fabricRejoin o c) := fun _ => ⟨_, rfl⟩
theorem fabricSetVersions (o : Origin) (c : Cmd) : Statement (.fabricSetVersions o c) := fun _ => ⟨_, rfl⟩
theorem timeGetStatus (o : Origin) (c : Cmd) : Statement (.timeGetStatus o c) := fun _ => ⟨_, rfl⟩
theorem timeGetPort (o : Origin) (c : Cmd) : Statement (.timeGetPort o c) := fun _ => ⟨_, rfl⟩
theorem timeGetPps (o : Origin) (c : Cmd) : Statement (.timeGetPps o c) := fun _ => ⟨_, rfl⟩
theorem timeSetServo (o : Origin) (c : Cmd) : Statement (.timeSetServo o c) := fun _ => ⟨_, rfl⟩
theorem timeSetAsymmetry (o : Origin) (c : Cmd) : Statement (.timeSetAsymmetry o c) := fun _ => ⟨_, rfl⟩
theorem timeSetAgeing (o : Origin) (c : Cmd) : Statement (.timeSetAgeing o c) := fun _ => ⟨_, rfl⟩
theorem timeSetOutputs (o : Origin) (c : Cmd) : Statement (.timeSetOutputs o c) := fun _ => ⟨_, rfl⟩
theorem timeSetLocalRef (o : Origin) (c : Cmd) : Statement (.timeSetLocalRef o c) := fun _ => ⟨_, rfl⟩
theorem twinGetStatus (o : Origin) (c : Cmd) : Statement (.twinGetStatus o c) := fun _ => ⟨_, rfl⟩
theorem twinGetCounters (o : Origin) (c : Cmd) : Statement (.twinGetCounters o c) := fun _ => ⟨_, rfl⟩
theorem twinSetMode (o : Origin) (c : Cmd) : Statement (.twinSetMode o c) := fun _ => ⟨_, rfl⟩
theorem twinSetTiming (o : Origin) (c : Cmd) : Statement (.twinSetTiming o c) := fun _ => ⟨_, rfl⟩
theorem twinSwap (o : Origin) (c : Cmd) : Statement (.twinSwap o c) := fun _ => ⟨_, rfl⟩
theorem twinRelay (o : Origin) (c : Cmd) : Statement (.twinRelay o c) := fun _ => ⟨_, rfl⟩
theorem calGetStatus (o : Origin) (c : Cmd) : Statement (.calGetStatus o c) := fun _ => ⟨_, rfl⟩
theorem calRead (o : Origin) (c : Cmd) : Statement (.calRead o c) := fun _ => ⟨_, rfl⟩
theorem calSetMode (o : Origin) (c : Cmd) : Statement (.calSetMode o c) := fun _ => ⟨_, rfl⟩
theorem calSetReference (o : Origin) (c : Cmd) : Statement (.calSetReference o c) := fun _ => ⟨_, rfl⟩
theorem calRun (o : Origin) (c : Cmd) : Statement (.calRun o c) := fun _ => ⟨_, rfl⟩
theorem calWrite (o : Origin) (c : Cmd) : Statement (.calWrite o c) := fun _ => ⟨_, rfl⟩
theorem calStage (o : Origin) (c : Cmd) : Statement (.calStage o c) := fun _ => ⟨_, rfl⟩
theorem calApply (o : Origin) (c : Cmd) : Statement (.calApply o c) := fun _ => ⟨_, rfl⟩
theorem powerGetStatus (o : Origin) (c : Cmd) : Statement (.powerGetStatus o c) := fun _ => ⟨_, rfl⟩
theorem sluiceGetStatus (o : Origin) (c : Cmd) : Statement (.sluiceGetStatus o c) := fun _ => ⟨_, rfl⟩
theorem powerSetTolerance (o : Origin) (c : Cmd) : Statement (.powerSetTolerance o c) := fun _ => ⟨_, rfl⟩
theorem sluiceSetBudget (o : Origin) (c : Cmd) : Statement (.sluiceSetBudget o c) := fun _ => ⟨_, rfl⟩
theorem powerWake (o : Origin) (c : Cmd) : Statement (.powerWake o c) := fun _ => ⟨_, rfl⟩
theorem safetyGetStatus (o : Origin) (c : Cmd) : Statement (.safetyGetStatus o c) := fun _ => ⟨_, rfl⟩
theorem safetyGetParams (o : Origin) (c : Cmd) : Statement (.safetyGetParams o c) := fun _ => ⟨_, rfl⟩
theorem safetyGetCounters (o : Origin) (c : Cmd) : Statement (.safetyGetCounters o c) := fun _ => ⟨_, rfl⟩
theorem safetyWrite (o : Origin) (c : Cmd) : Statement (.safetyWrite o c) := fun _ => ⟨_, rfl⟩
theorem safetyConfirm (o : Origin) (c : Cmd) : Statement (.safetyConfirm o c) := fun _ => ⟨_, rfl⟩
theorem safetyDiscard (o : Origin) (c : Cmd) : Statement (.safetyDiscard o c) := fun _ => ⟨_, rfl⟩
theorem faultGetSummary (o : Origin) (c : Cmd) : Statement (.faultGetSummary o c) := fun _ => ⟨_, rfl⟩
theorem faultReadLog (o : Origin) (c : Cmd) : Statement (.faultReadLog o c) := fun _ => ⟨_, rfl⟩
theorem faultGetMemory (o : Origin) (c : Cmd) : Statement (.faultGetMemory o c) := fun _ => ⟨_, rfl⟩
theorem diagGetTemps (o : Origin) (c : Cmd) : Statement (.diagGetTemps o c) := fun _ => ⟨_, rfl⟩
theorem faultClearLog (o : Origin) (c : Cmd) : Statement (.faultClearLog o c) := fun _ => ⟨_, rfl⟩
theorem faultSetScrub (o : Origin) (c : Cmd) : Statement (.faultSetScrub o c) := fun _ => ⟨_, rfl⟩
theorem faultSetMirror (o : Origin) (c : Cmd) : Statement (.faultSetMirror o c) := fun _ => ⟨_, rfl⟩
theorem diagInject (o : Origin) (c : Cmd) : Statement (.diagInject o c) := fun _ => ⟨_, rfl⟩
theorem flashGetInfo (o : Origin) (c : Cmd) : Statement (.flashGetInfo o c) := fun _ => ⟨_, rfl⟩
theorem flashRead (o : Origin) (c : Cmd) : Statement (.flashRead o c) := fun _ => ⟨_, rfl⟩
theorem flashErase (o : Origin) (c : Cmd) : Statement (.flashErase o c) := fun _ => ⟨_, rfl⟩
theorem flashProgram (o : Origin) (c : Cmd) : Statement (.flashProgram o c) := fun _ => ⟨_, rfl⟩
theorem spiTransfer (o : Origin) (c : Cmd) : Statement (.spiTransfer o c) := fun _ => ⟨_, rfl⟩
theorem flashOperationDone (t : Nat) (status : Byte) : Statement (.flashOperationDone t status) := fun _ => ⟨_, rfl⟩
theorem flashOperationTimeout (t : Nat) : Statement (.flashOperationTimeout t) := fun _ => ⟨_, rfl⟩
theorem flashWindowRead (t : Nat) (offset : Nat) : Statement (.flashWindowRead t offset) := fun _ => ⟨_, rfl⟩
theorem mportReadFrame (t : Nat) (f : SpiFrame) : Statement (.mportReadFrame t f) := fun _ => ⟨_, rfl⟩
theorem mportWriteFrame (t : Nat) (f : SpiFrame) : Statement (.mportWriteFrame t f) := fun _ => ⟨_, rfl⟩
theorem mportNopFrame (t : Nat) (f : SpiFrame) : Statement (.mportNopFrame t f) := fun _ => ⟨_, rfl⟩
theorem mailboxPush (t : Nat) (f : SpiFrame) : Statement (.mailboxPush t f) := fun _ => ⟨_, rfl⟩
theorem mailboxPull (t : Nat) (f : SpiFrame) : Statement (.mailboxPull t f) := fun _ => ⟨_, rfl⟩
theorem mportMasterPoll (t : Nat) (f : SpiFrame) : Statement (.mportMasterPoll t f) := fun _ => ⟨_, rfl⟩
theorem commandRingRead (t : Nat) : Statement (.commandRingRead t) := fun _ => ⟨_, rfl⟩
theorem replyRingAppend (t : Nat) : Statement (.replyRingAppend t) := fun _ => ⟨_, rfl⟩
theorem flushCmd (t : Nat) : Statement (.flushCmd t) := fun _ => ⟨_, rfl⟩
theorem flushReply (t : Nat) : Statement (.flushReply t) := fun _ => ⟨_, rfl⟩
theorem sp0CtrlWrite (t : Nat) (value : BitVec 32) : Statement (.sp0CtrlWrite t value) := fun _ => ⟨_, rfl⟩
theorem sp1CtrlWrite (t : Nat) (value : BitVec 32) : Statement (.sp1CtrlWrite t value) := fun _ => ⟨_, rfl⟩
theorem timeSnapTake (t : Nat) : Statement (.timeSnapTake t) := fun _ => ⟨_, rfl⟩
theorem spCntClear (t : Nat) : Statement (.spCntClear t) := fun _ => ⟨_, rfl⟩
theorem calWindowWrite (t : Nat) (value : BitVec 32) : Statement (.calWindowWrite t value) := fun _ => ⟨_, rfl⟩
theorem calImageWindowWrite (t : Nat) (addr : Nat) (value : BitVec 32) : Statement (.calImageWindowWrite t addr value) := fun _ => ⟨_, rfl⟩
theorem registerWrite (t : Nat) (addr : Nat) (value : BitVec 32) : Statement (.registerWrite t addr value) := fun _ => ⟨_, rfl⟩
theorem resetNLow (t : Nat) (lowNs : Nat) (taken : Bool) : Statement (.resetNLow t lowNs taken) := fun _ => ⟨_, rfl⟩
theorem leaveReset (t : Nat) (straps : Straps) (idStart : BitVec 32) (temps : List Int) : Statement (.leaveReset t straps idStart temps) := fun _ => ⟨_, rfl⟩
theorem railOutOfRegulation (t : Nat) (rail : Rail) (ns : Nat) : Statement (.railOutOfRegulation t rail ns) := fun _ => ⟨_, rfl⟩
theorem supervisorRelease (t : Nat) : Statement (.supervisorRelease t) := fun _ => ⟨_, rfl⟩
theorem memorySelfTestEnd (t : Nat) (single double : List (Nat × Nat)) : Statement (.memorySelfTestEnd t single double) := fun _ => ⟨_, rfl⟩
theorem d2dLinkBringupEnd (t : Nat) (die : Nat) (locked : Bool) (failed : List Nat) : Statement (.d2dLinkBringupEnd t die locked failed) := fun _ => ⟨_, rfl⟩
theorem patchReadEnd (t : Nat) : Statement (.patchReadEnd t) := fun _ => ⟨_, rfl⟩
theorem bootComplete (t : Nat) : Statement (.bootComplete t) := fun _ => ⟨_, rfl⟩
theorem d2dLaneFailure (t : Nat) (die lane : Nat) : Statement (.d2dLaneFailure t die lane) := fun _ => ⟨_, rfl⟩
theorem gridStrobe (t : Nat) (k : Nat) : Statement (.gridStrobe t k) := fun _ => ⟨_, rfl⟩
theorem strobeMessageSend (t : Nat) (pan k : Nat) : Statement (.strobeMessageSend t pan k) := fun _ => ⟨_, rfl⟩
theorem strobeMessageReceive (t : Nat) (pan : Nat) : Statement (.strobeMessageReceive t pan) := fun _ => ⟨_, rfl⟩
theorem epochBoundary (t : Nat) : Statement (.epochBoundary t) := fun _ => ⟨_, rfl⟩
theorem conversionEnd (t : Nat) (pan : Nat) (c : Conversion) : Statement (.conversionEnd t pan c) := fun _ => ⟨_, rfl⟩
theorem urgentSlotBoundary (t : Nat) (pan : Nat) (c : Conversion) : Statement (.urgentSlotBoundary t pan c) := fun _ => ⟨_, rfl⟩
theorem spotReplyTimeout (t : Nat) : Statement (.spotReplyTimeout t) := fun _ => ⟨_, rfl⟩
theorem urgentRequestEndUnserved (t : Nat) (pan : Nat) : Statement (.urgentRequestEndUnserved t pan) := fun _ => ⟨_, rfl⟩
theorem comparatorCrossing (t : Nat) (ch : Nat) (input : Int) : Statement (.comparatorCrossing t ch input) := fun _ => ⟨_, rfl⟩
theorem tdcConversionEnd (t : Nat) (ch beats : Nat) : Statement (.tdcConversionEnd t ch beats) := fun _ => ⟨_, rfl⟩
theorem comparatorEventDelivery (t : Nat) (pan : Nat) : Statement (.comparatorEventDelivery t pan) := fun _ => ⟨_, rfl⟩
theorem overloadIntervalEnd (t : Nat) : Statement (.overloadIntervalEnd t) := fun _ => ⟨_, rfl⟩
theorem sampleArrivalMash (t : Nat) (src : MashSource) : Statement (.sampleArrivalMash t src) := fun _ => ⟨_, rfl⟩
theorem captureSample (t : Nat) : Statement (.captureSample t) := fun _ => ⟨_, rfl⟩
theorem caskHandover (t : Nat) (group : Nat) : Statement (.caskHandover t group) := fun _ => ⟨_, rfl⟩
theorem timedTriggerApply (t : Nat) (entry : Nat) : Statement (.timedTriggerApply t entry) := fun _ => ⟨_, rfl⟩
theorem scheduleTime (t : Nat) (group term : Nat) : Statement (.scheduleTime t group term) := fun _ => ⟨_, rfl⟩
theorem fabricTriggerReceive (t : Nat) (msg : Bytes) : Statement (.fabricTriggerReceive t msg) := fun _ => ⟨_, rfl⟩
theorem edgeArrival (t : Nat) (input : Nat) (rising : Bool) : Statement (.edgeArrival t input rising) := fun _ => ⟨_, rfl⟩
theorem interpolatorStampEnd (t : Nat) (input : Nat) (b : Bool) (code a1 a2 : Nat) : Statement (.interpolatorStampEnd t input b code a1 a2) := fun _ => ⟨_, rfl⟩
theorem interpolatorCalRepeat (t : Nat) (input : Nat) (b : Bool) (a1 a2 : Nat) : Statement (.interpolatorCalRepeat t input b a1 a2) := fun _ => ⟨_, rfl⟩
theorem stampArrivalMem (t : Nat) (input : Nat) : Statement (.stampArrivalMem t input) := fun _ => ⟨_, rfl⟩
theorem intervalTimeout (t : Nat) (unit : Nat) : Statement (.intervalTimeout t unit) := fun _ => ⟨_, rfl⟩
theorem frequencyGateEnd (t : Nat) (unit : Nat) : Statement (.frequencyGateEnd t unit) := fun _ => ⟨_, rfl⟩
theorem recordLatencyExpiry (t : Nat) (stream : Nat) : Statement (.recordLatencyExpiry t stream) := fun _ => ⟨_, rfl⟩
theorem recordAdmit (t : Nat) : Statement (.recordAdmit t) := fun _ => ⟨_, rfl⟩
theorem pendingGapTimeout (t : Nat) (stream : Nat) : Statement (.pendingGapTimeout t stream) := fun _ => ⟨_, rfl⟩
theorem eventEntryArise (t : Nat) : Statement (.eventEntryArise t) := fun _ => ⟨_, rfl⟩
theorem upRecordSend (t : Nat) : Statement (.upRecordSend t) := fun _ => ⟨_, rfl⟩
theorem spillDrain (t : Nat) : Statement (.spillDrain t) := fun _ => ⟨_, rfl⟩
theorem kilnRecordCode (t : Nat) (lane : Nat) (failedBlocks : List Nat) : Statement (.kilnRecordCode t lane failedBlocks) := fun _ => ⟨_, rfl⟩
theorem tapRecordDecode (t : Nat) (tap : Nat) : Statement (.tapRecordDecode t tap) := fun _ => ⟨_, rfl⟩
theorem kilnJobBlock (t : Nat) : Statement (.kilnJobBlock t) := fun _ => ⟨_, rfl⟩
theorem feedItem (t : Nat) (item : Bytes) : Statement (.feedItem t item) := fun _ => ⟨_, rfl⟩
theorem feedSyncItem (t : Nat) (item : Bytes) : Statement (.feedSyncItem t item) := fun _ => ⟨_, rfl⟩
theorem feedValidLow (t : Nat) (bytes : Nat) : Statement (.feedValidLow t bytes) := fun _ => ⟨_, rfl⟩
theorem feedWatermark (t : Nat) : Statement (.feedWatermark t) := fun _ => ⟨_, rfl⟩
theorem feedCreditReturn (t : Nat) : Statement (.feedCreditReturn t) := fun _ => ⟨_, rfl⟩
theorem trainingStepAdvance (t : Nat) (port : Port) (r : TrainingReport) : Statement (.trainingStepAdvance t port r) := fun _ => ⟨_, rfl⟩
theorem trainingStepLimit (t : Nat) (port : Port) : Statement (.trainingStepLimit t port) := fun _ => ⟨_, rfl⟩
theorem verifyEnd (t : Nat) (port : Port) (errs : List LaneErrors) : Statement (.verifyEnd t port errs) := fun _ => ⟨_, rfl⟩
theorem trainingRestartWait (t : Nat) (port : Port) : Statement (.trainingRestartWait t port) := fun _ => ⟨_, rfl⟩
theorem lossOfSignal (t : Nat) (port : Port) (lane : Nat) (d : Detector) (asserted : Bool) : Statement (.lossOfSignal t port lane d asserted) := fun _ => ⟨_, rfl⟩
theorem laneFailed (t : Nat) (port : Port) (lane : Nat) : Statement (.laneFailed t port lane) := fun _ => ⟨_, rfl⟩
theorem degradeTrainingEnd (t : Nat) (port : Port) (passed : Bool) : Statement (.degradeTrainingEnd t port passed) := fun _ => ⟨_, rfl⟩
theorem electricalIdleEntry (t : Nat) (port : Port) : Statement (.electricalIdleEntry t port) := fun _ => ⟨_, rfl⟩
theorem portWake (t : Nat) (port : Port) : Statement (.portWake t port) := fun _ => ⟨_, rfl⟩
theorem wakeBurstFail (t : Nat) (port : Port) (lane : Nat) : Statement (.wakeBurstFail t port lane) := fun _ => ⟨_, rfl⟩
theorem laneOffEntry (t : Nat) (port : Port) : Statement (.laneOffEntry t port) := fun _ => ⟨_, rfl⟩
theorem payloadReceive (t : Nat) (port : Port) (f : Frame) : Statement (.payloadReceive t port f) := fun _ => ⟨_, rfl⟩
theorem ackReceive (t : Nat) (port : Port) (f : Frame) : Statement (.ackReceive t port f) := fun _ => ⟨_, rfl⟩
theorem nakReceive (t : Nat) (port : Port) (f : Frame) : Statement (.nakReceive t port f) := fun _ => ⟨_, rfl⟩
theorem replayTimeout (t : Nat) (port : Port) : Statement (.replayTimeout t port) := fun _ => ⟨_, rfl⟩
theorem creditReceive (t : Nat) (port : Port) (f : Frame) : Statement (.creditReceive t port f) := fun _ => ⟨_, rfl⟩
theorem creditSendTimer (t : Nat) (port : Port) : Statement (.creditSendTimer t port) := fun _ => ⟨_, rfl⟩
theorem helloSendTimer (t : Nat) (port : Port) (linkId : BitVec 32) : Statement (.helloSendTimer t port linkId) := fun _ => ⟨_, rfl⟩
theorem helloReceive (t : Nat) (port : Port) (f : Frame) : Statement (.helloReceive t port f) := fun _ => ⟨_, rfl⟩
theorem abandonReceive (t : Nat) (port : Port) (f : Frame) : Statement (.abandonReceive t port f) := fun _ => ⟨_, rfl⟩
theorem attachReceive (t : Nat) (port : Port) (f : Frame) : Statement (.attachReceive t port f) := fun _ => ⟨_, rfl⟩
theorem assignReceive (t : Nat) (port : Port) (f : Frame) : Statement (.assignReceive t port f) := fun _ => ⟨_, rfl⟩
theorem restartEntriesTimeout (t : Nat) : Statement (.restartEntriesTimeout t) := fun _ => ⟨_, rfl⟩
theorem detachReceive (t : Nat) (port : Port) (f : Frame) : Statement (.detachReceive t port f) := fun _ => ⟨_, rfl⟩
theorem unreachableReceive (t : Nat) (port : Port) (f : Frame) : Statement (.unreachableReceive t port f) := fun _ => ⟨_, rfl⟩
theorem partnerLost (t : Nat) (port : Port) : Statement (.partnerLost t port) := fun _ => ⟨_, rfl⟩
theorem upDetached (t : Nat) : Statement (.upDetached t) := fun _ => ⟨_, rfl⟩
theorem syncSendTimer (t : Nat) (port : Port) (txFrac : Nat) : Statement (.syncSendTimer t port txFrac) := fun _ => ⟨_, rfl⟩
theorem pdelayReqSend (t : Nat) (port : Port) (t1 : Int) : Statement (.pdelayReqSend t port t1) := fun _ => ⟨_, rfl⟩
theorem pdelayReqReceive (t : Nat) (port : Port) (f : Frame) (t2 t3 : Int) : Statement (.pdelayReqReceive t port f t2 t3) := fun _ => ⟨_, rfl⟩
theorem pdelayRespReceive (t : Nat) (port : Port) (f : Frame) (t4 : Int) : Statement (.pdelayRespReceive t port f t4) := fun _ => ⟨_, rfl⟩
theorem syncReceive (t : Nat) (port : Port) (f : Frame) (rx : Int) : Statement (.syncReceive t port f rx) := fun _ => ⟨_, rfl⟩
theorem syncMissing (t : Nat) : Statement (.syncMissing t) := fun _ => ⟨_, rfl⟩
theorem bridgeTimeout (t : Nat) : Statement (.bridgeTimeout t) := fun _ => ⟨_, rfl⟩
theorem ppsInEdge (t : Nat) (stamp : PairCodes) : Statement (.ppsInEdge t stamp) := fun _ => ⟨_, rfl⟩
theorem trefInPresence (t : Nat) (present : Bool) (freqErr : Int) : Statement (.trefInPresence t present freqErr) := fun _ => ⟨_, rfl⟩
theorem ppsOutSecond (t : Nat) : Statement (.ppsOutSecond t) := fun _ => ⟨_, rfl⟩
theorem heartbeatSend (t : Nat) (path : HbPath) : Statement (.heartbeatSend t path) := fun _ => ⟨_, rfl⟩
theorem heartbeatReceive (t : Nat) (path : HbPath) (msg : Bytes) : Statement (.heartbeatReceive t path msg) := fun _ => ⟨_, rfl⟩
theorem heartbeatPathDead (t : Nat) (path : HbPath) : Statement (.heartbeatPathDead t path) := fun _ => ⟨_, rfl⟩
theorem dutyInChange (t : Nat) (level : Bool) : Statement (.dutyInChange t level) := fun _ => ⟨_, rfl⟩
theorem claimWindowEnd (t : Nat) : Statement (.claimWindowEnd t) := fun _ => ⟨_, rfl⟩
theorem dutyKeeperDrop (t : Nat) : Statement (.dutyKeeperDrop t) := fun _ => ⟨_, rfl⟩
theorem twinCycleEnd (t : Nat) : Statement (.twinCycleEnd t) := fun _ => ⟨_, rfl⟩
theorem copyReceive (t : Nat) (msg : Bytes) : Statement (.copyReceive t msg) := fun _ => ⟨_, rfl⟩
theorem copyAckReceive (t : Nat) (msg : Bytes) : Statement (.copyAckReceive t msg) := fun _ => ⟨_, rfl⟩
theorem mirrorReceive (t : Nat) (msg : Bytes) : Statement (.mirrorReceive t msg) := fun _ => ⟨_, rfl⟩
theorem mirrorDoneReceive (t : Nat) (msg : Bytes) : Statement (.mirrorDoneReceive t msg) := fun _ => ⟨_, rfl⟩
theorem mirrorTimeout (t : Nat) (number : Nat) : Statement (.mirrorTimeout t number) := fun _ => ⟨_, rfl⟩
theorem relayReceive (t : Nat) (msg : Bytes) : Statement (.relayReceive t msg) := fun _ => ⟨_, rfl⟩
theorem relayReplyReceive (t : Nat) (msg : Bytes) : Statement (.relayReplyReceive t msg) := fun _ => ⟨_, rfl⟩
theorem twinTriggerReceive (t : Nat) (msg : Bytes) : Statement (.twinTriggerReceive t msg) := fun _ => ⟨_, rfl⟩
theorem gangPartnerRecord (t : Nat) (record : Bytes) : Statement (.gangPartnerRecord t record) := fun _ => ⟨_, rfl⟩
theorem yieldTimeout (t : Nat) : Statement (.yieldTimeout t) := fun _ => ⟨_, rfl⟩
theorem pairingTimeout (t : Nat) : Statement (.pairingTimeout t) := fun _ => ⟨_, rfl⟩
theorem pairFormed (t : Nat) : Statement (.pairFormed t) := fun _ => ⟨_, rfl⟩
theorem rotationTrigger (t : Nat) (temps : List Int) : Statement (.rotationTrigger t temps) := fun _ => ⟨_, rfl⟩
theorem converterLoanEnd (t : Nat) (weights : List Int) (offset : Int) : Statement (.converterLoanEnd t weights offset) := fun _ => ⟨_, rfl⟩
theorem tdcSelfMeasure (t : Nat) (ch fs : Nat) : Statement (.tdcSelfMeasure t ch fs) := fun _ => ⟨_, rfl⟩
theorem foregroundPanStart (t : Nat) (pan : Nat) (vcal senseErr : Int) : Statement (.foregroundPanStart t pan vcal senseErr) := fun _ => ⟨_, rfl⟩
theorem foregroundPanEnd (t : Nat) (pan : Nat) (results : PanResults) : Statement (.foregroundPanEnd t pan results) := fun _ => ⟨_, rfl⟩
theorem groupIdleTimeout (t : Nat) (group : Nat) : Statement (.groupIdleTimeout t group) := fun _ => ⟨_, rfl⟩
theorem groupWake (t : Nat) (group : Nat) : Statement (.groupWake t group) := fun _ => ⟨_, rfl⟩
theorem dormantEntry (t : Nat) : Statement (.dormantEntry t) := fun _ => ⟨_, rfl⟩
theorem dormantExit (t : Nat) : Statement (.dormantExit t) := fun _ => ⟨_, rfl⟩
theorem wakeHoldExpiry (t : Nat) : Statement (.wakeHoldExpiry t) := fun _ => ⟨_, rfl⟩
theorem sluiceRequest (t : Nat) (op : Nat) (port : Port) : Statement (.sluiceRequest t op port) := fun _ => ⟨_, rfl⟩
theorem sluiceGrant (t : Nat) (recovery : Bool) : Statement (.sluiceGrant t recovery) := fun _ => ⟨_, rfl⟩
theorem sluiceTokenReturn (t : Nat) (op : Nat) : Statement (.sluiceTokenReturn t op) := fun _ => ⟨_, rfl⟩
theorem sluiceTimeout (t : Nat) (recovery : Bool) : Statement (.sluiceTimeout t recovery) := fun _ => ⟨_, rfl⟩
theorem safetyCycle (t : Nat) (ch : SafeCh) (sin sfb : Nat) (srst : Bool) (selfTestOk : Bool) : Statement (.safetyCycle t ch sin sfb srst selfTestOk) := fun _ => ⟨_, rfl⟩
theorem crossCompareReceive (t : Nat) (ch : SafeCh) : Statement (.crossCompareReceive t ch) := fun _ => ⟨_, rfl⟩
theorem testPulseEnd (t : Nat) (ch : SafeCh) (pair : Nat) (sfbLow : Bool) : Statement (.testPulseEnd t ch pair sfbLow) := fun _ => ⟨_, rfl⟩
theorem safetyRailFault (t : Nat) (ch : SafeCh) : Statement (.safetyRailFault t ch) := fun _ => ⟨_, rfl⟩
theorem hubEnableChange (t : Nat) (ch : SafeCh) (level : Bool) : Statement (.hubEnableChange t ch level) := fun _ => ⟨_, rfl⟩
theorem safetySetPendingTimeout (t : Nat) : Statement (.safetySetPendingTimeout t) := fun _ => ⟨_, rfl⟩
theorem eccReadError (t : Nat) (store word : Nat) (double : Bool) : Statement (.eccReadError t store word double) := fun _ => ⟨_, rfl⟩
theorem scrubPassStart (t : Nat) : Statement (.scrubPassStart t) := fun _ => ⟨_, rfl⟩
theorem scrubPassEnd (t : Nat) : Statement (.scrubPassEnd t) := fun _ => ⟨_, rfl⟩
theorem afeLost (t : Nat) (die cause lanes : Nat) : Statement (.afeLost t die cause lanes) := fun _ => ⟨_, rfl⟩
theorem afeEndStrobe (t : Nat) (die : Nat) : Statement (.afeEndStrobe t die) := fun _ => ⟨_, rfl⟩
theorem watchdogExpiry (t : Nat) : Statement (.watchdogExpiry t) := fun _ => ⟨_, rfl⟩
theorem islandDead (t : Nat) (i : Island) : Statement (.islandDead t i) := fun _ => ⟨_, rfl⟩
theorem fwSlotVerifyEnd (t : Nat) : Statement (.fwSlotVerifyEnd t) := fun _ => ⟨_, rfl⟩
theorem localTimeLock (t : Nat) : Statement (.localTimeLock t) := fun _ => ⟨_, rfl⟩
theorem laneTestEnd (t : Nat) (port : Port) (bits errs : List Nat) : Statement (.laneTestEnd t port bits errs) := fun _ => ⟨_, rfl⟩
theorem laneOffWakeTimeout (t : Nat) (port : Port) : Statement (.laneOffWakeTimeout t port) := fun _ => ⟨_, rfl⟩
theorem markerLockLost (t : Nat) (port : Port) (lane : LaneSeen) : Statement (.markerLockLost t port lane) := fun _ => ⟨_, rfl⟩
theorem idleEntryBlockReceive (t : Nat) (port : Port) (lane : Nat) : Statement (.idleEntryBlockReceive t port lane) := fun _ => ⟨_, rfl⟩
theorem copyAckTimeout (t : Nat) : Statement (.copyAckTimeout t) := fun _ => ⟨_, rfl⟩
theorem safetyChannelStart (t : Nat) (ch : SafeCh) : Statement (.safetyChannelStart t ch) := fun _ => ⟨_, rfl⟩

end Laws.Settles

end Sys2Proof
end

