-- ==== Sys2Proof/Laws/Sends.lean ====
section
/-! SUPPORT. What leaves by a port or the reply ring changes the links, the ring and what waits, and nothing else of the hub. -/
namespace Sys2Proof.Machine

open Sys2Proof

/-- What no sending changes: of fabric time only what the ports know of their exchanges (R405). -/
structure SentLike (s t : State) : Prop where
  sys : t.sys = s.sys
  front : t.front = s.front
  twin : t.twin.mode = s.twin.mode ∧ t.twin.role = s.twin.role ∧ t.twin.dutyOut = s.twin.dutyOut ∧ t.twin.windowAt = s.twin.windowAt
  fatal : t.faults.fatal = s.faults.fatal
  streams : t.streams = s.streams
  time : ∃ l, t.time = { s.time with ports := l }
  wait : t.cmds = s.cmds

theorem SentLike.same {s : State} : SentLike s s := ⟨rfl, rfl, ⟨rfl, rfl, rfl, rfl⟩, rfl, rfl, ⟨_, rfl⟩, rfl⟩
theorem SentLike.trans {a b c : State} (h : SentLike a b) (g : SentLike b c) : SentLike a c :=
  ⟨g.sys.trans h.sys, g.front.trans h.front, ⟨g.twin.1.trans h.twin.1, g.twin.2.1.trans h.twin.2.1, g.twin.2.2.1.trans h.twin.2.2.1, g.twin.2.2.2.trans h.twin.2.2.2⟩, g.fatal.trans h.fatal, g.streams.trans h.streams, let ⟨_, x⟩ := h.time; let ⟨_, y⟩ := g.time; ⟨_, by rw [y, x]⟩, g.wait.trans h.wait⟩

theorem setLink_sent (s : State) (p f) : SentLike s (s.setLink p f) := ⟨rfl, rfl, ⟨rfl, rfl, rfl, rfl⟩, rfl, rfl, ⟨_, rfl⟩, rfl⟩

theorem setPort_sent (s : State) (p f) : SentLike s (s.setPort p f) := ⟨rfl, rfl, ⟨rfl, rfl, rfl, rfl⟩, rfl, rfl, ⟨_, rfl⟩, rfl⟩

theorem traceFrame_sent (s : State) (p f) : SentLike s (s.traceFrame p f) :=
  ((setPort_sent s p _).trans (setLink_sent _ p _)).trans (setLink_sent _ p _)

theorem transmit_sent (s : State) (p f r) : SentLike s (s.transmit p f r) := by
  unfold State.transmit
  simp only
  refine SentLike.trans ?_ (traceFrame_sent _ _ _)
  split
  · exact ⟨rfl, rfl, ⟨rfl, rfl, rfl, rfl⟩, rfl, rfl, ⟨_, rfl⟩, rfl⟩
  · exact setLink_sent _ _ _

theorem payBack_sent (s : State) (o) : SentLike s (s.payBack o) := by
  unfold State.payBack; split
  · exact ⟨rfl, rfl, ⟨rfl, rfl, rfl, rfl⟩, rfl, rfl, ⟨_, rfl⟩, rfl⟩
  · exact .same

theorem stampFrame_sent (s : State) (p w) : SentLike s (s.stampFrame p w).1 := by
  unfold State.stampFrame
  simp only
  split
  · exact .same
  · simp only
    split
    · exact ⟨rfl, rfl, ⟨rfl, rfl, rfl, rfl⟩, rfl, rfl, ⟨_, rfl⟩, rfl⟩
    · exact .same

theorem flushLoop_sent (p n) (s : State) : SentLike s (flushLoop p n s) := by
  induction n generalizing s with
  | zero => exact .same
  | succ n ih =>
    unfold flushLoop
    split
    · exact .same
    · exact ((((setLink_sent _ _ _).trans (stampFrame_sent _ _ _)).trans (transmit_sent _ _ _ _)).trans (payBack_sent _ _)).trans (ih _)

theorem queuePayload_sent (s : State) (p a b c d e f g) : SentLike s (s.queuePayload p a b c d e f g) := by
  unfold State.queuePayload State.flush
  exact (setLink_sent _ _ _).trans (flushLoop_sent _ _ _)

theorem foldl_sent {β} (f : State → β → State) (h : ∀ s b, SentLike s (f s b)) (l : List β) (s : State) : SentLike s (l.foldl f s) := by
  induction l generalizing s with
  | nil => exact .same
  | cons b r ih => exact (h s b).trans (ih _)

theorem sendReply_sent (s : State) (e) : SentLike s (s.sendReply e) := by
  unfold State.sendReply
  split
  · exact ⟨rfl, rfl, ⟨rfl, rfl, rfl, rfl⟩, rfl, rfl, ⟨_, rfl⟩, rfl⟩
  · split
    · exact queuePayload_sent _ _ _ _ _ _ _ _ _
    · exact .same
  · exact queuePayload_sent _ _ _ _ _ _ _ _ _

theorem sendReplies_sent (s : State) (h : s.sys.fwPaused = false) : SentLike { s with cmds := { s.cmds with waiting := [] } } s.sendReplies := by
  unfold State.sendReplies
  rw [if_neg (by simp [h])]
  exact foldl_sent _ sendReply_sent _ _

theorem sendOutbox_sent (s : State) : SentLike s s.sendOutbox := by
  unfold State.sendOutbox
  split
  · exact .same
  · simp only
    split
    · exact ⟨rfl, rfl, ⟨rfl, rfl, rfl, rfl⟩, rfl, rfl, ⟨_, rfl⟩, rfl⟩
    · exact SentLike.trans (b := s.setTwin fun w => { w with outbox := [] }) ⟨rfl, rfl, ⟨rfl, rfl, rfl, rfl⟩, rfl, rfl, ⟨_, rfl⟩, rfl⟩ (foldl_sent _ (fun s b => queuePayload_sent _ _ _ _ _ _ _ _ _) _ _)

theorem tripLevels_congr {s t : State} (h1 : t.sys = s.sys) (h2 : t.front.chans = s.front.chans ∧ t.front.afeLost = s.front.afeLost ∧ t.front.tripEnable = s.front.tripEnable ∧ t.front.tripPolarity = s.front.tripPolarity) (h3 : t.twin.mode = s.twin.mode ∧ t.twin.role = s.twin.role ∧ t.twin.dutyOut = s.twin.dutyOut ∧ t.twin.windowAt = s.twin.windowAt) : t.tripLevels = s.tripLevels := by
  obtain ⟨a, b, c, d⟩ := h2; obtain ⟨e, f, g, i⟩ := h3
  simp only [State.tripLevels, State.mayIssue, State.base, State.dieLost, h1, a, b, c, d, e, f, g, i]
  rfl

/-- What a round of sending leaves: the hub's own state, with nothing formed left to send and config_gen notified. -/
theorem sendFormed_facts (s : State) :
    s.sendFormed.sys = s.sys ∧ s.sendFormed.front = s.front ∧ s.sendFormed.faults.fatal = s.faults.fatal ∧
    (s.sendFormed.twin.mode = s.twin.mode ∧ s.sendFormed.twin.role = s.twin.role ∧ s.sendFormed.twin.dutyOut = s.twin.dutyOut ∧ s.sendFormed.twin.windowAt = s.twin.windowAt) ∧
    (s.sys.fwPaused = false → s.sendFormed.cmds.waiting = [] ∧ s.sendFormed.streams.notified = s.sys.configGen) := by
  have key : ∀ t : State, t.noteReset.sys = t.sys ∧ t.noteReset.front = t.front ∧ t.noteReset.faults = t.faults ∧ t.noteReset.twin = t.twin ∧ t.noteReset.cmds.waiting = t.cmds.waiting ∧ t.noteReset.streams = t.streams := by
    intro t; unfold State.noteReset; split
    · split <;> exact ⟨rfl, rfl, rfl, rfl, rfl, rfl⟩
    · exact ⟨rfl, rfl, rfl, rfl, rfl, rfl⟩
  have left : ∀ t : State, t.noteLeft.sys = t.sys ∧ t.noteLeft.front = t.front ∧ t.noteLeft.faults = t.faults ∧ t.noteLeft.twin = t.twin ∧ t.noteLeft.cmds.waiting = t.cmds.waiting ∧ t.noteLeft.streams = t.streams :=
    fun t => ⟨rfl, rfl, rfl, rfl, rfl, rfl⟩
  unfold State.sendFormed
  cases hp : s.sys.fwPaused with
  | true =>
    have h1 : s.sendReplies = s := by unfold State.sendReplies; rw [if_pos hp]
    rw [h1]
    obtain ⟨a', b', c', d', e', f'⟩ := left s
    have h2 : s.noteLeft.noteGen = s.noteLeft := by unfold State.noteGen; rw [if_pos (by rw [a']; exact hp)]
    rw [h2]
    obtain ⟨a, b, c, d, e, f⟩ := key s.noteLeft
    rw [a, b, c, d, a', b', c', d']
    exact ⟨rfl, rfl, rfl, ⟨rfl, rfl, rfl, rfl⟩, by intro h; cases h⟩
  | false =>
    have h := sendReplies_sent s hp
    generalize s.sendReplies = u at *
    obtain ⟨a', b', c', d', e', f'⟩ := left u
    have h2 : u.noteLeft.noteGen = { u.noteLeft with streams := { u.noteLeft.streams with notified := u.noteLeft.sys.configGen } } := by
      unfold State.noteGen; rw [if_neg]; rw [a', h.sys]; simp [hp]
    obtain ⟨a, b, c, d, e, f⟩ := key u.noteLeft.noteGen
    rw [a, b, c, d, e, f, h2]
    refine ⟨a'.trans h.sys, b'.trans h.front, by show u.noteLeft.faults.fatal = _; rw [c']; exact h.fatal, by show u.noteLeft.twin.mode = _ ∧ _; rw [d']; exact h.twin, fun _ => ⟨by show u.noteLeft.cmds.waiting = []; rw [e', h.wait], by show u.noteLeft.sys.configGen = _; rw [a', h.sys]⟩⟩

end Sys2Proof.Machine
end

