-- ==== Sys2Proof/WellFormed.lean ====
section
/-! DEFINITION. Which operands a row of the table can carry: numbers of pans, channels, queues, units, ports and lanes that exist, and strings of the length their row gives them. The machine takes any operand; what no hardware could bring it is ill-formed. -/
namespace Sys2Proof

/-- A command packet fits a Dalevo frame payload of 2,048 bytes (R368). -/
def Cmd.wf (c : Cmd) : Bool := decide (c.params.length ≤ 2032)

/-- A frame's payload is within 2,048 bytes. -/
def Frame.wf (f : Frame) : Bool := decide (f.payload.length ≤ 2048)

/-- As many whole words were shifted in as the clocked bits make. -/
def SpiFrame.wf (f : SpiFrame) : Bool := decide (f.words.length ≤ f.bits / 32)

/-- A conversion's code is within what the converter's weights can give. -/
def Conversion.wf (c : Conversion) : Bool := decide (-8388608 ≤ c.code) && decide (c.code ≤ 8388607)

/-- A pan of the hub. -/
def MashSource.wf : MashSource → Bool
  | .pan p => decide (p < 32)
  | _ => true

/-- A marker position holds a sync header of 0b01 or 0b10 and 8 bytes. -/
def MarkerSeen.wf (m : MarkerSeen) : Bool := (m.header == 1 || m.header == 2) && m.bytes.length == 8

/-- A training report speaks of lanes 0 to 7 and of whole training blocks. -/
def TrainingReport.wf (r : TrainingReport) : Bool := r.lanes.all (fun l => decide (l.lane < 8) && l.markers.all (·.wf) && (l.block.length == 0 || l.block.length == 8))

/-- A stream_id [19:0] of one of the seven kinds (R304). -/
def streamWf (key : Nat) : Bool := decide (key < 7 * 65536)

/-- Whether the operands of a command are ones that the hardware can bring. (log 4: DESIGN CHOICE) -/
def Instr.wf : Instr → Bool
  | .hello _ c => c.wf
  | .getInfo _ c => c.wf
  | .goodbye _ c => c.wf
  | .echo _ c => c.wf
  | .cmdAbort _ c => c.wf
  | .cmdQuery _ c => c.wf
  | .cmdStats _ c => c.wf
  | .fenceWaitEnd _ queue => decide (queue < 8)
  | .sessionIdleTimeout _ slot => decide (slot < 8)
  | .stateGet _ c => c.wf
  | .stateHistory _ c => c.wf
  | .stateRun _ c => c.wf
  | .stateStop _ c => c.wf
  | .stateGoLocal _ c => c.wf
  | .stateReset _ c => c.wf
  | .stateLeaveFault _ c => c.wf
  | .fwGetStatus _ c => c.wf
  | .fwVerify _ c => c.wf
  | .fwActivate _ c => c.wf
  | .firmwareActivationStart _ => true
  | .firmwareRestartEnd _ => true
  | .panGetConfig _ c => c.wf
  | .panReadResults _ c => c.wf
  | .compGet _ c => c.wf
  | .panGetStatus _ c => c.wf
  | .panPower _ c => c.wf
  | .panSetGain _ c => c.wf
  | .panSetFilter _ c => c.wf
  | .panSetSequence _ c => c.wf
  | .panSpot _ c => c.wf
  | .panSetTestDac _ c => c.wf
  | .compSet _ c => c.wf
  | .tripSet _ c => c.wf
  | .panSubstitute _ c => c.wf
  | .gridGetConfig _ c => c.wf
  | .gridGetStatus _ c => c.wf
  | .gridGetDelays _ c => c.wf
  | .gridSetOrigin _ c => c.wf
  | .gridSetPeriod _ c => c.wf
  | .gridSetDivisor _ c => c.wf
  | .gridSetDelay _ c => c.wf
  | .recipeGet _ c => c.wf
  | .recipeReadBank _ c => c.wf
  | .recipeGetAssign _ c => c.wf
  | .recipeGetStats _ c => c.wf
  | .reduceGet _ c => c.wf
  | .recipeDefine _ c => c.wf
  | .recipeLoadCoefs _ c => c.wf
  | .recipeSetShifts _ c => c.wf
  | .recipeAssign _ c => c.wf
  | .recipeSwap _ c => c.wf
  | .recipeReset _ c => c.wf
  | .reduceSet _ c => c.wf
  | .captureGet _ c => c.wf
  | .captureGetStatus _ c => c.wf
  | .captureGetMemory _ c => c.wf
  | .captureListHeld _ c => c.wf
  | .captureDefine _ c => c.wf
  | .captureSetTrigger _ c => c.wf
  | .captureEnable _ c => c.wf
  | .captureForce _ c => c.wf
  | .captureReadout _ c => c.wf
  | .captureRelease _ c => c.wf
  | .captureSetMeasure _ c => c.wf
  | .captureFree _ c => c.wf
  | .edgeGetConfig _ c => c.wf
  | .edgeGetStatus _ c => c.wf
  | .measGet _ c => c.wf
  | .edgeSetInput _ c => c.wf
  | .edgeSetStream _ c => c.wf
  | .measSetInterval _ c => c.wf
  | .measSetFrequency _ c => c.wf
  | .measOff _ c => c.wf
  | .kilnGetCoding _ c => c.wf
  | .kilnGetStatus _ c => c.wf
  | .kilnJobGet _ c => c.wf
  | .kilnRead _ c => c.wf
  | .kilnGetState _ c => c.wf
  | .kilnSetCoding _ c => c.wf
  | .kilnSetState _ c => c.wf
  | .kilnTap _ c => c.wf
  | .kilnWorkspace _ c => c.wf
  | .kilnWrite _ c => c.wf
  | .kilnJobStart _ c => c.wf
  | .kilnJobResume _ c => c.wf
  | .streamGet _ c => c.wf
  | .streamGetOutbound _ c => c.wf
  | .streamList _ c => c.wf
  | .feedGetStatus _ c => c.wf
  | .streamSetEnable _ c => c.wf
  | .streamSetRecord _ c => c.wf
  | .streamAck _ c => c.wf
  | .streamDropRest _ c => c.wf
  | .streamSetFormat _ c => c.wf
  | .streamSetSpill _ c => c.wf
  | .feedSetConfig _ c => c.wf
  | .feedSetChannel _ c => c.wf
  | .feedFlush _ c => c.wf
  | .laneGetStatus _ c => c.wf
  | .laneGetEq _ c => c.wf
  | .laneGetCounters _ c => c.wf
  | .laneSetRates _ c => c.wf
  | .laneRetrain _ c => c.wf
  | .laneSetEq _ c => c.wf
  | .lanePortEnable _ c => c.wf
  | .laneTest _ c => c.wf
  | .fabricGetPort _ c => c.wf
  | .fabricGetCounters _ c => c.wf
  | .fabricGetRoutes _ c => c.wf
  | .fabricGetConfig _ c => c.wf
  | .fabricSetCredit _ c => c.wf
  | .fabricSetLimits _ c => c.wf
  | .fabricLeave _ c => c.wf
  | .fabricRejoin _ c => c.wf
  | .fabricSetVersions _ c => c.wf
  | .timeGetStatus _ c => c.wf
  | .timeGetPort _ c => c.wf
  | .timeGetPps _ c => c.wf
  | .timeSetServo _ c => c.wf
  | .timeSetAsymmetry _ c => c.wf
  | .timeSetAgeing _ c => c.wf
  | .timeSetOutputs _ c => c.wf
  | .timeSetLocalRef _ c => c.wf
  | .twinGetStatus _ c => c.wf
  | .twinGetCounters _ c => c.wf
  | .twinSetMode _ c => c.wf
  | .twinSetTiming _ c => c.wf
  | .twinSwap _ c => c.wf
  | .twinRelay _ c => c.wf
  | .calGetStatus _ c => c.wf
  | .calRead _ c => c.wf
  | .calSetMode _ c => c.wf
  | .calSetReference _ c => c.wf
  | .calRun _ c => c.wf
  | .calWrite _ c => c.wf
  | .calStage _ c => c.wf
  | .calApply _ c => c.wf
  | .powerGetStatus _ c => c.wf
  | .sluiceGetStatus _ c => c.wf
  | .powerSetTolerance _ c => c.wf
  | .sluiceSetBudget _ c => c.wf
  | .powerWake _ c => c.wf
  | .safetyGetStatus _ c => c.wf
  | .safetyGetParams _ c => c.wf
  | .safetyGetCounters _ c => c.wf
  | .safetyWrite _ c => c.wf
  | .safetyConfirm _ c => c.wf
  | .safetyDiscard _ c => c.wf
  | .faultGetSummary _ c => c.wf
  | .faultReadLog _ c => c.wf
  | .faultGetMemory _ c => c.wf
  | .diagGetTemps _ c => c.wf
  | .faultClearLog _ c => c.wf
  | .faultSetScrub _ c => c.wf
  | .faultSetMirror _ c => c.wf
  | .diagInject _ c => c.wf
  | .flashGetInfo _ c => c.wf
  | .flashRead _ c => c.wf
  | .flashErase _ c => c.wf
  | .flashProgram _ c => c.wf
  | .spiTransfer _ c => c.wf
  | .flashOperationDone _ _ => true
  | .flashOperationTimeout _ => true
  | .flashWindowRead _ offset => decide (offset < 2 ^ 28)
  | .mportReadFrame _ f => f.wf
  | .mportWriteFrame _ f => f.wf
  | .mportNopFrame _ f => f.wf
  | .mailboxPush _ f => f.wf
  | .mailboxPull _ f => f.wf
  | .mportMasterPoll _ f => f.wf
  | .commandRingRead _ => true
  | .replyRingAppend _ => true
  | .flushCmd _ => true
  | .flushReply _ => true
  | .sp0CtrlWrite _ _ => true
  | .sp1CtrlWrite _ _ => true
  | .timeSnapTake _ => true
  | .spCntClear _ => true
  | .calWindowWrite _ _ => true
  | .calImageWindowWrite _ addr _ => decide (0x2000 ≤ addr) && decide (addr < 0x2FF0) && addr % 4 == 0
  | .registerWrite _ addr _ => decide (addr < 0x100000) && addr % 4 == 0
  | .resetNLow _ _ _ => true
  | .leaveReset _ _ _ temps => temps.length == 10
  | .railOutOfRegulation _ _ _ => true
  | .supervisorRelease _ => true
  | .memorySelfTestEnd _ single double => single.all (fun e => decide (e.1 < 4)) && double.all (fun e => decide (e.1 < 4))
  | .d2dLinkBringupEnd _ die _ failed => decide (die < 2) && failed.all (fun l => decide (l < 58))
  | .patchReadEnd _ => true
  | .bootComplete _ => true
  | .d2dLaneFailure _ die lane => decide (die < 2) && decide (lane < 58)
  | .gridStrobe _ _ => true
  | .strobeMessageSend _ pan _ => decide (pan < 32)
  | .strobeMessageReceive _ pan => decide (pan < 32)
  | .epochBoundary _ => true
  | .conversionEnd _ pan c => decide (pan < 32) && c.wf
  | .urgentSlotBoundary _ pan c => decide (pan < 32) && c.wf
  | .spotReplyTimeout _ => true
  | .urgentRequestEndUnserved _ pan => decide (pan < 32)
  | .comparatorCrossing _ ch _ => decide (ch < 256)
  | .tdcConversionEnd _ ch beats => decide (ch < 256) && decide (1 ≤ beats) && decide (beats ≤ 64)
  | .comparatorEventDelivery _ pan => decide (pan < 32)
  | .overloadIntervalEnd _ => true
  | .sampleArrivalMash _ src => src.wf
  | .captureSample _ => true
  | .caskHandover _ group => decide (group < 16)
  | .timedTriggerApply _ entry => decide (entry < 80)
  | .scheduleTime _ group term => decide (group < 16) && decide (term < 4)
  | .fabricTriggerReceive _ msg => msg.length == 16
  | .edgeArrival _ input _ => decide (input < 16)
  | .interpolatorStampEnd _ input _ _ _ _ => decide (input < 16)
  | .interpolatorCalRepeat _ input _ _ _ => decide (input < 16)
  | .stampArrivalMem _ input => decide (input < 16)
  | .intervalTimeout _ unit => decide (unit < 8)
  | .frequencyGateEnd _ unit => decide (unit < 8)
  | .recordLatencyExpiry _ stream => streamWf stream
  | .recordAdmit _ => true
  | .pendingGapTimeout _ stream => streamWf stream
  | .eventEntryArise _ => true
  | .upRecordSend _ => true
  | .spillDrain _ => true
  | .kilnRecordCode _ lane _ => decide (lane < 4)
  | .tapRecordDecode _ tap => decide (tap < 8)
  | .kilnJobBlock _ => true
  | .feedItem _ _ => true
  | .feedSyncItem _ _ => true
  | .feedValidLow _ _ => true
  | .feedWatermark _ => true
  | .feedCreditReturn _ => true
  | .trainingStepAdvance _ _ r => r.wf
  | .trainingStepLimit _ _ => true
  | .verifyEnd _ _ errs => errs.all (fun e => decide (e.lane < 8))
  | .trainingRestartWait _ _ => true
  | .lossOfSignal _ _ lane _ _ => decide (lane < 8)
  | .laneFailed _ _ lane => decide (lane < 8)
  | .degradeTrainingEnd _ _ _ => true
  | .electricalIdleEntry _ _ => true
  | .portWake _ _ => true
  | .wakeBurstFail _ _ lane => decide (lane < 8)
  | .laneOffEntry _ _ => true
  | .payloadReceive _ _ f => f.wf
  | .ackReceive _ _ f => f.wf
  | .nakReceive _ _ f => f.wf
  | .replayTimeout _ _ => true
  | .creditReceive _ _ f => f.wf
  | .creditSendTimer _ _ => true
  | .helloSendTimer _ _ _ => true
  | .helloReceive _ _ f => f.wf
  | .abandonReceive _ _ f => f.wf
  | .attachReceive _ _ f => f.wf
  | .assignReceive _ _ f => f.wf
  | .restartEntriesTimeout _ => true
  | .detachReceive _ _ f => f.wf
  | .unreachableReceive _ _ f => f.wf
  | .partnerLost _ _ => true
  | .upDetached _ => true
  | .syncSendTimer _ _ _ => true
  | .pdelayReqSend _ _ _ => true
  | .pdelayReqReceive _ _ f _ _ => f.wf
  | .pdelayRespReceive _ _ f _ => f.wf
  | .syncReceive _ _ f _ => f.wf
  | .syncMissing _ => true
  | .bridgeTimeout _ => true
  | .ppsInEdge _ _ => true
  | .trefInPresence _ _ _ => true
  | .ppsOutSecond _ => true
  | .heartbeatSend _ _ => true
  | .heartbeatReceive _ _ _ => true
  | .heartbeatPathDead _ _ => true
  | .dutyInChange _ _ => true
  | .claimWindowEnd _ => true
  | .dutyKeeperDrop _ => true
  | .twinCycleEnd _ => true
  | .copyReceive _ _ => true
  | .copyAckReceive _ _ => true
  | .mirrorReceive _ _ => true
  | .mirrorDoneReceive _ _ => true
  | .mirrorTimeout _ _ => true
  | .relayReceive _ _ => true
  | .relayReplyReceive _ _ => true
  | .twinTriggerReceive _ _ => true
  | .gangPartnerRecord _ _ => true
  | .yieldTimeout _ => true
  | .pairingTimeout _ => true
  | .pairFormed _ => true
  | .rotationTrigger _ temps => temps.length == 10
  | .converterLoanEnd _ weights _ => weights.length == 24
  | .tdcSelfMeasure _ ch _ => decide (ch < 256)
  | .foregroundPanStart _ pan _ _ => decide (pan < 32)
  | .foregroundPanEnd _ pan _ => decide (pan < 32)
  | .groupIdleTimeout _ group => decide (group < 6)
  | .groupWake _ group => decide (group < 6)
  | .dormantEntry _ => true
  | .dormantExit _ => true
  | .wakeHoldExpiry _ => true
  | .sluiceRequest _ op _ => decide (1 ≤ op) && decide (op ≤ 7)
  | .sluiceGrant _ _ => true
  | .sluiceTokenReturn _ op => decide (1 ≤ op) && decide (op ≤ 7)
  | .sluiceTimeout _ _ => true
  | .safetyCycle _ _ sin sfb _ _ => decide (sin < 256) && decide (sfb < 16)
  | .crossCompareReceive _ _ => true
  | .testPulseEnd _ _ pair _ => decide (pair < 4)
  | .safetyRailFault _ _ => true
  | .hubEnableChange _ _ _ => true
  | .safetySetPendingTimeout _ => true
  | .eccReadError _ _ _ _ => true
  | .scrubPassStart _ => true
  | .scrubPassEnd _ => true
  | .afeLost _ die _ _ => decide (die < 2)
  | .afeEndStrobe _ die => decide (die < 2)
  | .watchdogExpiry _ => true
  | .islandDead _ _ => true
  | .fwSlotVerifyEnd _ => true
  | .localTimeLock _ => true
  | .laneTestEnd _ _ bits errs => bits.length == errs.length && decide (bits.length ≤ 8)
  | .laneOffWakeTimeout _ _ => true
  | .markerLockLost _ _ lane => decide (lane.lane < 8) && lane.markers.all (·.wf)
  | .idleEntryBlockReceive _ _ lane => decide (lane < 8)
  | .copyAckTimeout _ => true
  | .safetyChannelStart _ _ => true

end Sys2Proof
end

