-- ==== Sys2Proof/Tests/Slice0.lean ====
section
/-! SUPPORT. Tests: the smoke test of well-formedness, the spec's worked examples, and for every statement with hypotheses the states and operands that meet them. -/
namespace Sys2Proof.Tests

set_option Elab.async false

open Sys2Proof Sys2Proof.Machine

/-! ## States and operands -/

/-- A session over MPORT in slot 0. -/
def ses0 : Session := { id := 7, origin := .mport, source := 0, version := 3, queues := 1, lock := false, stateNotices := false, idleTimeout := 0, lastAdmit := 0, label := 0, noticeTag := 128, finishing := none }

/-- A hub in READY with one session. -/
def b0 : State := { State.reset with sys := { State.reset.sys with hub := .ready }, cmds := { State.reset.cmds with sessions := [(0, ses0)], nextId := 8 } }

/-- The hub state. -/
def hub (h : HubState) (s : State) : State := { s with sys := { s.sys with hub := h } }

/-- Fabric time in ns. -/
def clk (n : Nat) (s : State) : State := { s with time := { s.time with counter := n * 2 ^ 40 } }

/-- Pan 0 powered. -/
def pan0 (f : Pan → Pan) (s : State) : State := s.setPan 0 (fun x => f { x with power := .on })

/-- A hub that runs, with pan 0 powered. -/
def r0 : State := hub .run (pan0 id b0)

/-- A port in service with its link up and credit given. -/
def up (p : Port) (s : State) : State := (s.setPort p (fun x => { x with state := 3, used := [0] })).setLink p (fun l => { l with state := 3, version := (2, 0), offered := (2, 0), given := [(0, 100), (1, 100), (2, 100), (3, 100)] })

/-- A twin, as given. -/
def tw (f : Twin → Twin) (s : State) : State := s.setTwin (fun w => f { w with paired := true, linkAt := some 0, pinAt := some 0 })

/-- A command of the session with parameters. -/
def cmdOf (p : Bytes) : Cmd := { version := 3, flags := 0, tag := 1, queue := 0, paramLength := BitVec.ofNat 16 p.length, target := 0, source := 0, sessionId := 7, params := p }

/-- An admitted command as it executes. -/
def held0 (op : BitVec 16) (p : Bytes) : Held := { serial := 5, owner := .session 0, origin := .mport, opcode := op, cmd := cmdOf p, version := 3, replyId := 7, immediate := false, segment := 0, phase := .executing, admitted := 0, started := 0 }

/-- A packet of ECHO. -/
def pkt0 : Packet := { opcode := 4, cmd := cmdOf [] }

/-- A good patch slot with a body of 4 bytes, and one whose body_crc is wrong. -/
def slotBytes (crc : Nat) : Bytes := let h := le 4 0x5A4E5054 ++ le 2 1 ++ le 2 0x0A01 ++ le 4 0x00020005 ++ le 4 4 ++ le 4 1 ++ zeros 4 ++ le 4 crc ++ zeros 32; h ++ le 4 (crc32c h) ++ zeros 4

/-- Flash contents from address 0. -/
def flash0 (b : Bytes) (s : State) : State := s.writeFlash 0 b

/-- A command in group 0x02 stands for one that executes. -/
def st0 (key kind : Nat) : Record := { key, kind, units := 1, samples := [5], payload := [] }

/-- Capture group 0, as given: option bits and state. -/
def grp0 (o : Nat) (st : GroupState) (s : State) : State := s.setGroup 0 (fun _ => { state := st, define := le 4 (65536 * o) ++ le 4 1 ++ zeros 4 ++ le 4 1 ++ le 4 2 ++ zeros 4 ++ [1] ++ zeros 39 })

/-- Recipe 0, with one coefficient of the first filter. -/
def rec0 (s : State) : State := s.setRecipe 0 (fun _ => { isDefined := true, stages := 1, t1 := 1, m1 := 1, bankA := { fir1 := [1] }, bankB := { fir1 := [1] } })

/-- A kiln workspace of 1 KiB. -/
def work (s : State) : State := { s with kiln := { s.kiln with workKiB := 1 } }

/-- A safety set that uses nothing. -/
def set0 : Bytes := let b := le 2 0x5346 ++ le 2 1 ++ zeros 56; le 4 (setCrc (zeros 4 ++ b)) ++ b

/-- Both safety channels out of reset. -/
def safe (f : SafeChan → SafeChan) (s : State) : State := s.setSafety (fun x => { x with a := f { x.a with held := false }, b := f { x.b with held := false } })

/-! ## Well-formedness -/

/-- A valid alignment marker of a logical lane of port UP at a block index. -/
def mark (lane index : Nat) : MarkerSeen := { index, header := 2, bytes := (alignmentMarker lane 0 0 0).payload, arrival := 0, bip := 0 }

/-- A report in which lanes have done all that a training step needs. -/
def rep (step : Nat) (lanes : List Nat) : TrainingReport :=
  { lanes := lanes.map (fun i => { lane := i, signal := true, valid := 64, markers := [mark i 0, mark i 16384], block := (trainingBlock step 31 7 0 0 true false false 0).payload, requests := [], settled := true, peaking := 0 }) }

/-- A report that names one lane, with one marker and a training block. -/
def rep1 (lane : Nat) (m : MarkerSeen) (block : Bytes) : TrainingReport := { lanes := [{ lane, signal := true, valid := 64, markers := [m], block, requests := [], settled := true, peaking := 0 }] }

/-- A conversion's code. -/
def conv (c : Int) : Conversion := { code := c, disagree := 0, overran := false, overload := false, commonMode := false }

/-- Each check refuses a term just beyond its bound. -/
theorem test_ill_formed_terms_are_refused :
    (([.echo .mport { cmdOf [] with params := List.replicate 2033 0 }, .fenceWaitEnd 0 8, .sessionIdleTimeout 0 8, .flashWindowRead 0 (2 ^ 28),
      .mportNopFrame 0 { bits := 31, words := [0], rdyWasLow := false }, .calImageWindowWrite 0 0x1FFC 0, .calImageWindowWrite 0 0x2FF0 0, .registerWrite 0 2 0, .registerWrite 0 0x100000 0,
      .leaveReset 0 ⟨0, false⟩ 0 [], .memorySelfTestEnd 0 [(4, 0)] [], .memorySelfTestEnd 0 [] [(4, 0)], .d2dLinkBringupEnd 0 2 true [], .d2dLinkBringupEnd 0 0 true [58], .d2dLaneFailure 0 2 0, .d2dLaneFailure 0 0 58,
      .strobeMessageSend 0 32 0, .strobeMessageReceive 0 32, .conversionEnd 0 32 (conv 0), .conversionEnd 0 0 (conv 8388608), .conversionEnd 0 0 (conv (-8388609)), .urgentSlotBoundary 0 32 (conv 0),
      .urgentRequestEndUnserved 0 32, .comparatorCrossing 0 256 0, .tdcConversionEnd 0 256 1, .tdcConversionEnd 0 0 0, .tdcConversionEnd 0 0 65, .comparatorEventDelivery 0 32] : List Instr) ++
     ([.sampleArrivalMash 0 (.pan 32), .caskHandover 0 16, .timedTriggerApply 0 80, .scheduleTime 0 16 0, .scheduleTime 0 0 4, .fabricTriggerReceive 0 (zeros 15), .edgeArrival 0 16 true, .interpolatorStampEnd 0 16 false 0 0 0,
      .interpolatorCalRepeat 0 16 false 0 0, .stampArrivalMem 0 16, .intervalTimeout 0 8, .frequencyGateEnd 0 8, .recordLatencyExpiry 0 (7 * 65536), .pendingGapTimeout 0 (7 * 65536), .kilnRecordCode 0 4 [], .tapRecordDecode 0 8,
      .trainingStepAdvance 0 .up (rep 2 [8]), .trainingStepAdvance 0 .up (rep1 0 { mark 0 0 with header := 0 } []), .trainingStepAdvance 0 .up (rep1 0 { mark 0 0 with bytes := zeros 7 } []), .trainingStepAdvance 0 .up (rep1 0 (mark 0 0) (zeros 7)), .verifyEnd 0 .up [{ lane := 8, headers := 0, bip8 := 0, lost := false }], .lossOfSignal 0 .up 8 .signal false, .laneFailed 0 .up 8, .wakeBurstFail 0 .up 8,
      .payloadReceive 0 .up { frameOf 1 0 0 0 0 [] with payload := List.replicate 2049 0 }, .rotationTrigger 0 [], .converterLoanEnd 0 [] 0, .tdcSelfMeasure 0 256 0, .foregroundPanStart 0 32 0 0,
      .groupIdleTimeout 0 6, .groupWake 0 6, .sluiceRequest 0 8 .up, .sluiceRequest 0 0 .up, .sluiceTokenReturn 0 8, .safetyCycle 0 .a 256 0 false false, .safetyCycle 0 .a 0 16 false false, .testPulseEnd 0 .a 4 true,
      .afeLost 0 2 1 0, .afeEndStrobe 0 2, .laneTestEnd 0 .up [0] [], .markerLockLost 0 .up { lane := 8, markers := [] }, .markerLockLost 0 .up { lane := 0, markers := [{ mark 0 0 with header := 3 }] }, .idleEntryBlockReceive 0 .up 8] : List Instr)).all (fun i => !i.wf) = true := by decide +kernel

/-- Terms at the bounds are accepted. -/
theorem test_terms_at_the_bounds_are_accepted :
    ([.echo .mport (cmdOf (zeros 2032)), .fenceWaitEnd 0 7, .flashWindowRead 0 (2 ^ 28 - 1), .mportNopFrame 0 { bits := 32, words := [0], rdyWasLow := false }, .calImageWindowWrite 0 0x2FEC 0, .d2dLaneFailure 0 1 57,
      .conversionEnd 0 31 (conv 8388607), .tdcConversionEnd 0 255 64, .sampleArrivalMash 0 (.pan 31), .timedTriggerApply 0 79, .scheduleTime 0 15 3, .recordLatencyExpiry 0 (7 * 65536 - 1), .trainingStepAdvance 0 .up (rep 2 [7]),
      .groupWake 0 5, .sluiceRequest 0 7 .up, .safetyCycle 0 .a 255 15 false false, .laneTestEnd 0 .up [0] [0]] : List Instr).all (·.wf) = true := by decide +kernel

/-! ## The spec's worked examples -/

/-- The HELLO of the example below the table "HELLO result parameters". -/
def helloBytes : Bytes := [0x03, 0x00, 0x01, 0x00, 0x05, 0x00, 0x0C, 0x00, 0x1A, 0x00, 0, 0, 0, 0, 0, 0] ++ [0x02, 0x03, 0x0C, 0x02, 0x58, 0x02, 0, 0, 0x31, 0x4C, 0, 0]

/-- A hub in RUN at address 0x01A that issues 0x5E21_0007 next. -/
def helloHub : State := { hub .run State.reset with cmds := { State.reset.cmds with nextId := 0x5E210007 }, fabric := { State.reset.fabric with address := 0x01A } }

/-- What a hub has put into the reply ring once a row is done. -/
def repliesAfter (i : Instr) (s : State) : List Bytes := match step { s with pending := [i] } with | .next t => t.serial.replies | _ => []

/-- The reply of that example, as far as the spec prints it. -/
theorem test_hello_reply : (match packetOf helloBytes with | some p => (repliesAfter (.hello .mport p.cmd) helloHub).map (·.take 27) | none => []) =
    [[0x03, 0x80, 0x01, 0x00, 0x05, 0x00, 0x1C, 0x00, 0x00, 0x00, 0x1A, 0x00, 0x07, 0x00, 0x21, 0x5E, 0x00, 0x00, 0x06, 0x00, 0x07, 0x00, 0x21, 0x5E, 0x03, 0x0C, 0x02]] := by decide +kernel

/-- A bad mode in a record of COMP_SET is answered BAD_PARAM with detail 3 + 2 (the example of R583). -/
theorem test_comp_set_bad_mode : (repliesAfter (.compSet .mport (cmdOf ([0, 0, 1, 0] ++ zeros 8 ++ [0, 0, 0, 0, 9, 0, 0, 0]))) (pan0 id b0)).map (fun b => (b.drop 16).take 2) = [[18, 5]] := by decide +kernel

/-- The example of R146: the residual is 1 for a counter that reads 999,999,992.7431 ns and a lead of 6.250 ns. -/
theorem test_strobe_residual :
    ({ State.reset with time := { State.reset.time with counter := 9999999927431 * 2 ^ 40 / 10000 }, cal := { State.reset.cal with live := Mem.writeN nominalByte [] 64 (le 2 800) } } : State).strobeFor 2500000 1000000000
      = { k := 2500000, time := 1000000000, cycle := 9999999927431 * 2 ^ 40 / 10000, resid := 1 } := by decide +kernel

/-- The example of R147: d = 1 + 37 − 16 + 128 = 150. -/
theorem test_strike_tap : ({ State.reset with cal := { State.reset.cal with live := Mem.writeN nominalByte [] (chanRec 41 + 20) [37] } } : State).tapFor 41 1 (-16) = 150 := by decide +kernel

/-- The example of R461: o_out = 40, o_in = −256, a gain correction of 1,049 at gain code 3, c = 50,000. -/
theorem test_sample_code :
    ({ State.reset with cal := { State.reset.cal with live := Mem.writeN nominalByte [] (chanRec 41) (leInt 2 40 ++ leInt 2 (-256) ++ zeros 6 ++ leInt 2 1049) } } : State).sampleCode (chanRec 41) 3 50000 = (50049, false) := by decide +kernel

/-- The example of R180. -/
theorem test_fade : [1, 2, 3].map (fun i => fadeOutput 6400000 6410000 i 3) = [6403333, 6406667, 6410000] := by decide +kernel

/-- The example of the capture memory: 64 channels, S = 5,000 and K = 40 take 1,830,400 words. -/
theorem test_capture_words : defineWords (zeros 4 ++ le 4 40 ++ zeros 4 ++ le 4 2000 ++ le 4 5000 ++ zeros 4 ++ le 8 (2 ^ 64 - 1) ++ zeros 32) = 1830400 := by decide +kernel

/-- The example of R239: the stamp is 5,000,000,010 ns, fraction 41,001. -/
theorem test_interpolated_stamp : stampTime (5000000012 * 2 ^ 40) (2 ^ 40) 2755 2004 4010 0 = 5000000010 * 65536 + 41001 := by decide +kernel

/-- The example of R256: five stamps of a gate, their frequency in 2^−32 Hz and the residual rms in 2^−16 ns. -/
theorem test_gate_regression : regression [0, 13107136, 26214592, 39322048, 52428864] 1 = (21474731622911998, 202) := by decide +kernel

/-- The example of R306: +1, −1 and 0 take 54 bits, padded to 8 bytes. -/
theorem test_plain_samples : recordPayload { key := 0, kind := 0, units := 3, samples := [1, -1, 0] } = [0x01, 0x00, 0xFC, 0xFF, 0x0F, 0x00, 0x00, 0x00] := by decide +kernel

/-- The ten samples of the kiln's example from i = 96: a ramp with one sample an LSB above it. Predictor 2 at k = 0 takes 17 bits, and the body word is the example's 0x1BB0. -/
theorem test_coded_ramp :
    (let b := (codeBlock 18 0x3F false { hist := [53515, 53478, 53441], ys := none, y1 := none, fresh := false } [53552, 53589, 53626, 53663, 53701, 53737, 53774, 53811, 53848, 53885]).1; (b.length, b.drop 4)) =
    (12, [0x03, 0x09, 0x04, 0x10, 0xB0, 0x1B, 0, 0]) := by decide +kernel

/-- The example of R488: idle exits at 16.0 Gbaud, width 4 and 2, and at 3.125 Gbaud, width 4, in ps. -/
theorem test_idle_exit : (idleExitPs 5 4, idleExitPs 5 2, idleExitPs 1 4) = (146000, 212000, 417920) := by decide +kernel

/-! ## What the statements of rules ask is met -/

/-- A queued command of queue 0, and one that is a FENCE (flags bit 0). -/
def queued0 (serial : Nat) (flags : Byte) : Held := { held0 0x0401 [] with serial, cmd := { cmdOf [] with flags }, phase := .queued }

/-- A state with commands admitted. -/
def withHeld (l : List Held) : State := { b0 with cmds := { b0.cmds with held := l } }

/-- A frame that comes as the next expected over DN0. -/
def nextFrame (type seq : Nat) (payload : Bytes) : Frame := { frameOf type 0xD 0 0 0 payload with linkSeq := BitVec.ofNat 16 seq }

theorem meets_StepTakesTheFrontCommand : State.reset.pending = [] ∧ ∃ c r, ({ b0 with pending := [.leaveReset 0 ⟨0, false⟩ 0 []] } : State).pending = c :: r := ⟨rfl, _, _, rfl⟩

theorem meets_EveryStepKeepsTheInvariant : ∃ s t : State, s.sys.hub ≠ .reset ∧ s.sound ∧ step s = .next t := ⟨b0, b0.tick, by decide +kernel, by unfold State.sound; decide +kernel, rfl⟩

theorem meets_AQuietHubOnlyComesUpToDate : b0.quiet = true ∧ ∃ (t : Nat) (f : State → State), (f b0).feed.enabled = true ∧ (f (b0.advanceTo t)).quiet = true :=
  ⟨by decide +kernel, 400, fun s => s.setFeed (fun x => { x with enabled := true }), by decide +kernel, by decide +kernel⟩

theorem meets_ChangesApply (op : BitVec 16) : ∃ c : Change, c.opcode = op := ⟨{ epoch := 0, ref := 5, opcode := op, params := [] }, rfl⟩

theorem meets_OtherRowsStandInResetAndBoot : (State.reset.advanceTo 400).sys.hub = .reset ∧ ((hub .boot b0).advanceTo 400).sys.hub = .boot := by decide +kernel

theorem meets_PacketsReadBack : packetOf (packetBytes pkt0) = some pkt0 ∧ packetOf (zeros 15) = none ∧ packetOf (zeros 16) ≠ none := by decide +kernel

theorem meets_PacketsInResetAndBootDoNothing : State.reset.sys.hub = .reset ∧ (hub .boot b0).sys.hub = .boot := by decide

/-- Each check of admission is the first that fails somewhere (R40, steps 2 to 11), in the table's order, and a packet passes them all. -/
theorem meets_AdmissionMakesItsChecksInOrder :
    ([({ cmdOf [] with version := 4 }, b0), ({ cmdOf [] with version := 2 }, b0), ({ cmdOf [] with paramLength := 1025 }, b0), ({ cmdOf [] with flags := 8 }, b0), ({ cmdOf [] with tag := 128 }, b0), ({ cmdOf [] with queue := 8 }, b0), ({ cmdOf [] with target := 4096 }, b0),
      ({ cmdOf [] with source := 4096 }, b0), ({ cmdOf [] with sessionId := 9 }, b0), ({ cmdOf [] with queue := 1 }, b0), (cmdOf [], withHeld [held0 4 []]),
      (cmdOf [], withHeld ((List.range 128).map (fun i => { held0 4 [] with serial := i, cmd := { cmdOf [] with tag := 2 } }))), (cmdOf [], b0)] : List (Cmd × State)).map (fun x => x.2.admitError 4 .mport x.1) =
    [some (stBadVersion, 3), some (stBadVersion, 3), some (stMalformed, 6), some (stMalformed, 1), some (stMalformed, 4), some (stMalformed, 5), some (stMalformed, 8), some (stMalformed, 10), some (stDenied, 3), some (stDenied, 5), some (stTagBusy, 0),
      some (stNoResource, 6), none] := by decide +kernel

theorem meets_AFailedCheckHasNoSideEffect :
    (∃ e, opEntry 0x0102 = some e ∧ b0.partnerPacket (held0 0x0102 []) = none ∧ startError e (held0 0x0102 []) b0 = some (stMalformed, 16) ∧ (held0 0x0102 []).cmd.params.length ≠ e.need [] ∧
      (held0 0x0102 (zeros 4)).cmd.params.length = e.need (zeros 4) ∧ firstBad (e.params (held0 0x0102 (zeros 4)) b0) = some 0) ∧ opcodeFault 3 0xFFFF ≠ none :=
  ⟨⟨_, rfl, by decide +kernel⟩, by decide +kernel⟩

/-- Dry runs that would be done, be accepted, fail, fail with a result, hold, ask a partner, and stop. -/
theorem meets_ADryRunOnlyAnswers :
    ([(0x0101, held0 0x0101 [], b0, 0), (0x0110, held0 0x0110 (zeros 8), b0, 1), (0x0003, { held0 0x0003 (zeros 4) with owner := .ended }, b0, 2),
      (0x0218, held0 0x0218 ([0, 1] ++ zeros 10), { pan0 id b0 with front := { (pan0 id b0).front with nextSub := some (5, none) } }, 3), (0x0214, held0 0x0214 (zeros 4), pan0 id r0, 4),
      (0x0B13, held0 0x0B13 (packetBytes pkt0), (tw (fun w => { w with mode := 2, role := 3 }) b0).setLink .twin (fun l => { l with state := 3 }), 5),
      (0x0114, held0 0x0114 [], hub .faultHold (b0.setFaults (fun f => { f with log := [(0, { serial := 0, cls := 5, island := 0, code := 0x0003, time := 0, frac := 0, inst := 0, d0 := 0, d1 := 0, withheld := 0, pinned := true, inBoot := false })] })), 6)] : List (BitVec 16 × Held × State × Nat)).all (fun x =>
      let h := { x.2.1 with cmd := { x.2.1.cmd with flags := 4 } }
      let s := x.2.2.1
      match opEntry x.1 with
      | some e => cmdDryRun h.cmd && (s.partnerPacket h).isNone && (startError e h s).isNone && (s.budgetError e h).isNone && (s.askLeave e h).isNone &&
        (match e.run h s with | .done .. => x.2.2.2 == 0 | .accepted .. => x.2.2.2 == 1 | .fail .. => x.2.2.2 == 2 | .failWith .. => x.2.2.2 == 3 | .holds .. => x.2.2.2 == 4 | .asks .. => x.2.2.2 == 5 | .stopped .. => x.2.2.2 == 6)
      | none => false) = true := by decide +kernel

theorem meets_AFenceWaitsForItsQueue :
    (∃ l h, nextStart l [] [] = some (h, false) ∧ h.removed = false ∧ cmdFence h.cmd = true) ∧
    (∃ (s t : State) (h : Held) (q : Nat), h.removed = false ∧ cmdFence h.cmd = true ∧ h.line = some q ∧ (Tbl.get {} s.cmds.fences q).failed.contains h.segment = true ∧ (Tbl.get {} t.cmds.fences q).failed.contains h.segment = false) :=
  ⟨⟨[queued0 5 1], queued0 5 1, by decide +kernel⟩, ⟨{ b0 with cmds := { b0.cmds with fences := [(0, { failed := [0] })] } }, b0, queued0 5 1, 0, by decide +kernel⟩⟩

theorem meets_BroadcastsAreRefusedInSilence : (opEntry 4).isSome = true ∧ ({ cmdOf [] with source := 1 } : Cmd).source ≠ 0 ∧ (cmdOf []).sessionId ≠ 0 ∧ (opEntry 0x0101).any (fun e => e.bcast []) = false := by decide +kernel

theorem meets_RepliesCopyTheirCommand : (∃ n, (held0 4 []).owner = .session n) ∧ ({ held0 4 [] with owner := .ended } : Held).owner = .ended := ⟨⟨0, rfl⟩, rfl⟩

/-- A HELLO that is done; and a session whose tag is the last before it wraps. -/
theorem meets_NoticeTagsCountPerSession : (∃ d r t, runHello (held0 1 ([2, 3, 2] ++ zeros 9)) b0 = .done d r t) ∧ ({ b0 with cmds := { b0.cmds with sessions := [(0, { ses0 with noticeTag := 255 })] } } : State).cmds.sessions.lookup 0 = some { ses0 with noticeTag := 255 } :=
  ⟨⟨_, _, _, rfl⟩, rfl⟩

theorem meets_QueriesReadAndChangeNothing : ∃ e, isQuery 0x0101 = true ∧ opEntry 0x0101 = some e := ⟨_, rfl, rfl⟩

theorem meets_FinishingTouchesOnlyTheCommandProcessor : ∃ h, (withHeld [held0 4 []]).heldOf 5 = some h ∧ h.owner ≠ .broadcast := ⟨held0 4 [], by decide +kernel⟩

theorem meets_ChangesStandInOrder : ([{ epoch := 1, ref := 1, opcode := 0, params := [] }, { epoch := 1, ref := 2, opcode := 0, params := [] }] : List Change).Pairwise (fun a b => a.epoch ≤ b.epoch) := by decide

/-- One channel, the last, of each of the three settings. -/
theorem meets_ChannelSettingsTouchOnlyTheirChannels :
    [0x0211, 0x0212, 0x0313].all (fun op => let c : Change := { epoch := 0, ref := 5, opcode := op, params := [255, 0, 1, 0] ++ zeros 8 ++ [1] }; c.opcode == op && u16 c.params 0 == 255 && decide (0 < u16 c.params 2)) = true := by decide

/-- A log whose next slot holds a pinned entry, and the one after it none. -/
theorem meets_TheFaultLogKeepsPinnedEntries :
    let f : Tbl LogEntry := [(0, { serial := 0, cls := 5, island := 0, code := 0x0071, time := 0, frac := 0, inst := 0, d0 := 0, d1 := 0, withheld := 0, pinned := true, inBoot := false })]
    (f.lookup 0).any (·.pinned) = true ∧ (f.lookup 1).any (·.pinned) = false ∧ freeSlot f 0 256 = 1 := by decide

theorem meets_HandoversGoBeforeSpots :
    (nextUrgent { urgent := [.spot 0 5 0, .release] } { k := 0, time := 0, entry := 8, slot := 8, inserted := 0, gains := [] } 10 = some .release) ∧
    (nextUrgent { urgent := [.spot 0 5 0, .spot 1 6 0] } { k := 0, time := 0, entry := 8, slot := 8, inserted := 0, gains := [] } 10 = some (.spot 0 5 0)) := by decide +kernel

theorem meets_StrobesNameTheLastCycle : 0 < State.reset.time.inc ∧ State.reset.time.inc ≤ 2 ^ 40 + 2 ^ 40 / 2000 ∧ State.reset.time.counter + State.reset.lead * 2 ^ 33 ≤ (1000 - 1) * 2 ^ 40 := by decide +kernel

/-- A tie, and the last output of a fade between the ends of the range. -/
theorem meets_RoundingAndFadesAreExact : 0 < 2 ∧ (2 * (roundEven 5 2 * 2 - 5) = 2 ∨ 2 * (5 - roundEven 5 2 * 2) = 2) ∧ 1 ≤ 3 ∧ 3 ≤ 3 ∧ (-8388608 : Int) ≤ -8388608 ∧ (8388607 : Int) ≤ 8388607 := by decide

/-- The frame expected, with the last sequence number; one behind it; one that does not fit its header; one beyond. -/
theorem meets_FramesAreAcceptedInSequence :
    let s := (up .dn0 b0).setLink .dn0 (fun l => { l with rxNext := 65535 })
    ([nextFrame 1 65535 (zeros 32), nextFrame 1 65534 (zeros 32), { nextFrame 1 65535 (zeros 32) with reserved := 1 }, nextFrame 1 0 (zeros 32)] : List Frame).map (fun f =>
      (s.receives .dn0 && s.linkUp .dn0 && f.intact && f.type == 1, decide ((f.linkSeq.toNat + 65536 - 65535) % 65536 < 32768), ((s.gotFrame .dn0).takeAck .dn0 f.ack.toNat).nakReason .dn0 f)) =
    [(true, true, 0), (true, false, 2), (true, true, 3), (true, true, 2)] := by decide +kernel

theorem meets_TheCounterTakesItsIncrement : b0.sys.hub ≠ .reset ∧ b0.cmds.resetAfter = none ∧ (∀ e ∈ b0.front.pans, e.2.spot = none) ∧ (b0.sys.localMode = true → b0.time.fellBack = true ∨ b0.time.source = 0) ∧ b0.pending = [] := by decide

/-- A normal request that takes the last of the budget, and a recovery request that takes the reserve too. -/
theorem meets_TheSluiceGrantsTheHeadThatFits :
    let r : Request := { op := 1, unit := 0, cost := { vdd := 64, av := 64 }, recovery := false, ref := none, entered := 0, deadline := 0 }
    let q : Request := { r with cost := { vdd := 80, av := 80 }, recovery := true }
    ({ b0.sluice with normal := [r] } : Sluice).grantable false = some r ∧ ({ b0.sluice with recovery := [q] } : Sluice).grantable true = some q := by decide +kernel

/-- A channel that commands its last output. -/
theorem meets_SafetyOutputsNeedEveryCondition :
    let set : Bytes := zeros 12 ++ List.replicate 8 1 ++ zeros 24 ++ [1, 1, 1, 129] ++ zeros 16
    let x : SafeChan := { held := false, enable := true, levels := 255, set := some set, demand := 0, heard := some { SafeChan.message {} with levels := 255 } }
    (SafeChan.command .a x).cmd.testBit 3 = true := by decide +kernel

theorem meets_RejectedFramesWriteNothing : b0.rejection { bits := 31, words := [], rdyWasLow := false } false ≠ 0 := by decide +kernel

theorem meets_RepliesOverTheRingAreNeverDropped : (b0.serial.replies.map entrySize).sum ≤ 16384 ∧ (b0.setSerial (fun x => { x with held := [zeros 16] })).serial.held ≠ [] := by decide +kernel

theorem meets_SerialFramesTouchOnlyTheirBlocks :
    headerOp (spiHeader { bits := 32, words := [0], rdyWasLow := false }) = 0 ∧ headerOp (spiHeader { bits := 64, words := [0x41000000, 0], rdyWasLow := false }) = 1 ∧
    headerOp (spiHeader { bits := 64, words := [0x81000200, 0], rdyWasLow := false }) = 2 ∧ headerOp (spiHeader { bits := 64, words := [0xC0000004, 0], rdyWasLow := false }) = 3 := by decide +kernel

theorem meets_RegisterWritesTouchOnlyTheirRegister : ¬(0x2000 ≤ 0 ∧ 0 < 0x2FF0) ∧ 0 ∉ [0x0200, 0x0208, 0x040C, 0x2FF0, 0x3000, 0x4070] ∧ 0x2000 ≤ 0x2FEC ∧ 0x2FEC < 0x2FF0 ∧ Mem.wf nominalByte b0.cal.staging = true := by decide +kernel

theorem meets_FlashOperationsChangeTheirRegion :
    [true, false].all (fun e => let o : FlashOp := { ref := 5, erase := e, addr := 0xFFF000, size := 4096, data := [1], since := some 0 }
      decide ((b0.setSerial (fun x => { x with ops := [o] })).flashRuns = some o) && Mem.wf (fun _ => 0xFF) b0.serial.flash) = true ∧ (0 : Byte).getLsbD 0 = false ∧ (1 : Byte).getLsbD 0 = true := by decide +kernel

/-- A fresh block of one sample at the end of the range; and one with a reference. -/
theorem meets_CodedBlocksDecodeToTheirSamples :
    samplesFit 18 [131071] = true ∧ samplesFit 24 [-8388608] = true ∧ 1 ≤ [131071].length ∧ [131071].length ≤ 256 ∧
    ∃ (ys : List Int) (ref : Bool → Int → Option Int), ys.length = 1 ∧ samplesFit 18 ys = true ∧ (∀ (b : Bool) (i : Nat), i < 1 → ref b i = ys[i]?) ∧ ∀ b : Bool, ref b (-1) = some 7 :=
  ⟨by decide +kernel, by decide +kernel, by decide, by decide, [5], fun _ i => if i = 0 then some 5 else some 7, rfl, by decide +kernel, fun _ i h => by match i, h with | 0, _ => rfl, fun _ => rfl⟩

theorem meets_TripOutputsNeedAnAlarmAndDuty :
    b0.sys.hub ≠ .reset ∧ b0.sys.hub ≠ .boot ∧ b0.front.tripEnable.getLsbD 3 = false ∧
    (let s := { (b0.setChan 255 (fun c => { c with alarm := .above, route := 8 })) with front := { (b0.setChan 255 (fun c => { c with alarm := .above, route := 8 })).front with tripEnable := 8 } }
     s.tripLevels.getLsbD 3 ≠ s.front.tripPolarity.getLsbD 3) := by decide +kernel

/-! ## What the statements of command packets ask is met -/

/-- Whether a command's turn comes at once and its checks, leave and budgets hold in a state: what `Carries` asks. -/
def carriesAt (op : BitVec 16) (c : Cmd) (s : State) : Bool :=
  match s.turn op .mport c, opEntry op with
  | some (h, v), some e => (opcodeFault h.version op).isNone && (v.begin h).clear e (h.begun v.now)
  | _, _ => false

/-- What `carriesAt` says, as the hypotheses of `Carries`. -/
theorem carriesAt_meets {op : BitVec 16} {c : Cmd} {s : State} (h : carriesAt op c s = true) :
    ∃ k v e, s.turn op .mport c = some (k, v) ∧ opEntry op = some e ∧ opcodeFault k.version op = none ∧ (v.begin k).clear e (k.begun v.now) = true := by
  unfold carriesAt at h
  split at h
  · next k v e h1 h2 =>
    rw [Bool.and_eq_true, Option.isNone_iff_eq_none] at h
    exact ⟨k, v, e, h1, h2, h.1, h.2⟩
  · cases h

/-- Whether `Carries` is met by each of some commands, in the states given. -/
def carriesAll (l : List (BitVec 16 × Bytes × State)) : Bool := l.all (fun x => carriesAt x.1 (cmdOf x.2.1) x.2.2)

/-- Every command of the statement has its turn and passes its checks somewhere. -/
theorem meets_SessionAndStateCommandsAnswer :
    (carriesAll [
      (0x0001, [2, 16, 3, 0, 1, 3] ++ zeros 4 ++ [4, 0], b0),
      (0x0002, [], b0),
      (0x0003, zeros 4, b0),
      (0x0004, [], b0),
      (0x0005, zeros 4, b0),
      (0x0006, zeros 4, b0),
      (0x0007, zeros 4, b0),
      (0x0101, [], b0),
      (0x0102, [8, 0, 0, 0], b0),
      (0x0110, zeros 8, b0),
      (0x0111, zeros 8, r0),
      (0x0112, [], hub .discover b0)] && carriesAll [
      (0x0113, zeros 4, b0),
      (0x0114, [], hub .faultHold b0)]) = true := by decide +kernel

/-- Every command of the statement has its turn and passes its checks somewhere. -/
theorem meets_PanAndGridCommandsAnswer :
    (carriesAll [
      (0x0201, zeros 4, b0),
      (0x0202, [0, 0, 3, 0], b0),
      (0x0203, zeros 4, b0),
      (0x0204, [], b0),
      (0x0210, [0, 4, 2] ++ zeros 13, b0),
      (0x0211, [0, 0, 2] ++ zeros 11, pan0 id b0),
      (0x0212, [0, 0, 2] ++ zeros 11, pan0 id b0),
      (0x0213, [0, 1] ++ zeros 26, pan0 id b0),
      (0x0214, zeros 4, pan0 id b0),
      (0x0215, [0, 2, 0, 3, 0, 0, 2] ++ zeros 9, pan0 id b0),
      (0x0216, [0, 0, 2] ++ zeros 25, pan0 id b0),
      (0x0217, zeros 12, b0)] && carriesAll [
      (0x0218, [0, 1] ++ zeros 10, pan0 id b0),
      (0x0301, [], b0),
      (0x0302, [], b0),
      (0x0303, [0, 0, 3, 0], b0),
      (0x0310, [10] ++ zeros 23, b0),
      (0x0311, [0, 8] ++ zeros 14, b0),
      (0x0312, [4, 0, 0, 0, 3] ++ zeros 5 ++ [8, 0, 16, 1, 0, 0], b0),
      (0x0313, [0, 0, 2] ++ zeros 11, b0)]) = true := by decide +kernel

/-- Every command of the statement has its turn and passes its checks somewhere. -/
theorem meets_MashAndCaptureCommandsAnswer :
    (carriesAll [
      (0x0401, zeros 4, b0),
      (0x0402, [0, 0, 1, 0, 0, 0, 1, 0], rec0 b0),
      (0x0403, [0, 0, 3, 0], b0),
      (0x0404, zeros 4, b0),
      (0x0405, zeros 4, b0),
      (0x0410, zeros 20, b0),
      (0x0411, [0, 1, 1, 0, 0, 0, 1, 0, 5, 0, 0, 0], rec0 b0),
      (0x0412, [0, 1, 0, 0, 1, 1, 1, 1], rec0 b0),
      (0x0413, [0, 0, 1] ++ zeros 10, rec0 b0),
      (0x0414, [0, 1, 4] ++ zeros 13, rec0 b0),
      (0x0415, [0, 0, 2] ++ zeros 10 ++ [1, 4, 0], r0),
      (0x0416, [0, 0, 1, 1, 0, 0, 4] ++ zeros 17, b0)] && carriesAll [
      (0x0501, zeros 4, b0),
      (0x0502, zeros 4, b0),
      (0x0503, [], b0),
      (0x0504, [0, 0, 3, 0], b0),
      (0x0510, [0, 0, 0, 0, 1, 0, 0, 0, 0, 0, 0, 0, 1, 0, 0, 0, 2] ++ zeros 7 ++ [1] ++ zeros 39, b0),
      (0x0511, zeros 40, grp0 0 .disabled b0),
      (0x0512, zeros 16, b0),
      (0x0513, zeros 16, r0),
      (0x0514, [0, 0, 1, 0], hub .run (grp0 4 .disabled b0)),
      (0x0515, [0, 0, 1, 0], hub .run (grp0 4 .disabled b0)),
      (0x0516, zeros 24, grp0 0 .disabled b0),
      (0x0517, zeros 4, grp0 0 .disabled b0)]) = true := by decide +kernel

/-- Every command of the statement has its turn and passes its checks somewhere. -/
theorem meets_EdgeAndKilnCommandsAnswer :
    (carriesAll [
      (0x0601, zeros 4, b0),
      (0x0602, zeros 4, b0),
      (0x0603, zeros 4, b0),
      (0x0610, [0, 1, 0, 0, 1] ++ zeros 19, b0),
      (0x0611, [0, 0, 3, 0, 0, 2] ++ zeros 10, b0),
      (0x0612, [0, 0, 0, 0, 0, 1, 0, 1] ++ zeros 16, b0),
      (0x0613, zeros 8 ++ le 8 1000 ++ zeros 16, b0.setEdge 0 (fun e => { e with setting := [1, 0, 0, 1] ++ zeros 11 })),
      (0x0614, zeros 12, b0),
      (0x0701, zeros 4, b0),
      (0x0702, zeros 4, b0),
      (0x0703, [], b0),
      (0x0704, zeros 4 ++ [1, 0, 0, 0], work b0)] && carriesAll [
      (0x0705, zeros 4, b0),
      (0x0710, [0, 1, 63, 0, 0, 0, 1] ++ zeros 17, b0),
      (0x0711, zeros 43 ++ [18] ++ le 4 (crc32c (zeros 27 ++ [18])), b0),
      (0x0712, [0, 0, 0, 1, 0, 0, 0, 0, 1] ++ zeros 15, b0),
      (0x0713, zeros 8, b0),
      (0x0714, zeros 4 ++ [1, 0, 0, 0, 9], work b0),
      (0x0715, [0, 18, 0, 1] ++ zeros 4 ++ le 4 8 ++ le 4 64 ++ le 4 64 ++ zeros 28, work b0),
      (0x0716, le 4 64 ++ le 4 64 ++ zeros 4, (work b0).setJob (fun j => { j with state := 2, params := [0, 18, 0, 1] ++ zeros 4 ++ le 4 8 }))]) = true := by decide +kernel

/-- Every command of the statement has its turn and passes its checks somewhere. -/
theorem meets_StreamCommandsAnswer :
    (carriesAll [
      (0x0801, zeros 4, b0),
      (0x0802, zeros 4, b0),
      (0x0803, [4, 0, 0, 0, 3, 0, 0, 0], b0),
      (0x0804, zeros 4, b0),
      (0x0810, [0, 1, 0, 0, 1, 1] ++ zeros 10, b0),
      (0x0811, [0, 0, 0, 0, 1, 0, 1, 0, 1] ++ zeros 15, b0),
      (0x0812, [8] ++ zeros 67, b0),
      (0x0813, zeros 8, r0),
      (0x0814, [1] ++ zeros 11, b0),
      (0x0815, zeros 8, b0),
      (0x0816, [0, 0, 0, 0, 8] ++ zeros 19, b0),
      (0x0817, zeros 24, b0)] && carriesAll [
      (0x0818, [], b0)]) = true := by decide +kernel

/-- Every command of the statement has its turn and passes its checks somewhere. -/
theorem meets_LaneAndFabricCommandsAnswer :
    (carriesAll [
      (0x0981, zeros 4, b0),
      (0x0982, zeros 4, b0),
      (0x0983, zeros 4, b0),
      (0x0990, [0, 4, 2, 0], b0),
      (0x0991, zeros 4, b0),
      (0x0992, [0, 1] ++ zeros 6, b0),
      (0x0993, [3, 0, 0, 0], b0),
      (0x0994, [1, 1, 1, 0, 1, 0, 0, 0], b0.setPort .dn0 (fun x => { x with state := 0 })),
      (0x0901, zeros 4, b0),
      (0x0902, zeros 4, b0),
      (0x0903, [0, 4, 2, 0], b0),
      (0x0904, [], b0)] && carriesAll [
      (0x0910, [8, 1, 0, 0, 16, 8, 0, 0], b0),
      (0x0911, [0, 1, 0, 2], b0),
      (0x0912, zeros 8, b0),
      (0x0913, [], b0),
      (0x0914, [1, 0, 0, 0], b0)]) = true := by decide +kernel

/-- Every command of the statement has its turn and passes its checks somewhere. -/
theorem meets_TimeAndTwinCommandsAnswer :
    (carriesAll [
      (0x0A01, [], b0),
      (0x0A02, zeros 4, b0),
      (0x0A03, [], b0),
      (0x0A10, [0, 0, 4] ++ zeros 4 ++ [2, 0, 8, 0, 0, 0, 1, 0, 0, 0, 1, 0, 0], b0),
      (0x0A11, zeros 8, b0),
      (0x0A12, zeros 4, b0),
      (0x0A13, zeros 5 ++ [8] ++ zeros 4 ++ [8, 0], b0),
      (0x0A14, zeros 4, b0),
      (0x0B01, [], b0),
      (0x0B02, zeros 4, b0),
      (0x0B10, zeros 16, b0),
      (0x0B11, [4, 1] ++ zeros 10, b0)] && carriesAll [
      (0x0B12, zeros 8, hub .run (tw (fun w => { w with mode := 1, role := 1, synced := true, dutyOut := true }) b0)),
      (0x0B13, packetBytes pkt0, (tw (fun w => { w with mode := 2, role := 3 }) b0).setLink .twin (fun l => { l with state := 3 }))]) = true := by decide +kernel

/-- Every command of the statement has its turn and passes its checks somewhere. -/
theorem meets_CalibrationAndPowerCommandsAnswer :
    (carriesAll [
      (0x0C01, [], b0),
      (0x0C02, [0, 0, 2] ++ zeros 5, b0),
      (0x0C10, [0, 0, 0, 1], b0),
      (0x0C11, le 4 4096000 ++ zeros 4, b0),
      (0x0C12, [0, 0, 0, 0, 1] ++ zeros 11, pan0 id b0),
      (0x0C13, [4, 0, 0, 0, 3] ++ zeros 6, b0),
      (0x0C14, [], b0),
      (0x0C15, zeros 12, b0),
      (0x0D01, [], b0),
      (0x0D02, zeros 4, b0),
      (0x0D10, [8, 0, 0, 0, 3, 0, 16, 0, 8] ++ zeros 5 ++ [16] ++ zeros 5 ++ [8, 1, 0, 3, 16, 0, 2, 0], b0),
      (0x0D11, [16, 0, 3, 0, 4, 2] ++ zeros 7 ++ [3, 0, 0], b0)] && carriesAll [
      (0x0D12, zeros 4, b0)]) = true := by decide +kernel

/-- Every command of the statement has its turn and passes its checks somewhere. -/
theorem meets_SafetyFaultAndFirmwareCommandsAnswer :
    (carriesAll [
      (0x0E01, [], b0),
      (0x0E02, zeros 4, b0),
      (0x0E03, zeros 4, b0),
      (0x0E10, set0, safe id b0),
      (0x0E11, le 4 (setCrc (zeros 64)) ++ le 4 1, safe (fun x => { x with waiting := some (zeros 64) }) (b0.setSafety (fun x => { x with writes := 1, writer := some (0, 7) }))),
      (0x0E12, [], b0),
      (0x0F01, [], b0),
      (0x0F02, [4, 0, 0, 0, 3, 0, 0, 0], b0),
      (0x0F03, zeros 4, b0),
      (0x0F04, [], b0),
      (0x0F10, [], b0),
      (0x0F11, zeros 8, b0)] && carriesAll [
      (0x0F12, zeros 4, b0),
      (0x0F13, [3] ++ zeros 7, b0),
      (0x1001, [], b0),
      (0x1041, zeros 4, b0),
      (0x1040, zeros 4, b0),
      (0x1002, [], b0),
      (0x1003, [0, 4, 2, 0, 4, 1, 0, 0], b0),
      (0x1010, zeros 8, b0),
      (0x1011, [4, 0, 0, 0, 3] ++ zeros 6, b0),
      (0x1012, [3, 0, 0, 1] ++ zeros 260, b0)]) = true := by decide +kernel

/-! ## What the statements of event rows ask is met -/

/-- What `Comes` asks of a state holds. -/
abbrev Come (s : State) (due : State → Prop) : Prop := due (s.advanceTo 0)

/-- What `Takes` asks of a state holds. -/
abbrev Taken (s : State) (due : State → Prop) : Prop := (s.advanceTo 0).sys.hub ≠ .reset ∧ (s.advanceTo 0).sys.hub ≠ .boot ∧ due (s.advanceTo 0)

/-- Each row of the statement is due somewhere, in each of its cases. -/
theorem meets_SystemRowsTakeEffect_upkeep :
    (∃ s : State, Taken s (fun _ => True))
    ∧ (∃ (slot : Nat), ∃ x, ∃ s : State, Taken s (fun s => s.cmds.sessions.lookup slot = some x ∧ x.idleTimeout ≠ 0 ∧ x.lastAdmit + 1000000000 * x.idleTimeout ≤ s.now))
    ∧ (∃ c, ∃ s : State, Taken s (fun s => s.sys.fwChecks.find? (fun c => c.activate && c.passed) = some c ∧ s.sys.fwPaused = false ∧ s.executing = none))
    ∧ (∃ s : State, Taken s (fun s => s.sys.fwPaused = true ∧ s.sys.fwChecks.find? (fun c => some c.ref == s.sys.fwRestartRef) = none))
    ∧ (∃ c, ∃ s : State, Taken s (fun s => s.sys.fwPaused = true ∧ s.sys.fwChecks.find? (fun c => some c.ref == s.sys.fwRestartRef) = some c))
    ∧ (∃ o, ∃ status : Byte, ∃ s : State, Come s (fun s => status.getLsbD 0 = true ∧ s.flashRuns = some o))
    ∧ (∃ o, ∃ status : Byte, ∃ s : State, Come s (fun s => status.getLsbD 0 = false ∧ s.flashRuns = some o))
    ∧ (∃ o, ∃ s : State, Come s (fun s => s.flashRuns = some o ∧ o.since.getD 0 + 5000000000 ≤ s.now))
    ∧ (∃ (offset : Nat), ∃ s : State, Taken s (fun s => s.flashBlocked (offset / 32 * 32) 32 = false))
    ∧ (∃ (offset : Nat), ∃ s : State, Taken s (fun s => s.flashBlocked (offset / 32 * 32) 32 = true))
    ∧ (∃ c, ∃ s : State, Taken s (fun s => s.sys.fwChecks.find? (fun c => !c.passed && !s.slotBusy c.slot) = some c ∧ c.activate = false))
    ∧ (∃ c, ∃ s : State, Taken s (fun s => s.sys.fwChecks.find? (fun c => !c.passed && !s.slotBusy c.slot) = some c ∧ c.activate = true ∧ (s.verifySlot c.slot).1 = 0))
    ∧ (∃ c, ∃ s : State, Taken s (fun s => s.sys.fwChecks.find? (fun c => !c.passed && !s.slotBusy c.slot) = some c ∧ c.activate = true ∧ (s.verifySlot c.slot).1 ≠ 0))
    ∧ (∃ l, ∃ s : State, Taken s (fun s => l.length < 2 ∧ s.sys.fwPaused = false ∧ s.sys.forcedRestarts.filter (fun t => decide (s.now < t + 60000000000)) = l))
    ∧ (∃ l, ∃ s : State, Taken s (fun s => 2 ≤ l.length ∧ s.sys.fwPaused = false ∧ s.sys.forcedRestarts.filter (fun t => decide (s.now < t + 60000000000)) = l)) :=
  ⟨⟨b0, by decide +kernel⟩,
   ⟨0, { ses0 with idleTimeout := 1 }, clk 1000000000 { b0 with cmds := { b0.cmds with sessions := [(0, { ses0 with idleTimeout := 1 })] } }, by decide +kernel⟩,
   ⟨{ slot := 0, ref := 5, activate := true, passed := true }, b0.setSys (fun x => { x with fwChecks := [{ slot := 0, ref := 5, activate := true, passed := true }] }), by decide +kernel⟩,
   ⟨b0.setSys (fun x => { x with fwPaused := true }), by decide +kernel⟩,
   ⟨{ slot := 0, ref := 5, activate := true, passed := true }, b0.setSys (fun x => { x with fwPaused := true, fwRestartRef := some 5, fwChecks := [{ slot := 0, ref := 5, activate := true, passed := true }] }), by decide +kernel⟩,
   ⟨{ ref := 5, erase := true, addr := 0, size := 4096, data := [1], since := some 0 }, 1, b0.setSerial (fun x => { x with ops := [{ ref := 5, erase := true, addr := 0, size := 4096, data := [1], since := some 0 }] }), by decide +kernel⟩,
   ⟨{ ref := 5, erase := false, addr := 0, size := 4096, data := [1], since := some 0 }, 0, b0.setSerial (fun x => { x with ops := [{ ref := 5, erase := false, addr := 0, size := 4096, data := [1], since := some 0 }] }), by decide +kernel⟩,
   ⟨{ ref := 5, erase := true, addr := 0, size := 4096, data := [1], since := some 0 }, clk 5000000000 (b0.setSerial (fun x => { x with ops := [{ ref := 5, erase := true, addr := 0, size := 4096, data := [1], since := some 0 }] })), by decide +kernel⟩,
   ⟨0, b0, by decide +kernel⟩,
   ⟨0, b0.setSerial (fun x => { x with ops := [{ ref := 5, erase := true, addr := 0, size := 4096, data := [1], since := some 0 }] }), by decide +kernel⟩,
   ⟨{ slot := 0, ref := 5, activate := false, passed := false }, b0.setSys (fun x => { x with fwChecks := [{ slot := 0, ref := 5, activate := false, passed := false }] }), by decide +kernel⟩,
   ⟨{ slot := 0, ref := 5, activate := true, passed := false }, flash0 (slotBytes (crc32c (zeros 4))) (b0.setSys (fun x => { x with fwChecks := [{ slot := 0, ref := 5, activate := true, passed := false }] })), by decide +kernel⟩,
   ⟨{ slot := 0, ref := 5, activate := true, passed := false }, b0.setSys (fun x => { x with fwChecks := [{ slot := 0, ref := 5, activate := true, passed := false }] }), by decide +kernel⟩,
   ⟨[], b0, by decide +kernel⟩,
   ⟨[0, 0], b0.setSys (fun x => { x with forcedRestarts := [0, 0] }), by decide +kernel⟩⟩

/-- Each row of the statement is due somewhere, in each of its cases. -/
theorem meets_SystemRowsTakeEffect_boot :
    (∃ (lowNs : Nat), ∃ (taken : Bool), ∃ s : State, Come s (fun _ => (1000 ≤ lowNs ∨ (100 ≤ lowNs ∧ taken = true))))
    ∧ (∃ (lowNs : Nat), ∃ (taken : Bool), ∃ s : State, Come s (fun _ => (lowNs < 100 ∨ (lowNs < 1000 ∧ taken = false))))
    ∧ (∃ (ns : Nat), ∃ s : State, Come s (fun _ => 500 ≤ ns))
    ∧ (∃ (ns : Nat), ∃ s : State, Come s (fun _ => ns < 500))
    ∧ (∃ s : State, Come s (fun s => s.sys.hub = .reset))
    ∧ (∃ s : State, Come s (fun s => s.sys.hub = .reset ∧ s.sys.supervisor = true))
    ∧ (∃ s : State, Come s (fun s => s.sys.hub = .boot ∧ s.sys.selfTest = none))
    ∧ (∃ (die : Nat), ∃ (failed : List Nat), ∃ s : State, Come s (fun s => die < 2 ∧ ((failed.filter (fun i => decide (i < 58))).eraseDups).length ≤ 4 ∧ s.sys.hub = .boot ∧ s.sys.d2dUp.lookup die = none))
    ∧ (∃ (die : Nat), ∃ (failed : List Nat), ∃ s : State, Come s (fun s => die < 2 ∧ 4 < ((failed.filter (fun i => decide (i < 58))).eraseDups).length ∧ s.sys.hub = .boot ∧ s.sys.d2dUp.lookup die = none))
    ∧ (∃ (die : Nat), ∃ (failed : List Nat), ∃ s : State, Come s (fun s => die < 2 ∧ ((failed.filter (fun i => decide (i < 58))).eraseDups).length ≤ 4 ∧ s.sys.hub = .boot ∧ s.sys.d2dUp.lookup die = none))
    ∧ (∃ n, ∃ s : State, Come s (fun s => s.sys.hub = .boot ∧ s.sys.patch = .unread ∧ s.patchCandidate = some n ∧ (s.verifySlot n).1 = 0))
    ∧ (∃ n, ∃ s : State, Come s (fun s => s.sys.hub = .boot ∧ s.sys.patch = .unread ∧ s.patchCandidate = some n ∧ (s.verifySlot n).1 ≠ 0))
    ∧ (∃ ok, ∃ d0, ∃ d1, ∃ s : State, Come s (fun s => s.sys.hub = .boot ∧ s.sys.selfTest = some ok ∧ s.sys.d2dUp.lookup 0 = some d0 ∧ s.sys.d2dUp.lookup 1 = some d1 ∧ s.sys.patch ≠ .unread))
    ∧ (∃ (die : Nat), ∃ (lane : Nat), ∃ s : State, Taken s (fun s => die < 2 ∧ lane < 58 ∧ s.dieLost die = false ∧ lane ∉ Tbl.get [] s.front.laneFails die ∧ (Tbl.get [] s.front.laneFails die).length < 4))
    ∧ (∃ (die : Nat), ∃ (lane : Nat), ∃ s : State, Taken s (fun s => die < 2 ∧ lane < 58 ∧ s.dieLost die = false ∧ lane ∉ Tbl.get [] s.front.laneFails die ∧ 4 ≤ (Tbl.get [] s.front.laneFails die).length))
    ∧ (∃ s : State, Taken s (fun s => s.sys.hub = .timelock ∧ s.sys.localMode = true)) :=
  ⟨⟨1000, false, b0, by decide +kernel⟩,
   ⟨99, true, b0, by decide +kernel⟩,
   ⟨500, b0, by decide +kernel⟩,
   ⟨499, b0, by decide +kernel⟩,
   ⟨State.reset, by decide +kernel⟩,
   ⟨State.reset.setSys (fun x => { x with supervisor := true }), by decide +kernel⟩,
   ⟨(hub .boot b0), by decide +kernel⟩,
   ⟨0, [1], (hub .boot b0), by decide +kernel⟩,
   ⟨0, [0, 1, 2, 3, 4], (hub .boot b0), by decide +kernel⟩,
   ⟨1, [], (hub .boot b0), by decide +kernel⟩,
   ⟨0, flash0 (slotBytes (crc32c (zeros 4))) (hub .boot b0), by decide +kernel⟩,
   ⟨0, flash0 (slotBytes (crc32c (zeros 4) + 1)) (hub .boot b0), by decide +kernel⟩,
   ⟨true, true, true, (hub .boot b0).setSys (fun x => { x with selfTest := some true, d2dUp := [(0, true), (1, true)], patch := .romOnly }), by decide +kernel⟩,
   ⟨0, 57, b0, by decide +kernel⟩,
   ⟨1, 57, { b0 with front := { b0.front with laneFails := [(1, [0, 1, 2, 3])] } }, by decide +kernel⟩,
   ⟨hub .timelock (b0.setSys (fun x => { x with localMode := true })), by decide +kernel⟩⟩

/-- Each row of the statement is due somewhere, in each of its cases. -/
theorem meets_SamplingRowsTakeEffect :
    (∃ (k : Nat), ∃ s : State, Taken s (fun s => s.strikes = true ∧ s.grid.at k = s.now ∧ s.front.strikeFrom ≤ s.now ∧ s.passed s.now = false ∧ (s.cmds.changes.any (fun c => c.epoch == s.now)) = false))
    ∧ (∃ (pan : Nat), ∃ (k : Nat), ∃ s : State, Taken s (fun s => let time := strobeTime s.grid k (max s.now (s.pan pan).sentTo) s.gridChanges;
      s.strobeDue pan k time = true ∧ s.time.counter + (s.gridAt time).period * 2 ^ 40 ≤ (s.strobeFor k time).cycle))
    ∧ (∃ (pan : Nat), ∃ (k : Nat), ∃ s : State, Taken s (fun s => let time := strobeTime s.grid k (max s.now (s.pan pan).sentTo) s.gridChanges;
      s.strobeDue pan k time = true ∧ (s.strobeFor k time).cycle < s.time.counter + (s.gridAt time).period * 2 ^ 40))
    ∧ (∃ (pan : Nat), ∃ m, ∃ r, ∃ s : State, Taken s (fun s => (s.pan pan).strobes = m :: r ∧ s.queueEmpty (64 + pan) (r.length + 1) = false ∧ s.time.counter ≤ m.cycle))
    ∧ (∃ (pan : Nat), ∃ m, ∃ r, ∃ s : State, Taken s (fun s => (s.pan pan).strobes = m :: r ∧ s.queueEmpty (64 + pan) (r.length + 1) = false ∧ m.cycle < s.time.counter))
    ∧ (∃ s : State, Taken s (fun s => s.grid.isEpoch s.now = true ∧ s.sys.hub ≠ .faultHold ∧ s.front.epochAt ≠ some s.now))
    ∧ (∃ s : State, Taken s (fun s => s.grid.isEpoch s.now = true ∧ s.sys.hub = .faultHold ∧ s.front.epochAt ≠ some s.now))
    ∧ (∃ (pan : Nat), ∃ f, ∃ s : State, Taken s (fun s => (s.pan pan).frame = some f ∧ (s.pan pan).power = .on ∧ s.dieLost (dieOf pan) = false ∧ f.over (s.pan pan) = false))
    ∧ (∃ (pan : Nat), ∃ f, ∃ ref, ∃ z, ∃ n, ∃ s : State, Taken s (fun s => (s.pan pan).frame = some f ∧ (s.pan pan).power = .on ∧ s.dieLost (dieOf pan) = false ∧ f.over (s.pan pan) = true ∧ (s.pan pan).release = some (ref, z, n) ∧ s.substituted = some pan))
    ∧ (∃ (pan : Nat), ∃ f, ∃ u, ∃ s : State, Taken s (fun s => let slot := if f.over (s.pan pan) then max f.slot ((s.now - f.time + 39) / 40) else f.slot;
      (s.pan pan).frame = some f ∧ (s.pan pan).power = .on ∧ s.interrupted pan = false ∧ f.time + 40 * slot ≤ s.now ∧ nextUrgent (s.pan pan) { f with slot := slot } (s.slots pan) = some u))
    ∧ (∃ s : State, Taken s (fun _ => True))
    ∧ (∃ (pan : Nat), ∃ s : State, Taken s (fun s => s.cannotServe pan = true))
    ∧ (∃ (ch : Nat), ∃ s : State, Taken s (fun s => ch < 256 ∧ s.dieLost (dieOf (panOf ch)) = false))
    ∧ (∃ (ch : Nat), ∃ e, ∃ r, ∃ s : State, Taken s (fun s => (s.chan ch).tdcPending = e :: r))
    ∧ (∃ (pan : Nat), ∃ e, ∃ r, ∃ s : State, Taken s (fun s => (s.pan pan).events = e :: r ∧ s.queueEmpty (32 + pan) (r.length + 1) = false))
    ∧ (∃ s : State, Taken s (fun _ => True)) :=
  ⟨⟨1, clk 400 r0, by decide +kernel⟩,
   ⟨0, 25, r0, by decide +kernel⟩,
   ⟨0, 5, clk 1999 r0, by decide +kernel⟩,
   ⟨0, { k := 0, time := 0, cycle := 2 ^ 40, resid := 0 }, [], pan0 (fun x => { x with strobes := [{ k := 0, time := 0, cycle := 2 ^ 40, resid := 0 }] }) r0, by decide +kernel⟩,
   ⟨0, { k := 0, time := 0, cycle := 0, resid := 0 }, [], clk 1 (pan0 (fun x => { x with strobes := [{ k := 0, time := 0, cycle := 0, resid := 0 }] }) r0), by decide +kernel⟩,
   ⟨r0, by decide +kernel⟩,
   ⟨hub .faultHold r0, by decide +kernel⟩,
   ⟨0, { k := 0, time := 0, entry := 0, slot := 0, inserted := 0, gains := [] }, pan0 (fun x => { x with frame := some { k := 0, time := 0, entry := 0, slot := 0, inserted := 0, gains := [] } }) r0, by decide +kernel⟩,
   ⟨0, { k := 0, time := 0, entry := 8, slot := 0, inserted := 0, gains := [] }, 5, 0, 0, pan0 (fun x => { x with frame := some { k := 0, time := 0, entry := 8, slot := 0, inserted := 0, gains := [] }, release := some (5, 0, 0) }) { r0 with front := { r0.front with roving := .substituting 0 } }, by decide +kernel⟩,
   ⟨0, { k := 0, time := 0, entry := 8, slot := 0, inserted := 0, gains := [] }, .release, pan0 (fun x => { x with frame := some { k := 0, time := 0, entry := 8, slot := 0, inserted := 0, gains := [] }, urgent := [.release] }) r0, by decide +kernel⟩,
   ⟨b0, by decide +kernel⟩,
   ⟨0, b0.setPan 0 (fun x => { x with urgent := [.spot 0 5 0] }), by decide +kernel⟩,
   ⟨255, r0, by decide +kernel⟩,
   ⟨0, { ch := 0, entry := true, time := 0, coarse := false, lost := false }, [], r0.setChan 0 (fun x => { x with tdcPending := [{ ch := 0, entry := true, time := 0, coarse := false, lost := false }] }), by decide +kernel⟩,
   ⟨0, { ch := 0, entry := true, time := 0, coarse := false, lost := false }, [], pan0 (fun x => { x with events := [{ ch := 0, entry := true, time := 0, coarse := false, lost := false }] }) r0, by decide +kernel⟩,
   ⟨r0, by decide +kernel⟩⟩

/-- Each row of the statement is due somewhere, in each of its cases. -/
theorem meets_ChainCaptureAndEdgeRowsTakeEffect :
    (∃ (p : Nat), ∃ x, ∃ r, ∃ s : State, Taken s (fun s => (s.pan p).samples = x :: r ∧ s.queueEmpty p (r.length + 1) = false))
    ∧ (∃ s : State, Taken s (fun _ => True))
    ∧ (∃ i, ∃ tap, ∃ s : State, Taken s (fun s => s.kiln.taps.find? (fun e => !e.2.words.isEmpty) = some (i, tap)))
    ∧ (∃ w, ∃ r, ∃ s : State, Taken s (fun s => s.mash.toMem = w :: r ∧ s.queueEmpty 97 (r.length + 1) = false))
    ∧ (∃ (group : Nat), ∃ s : State, Taken s (fun s => (s.group group).holds = false))
    ∧ (∃ (group : Nat), ∃ r, ∃ rest, ∃ s : State, Taken s (fun s => (s.group group).holds = true ∧ (s.group group).readouts = r :: rest ∧ r.left ≠ 0))
    ∧ (∃ (entry : Nat), ∃ w, ∃ s : State, Taken s (fun s => s.capture.timed[entry]? = some w))
    ∧ (∃ (group : Nat), ∃ (term : Nat), ∃ n, ∃ s : State, Taken s (fun s => (Tbl.get {} (s.group group).terms term).next = some n ∧ (Tbl.get {} (s.group group).terms term).kind = 7 ∧ n ≤ s.now ∧ (s.decideTrigger group term 4 (n * 65536) {}).2 ≠ .waits))
    ∧ (∃ (msg : Bytes), ∃ s : State, Taken s (fun s => ¬ (u16 msg 2 % 4096 = s.own ∧ s.own ≠ 0)))
    ∧ (∃ (input : Nat), ∃ (rising : Bool), ∃ s : State, Taken s (fun s => input < 16 ∧ (s.edge input).standard ≠ 0 ∧ s.running = true ∧ 1 < (s.edge input).count ∧ (rising = true ↔ (s.edge input).presEdge = 0) ∧ (s.edge input).prescale + 1 < (s.edge input).count))
    ∧ (∃ (input : Nat), ∃ (b : Bool), ∃ s : State, Taken s (fun s => input < 16 ∧ (s.edge input).standard ≠ 0 ∧ s.running = true ∧ (s.edge input).count ≤ 1 ∧ (s.edge input).pick s.now = some b))
    ∧ (∃ (input : Nat), ∃ s : State, Taken s (fun s => input < 16 ∧ (s.edge input).standard ≠ 0 ∧ s.running = true ∧ (s.edge input).count ≤ 1 ∧ (s.edge input).pick s.now = none))
    ∧ (∃ (input : Nat), ∃ (b : Bool), ∃ c2, ∃ inc, ∃ (rising : Bool), ∃ s : State, Taken s (fun s => ((s.edge input).interp b).c2 = some (c2, inc, rising)))
    ∧ (∃ (input : Nat), ∃ (b : Bool), ∃ s : State, Taken s (fun s => input < 16 ∧ (s.edge input).standard ≠ 0 ∧ s.running = true ∧ ((s.edge input).interp b).ready s.now = true ∧ ((s.edge input).interp (!b)).c2 = none ∧ ((s.edge input).interp (!b)).busyTo ≤ s.now ∧ ((s.edge input).interp (!b)).renewal = none ∧ ((s.edge input).interp b).calAt + 1000 ≤ s.now))
    ∧ (∃ (input : Nat), ∃ st, ∃ r, ∃ s : State, Taken s (fun s => (s.edge input).queue = st :: r ∧ s.queueEmpty (98 + input) (r.length + 1) = false))
    ∧ (∃ (unit : Nat), ∃ s : State, Taken s (fun s => (s.unit unit).mode = 1 ∧ (s.unit unit).active = true ∧ u32 (s.unit unit).setting 8 ≠ 0 ∧ (s.unit unit).armedAt + u32 (s.unit unit).setting 8 * 65536000 ≤ s.now * 65536))
    ∧ (∃ (unit : Nat), ∃ s : State, Taken s (fun s => (s.unit unit).mode = 2 ∧ (s.unit unit).active = true ∧ (s.unit unit).gateAt.2 ≤ s.now * 65536)) :=
  ⟨⟨0, { ch := 0, index := 0, time := 0, code := 1, gap := 0, count := 1, flags := 0 }, [], pan0 (fun x => { x with samples := [{ ch := 0, index := 0, time := 0, code := 1, gap := 0, count := 1, flags := 0 }] }) r0, by decide +kernel⟩,
   ⟨r0, by decide +kernel⟩,
   ⟨0, { on := true, chan := 256, words := [{ time := 0, value := some 1, period := 400 }] }, r0.setTap 0 (fun _ => { on := true, chan := 256, words := [{ time := 0, value := some 1, period := 400 }] }), by decide +kernel⟩,
   ⟨{ filtered := false, ch := 0, index := 0, time := 0, period := 400, value := 1, flags := 0, gen := 0 }, [], { r0 with mash := { r0.mash with toMem := [{ filtered := false, ch := 0, index := 0, time := 0, period := 400, value := 1, flags := 0, gen := 0 }] } }, by decide +kernel⟩,
   ⟨0, grp0 0 .armed r0, by decide +kernel⟩,
   ⟨0, { ref := 5, left := 1, taken := 1, first := 0 }, [], (grp0 4 .armed r0).setGroup 0 (fun x => { x with readouts := [{ ref := 5, left := 1, taken := 1, first := 0 }] }), by decide +kernel⟩,
   ⟨0, { time := 0, source := 4, place := 0, groups := [0] }, r0.setTimed (fun _ => [{ time := 0, source := 4, place := 0, groups := [0] }]), by decide +kernel⟩,
   ⟨0, 0, 0, (grp0 0 .disabled r0).setGroup 0 (fun x => { x with terms := [(0, { bytes := [0, 7] ++ zeros 29, next := some 0 })] }), by decide +kernel⟩,
   ⟨zeros 16, r0, by decide +kernel⟩,
   ⟨15, true, r0.setEdge 15 (fun e => { e with setting := [1, 0, 0, 2, 0, 0, 0, 0, 0, 0, 0, 0, 0, 0, 0] }), by decide +kernel⟩,
   ⟨0, false, r0.setEdge 0 (fun e => { e with setting := [1, 0, 0, 1, 0, 0, 0, 0, 0, 0, 0, 0, 0, 0, 0] }), by decide +kernel⟩,
   ⟨0, r0.setEdge 0 (fun e => { e with setting := [1, 0, 0, 1, 0, 0, 0, 0, 0, 0, 0, 0, 0, 0, 0], interpA := { e.interpA with busyTo := 1 }, interpB := { e.interpB with inService := false } }), by decide +kernel⟩,
   ⟨0, false, 0, 0, true, r0.setEdge 0 (fun e => { e with interpA := { e.interpA with c2 := some (0, 0, true) } }), by decide +kernel⟩,
   ⟨0, true, clk 1000 (r0.setEdge 0 (fun e => { e with setting := [1, 0, 0, 1, 0, 0, 0, 0, 0, 0, 0, 0, 0, 0, 0] })), by decide +kernel⟩,
   ⟨0, { time := 0, rising := true, byB := false, lost := 0, came := 0, era := 0 }, [], r0.setEdge 0 (fun e => { e with queue := [{ time := 0, rising := true, byB := false, lost := 0, came := 0, era := 0 }] }), by decide +kernel⟩,
   ⟨7, clk 1000 (r0.setUnit 7 (fun u => { u with mode := 1, active := true, setting := zeros 8 ++ le 4 1 ++ zeros 4 })), by decide +kernel⟩,
   ⟨0, clk 1000 (r0.setUnit 0 (fun u => { u with mode := 2, active := true, setting := zeros 8 ++ le 8 1000 ++ zeros 8 })), by decide +kernel⟩⟩

/-- Each row of the statement is due somewhere, in each of its cases. -/
theorem meets_StreamKilnAndFeedRowsTakeEffect :
    (∃ (stream : Nat), ∃ s : State, Taken s (fun s => (s.stream stream).current.isSome = true ∧ (s.stream stream).arrived + 1000 * (s.sizes stream).2 ≤ s.now))
    ∧ (∃ r, ∃ s : State, Taken s (fun s => s.admits = true ∧ nextAdmissible s s.streams.closed [] = some r))
    ∧ (∃ (stream : Nat), ∃ g, ∃ s : State, Taken s (fun s => (s.stream stream).pending = some g ∧ s.admits = true ∧ s.sys.hub ≠ .faultHold ∧ g.first + 1000000000 ≤ s.now ∧ s.gapsWaiting stream < 2))
    ∧ (∃ e, ∃ s : State, Taken s (fun s => s.streams.arisen.find? (fun e => (s.stream (streamKey 6 e.cls)).isOpen) = some e ∧ 24 + (if (s.stream (streamKey 6 e.cls)).current.isSome then 0 else 32) ≤ State.eventRoom { s with streams := { s.streams with arisen := s.streams.arisen.erase e } }))
    ∧ (∃ e, ∃ s : State, Taken s (fun s => s.streams.arisen.find? (fun e => (s.stream (streamKey 6 e.cls)).isOpen) = some e ∧ State.eventRoom { s with streams := { s.streams with arisen := s.streams.arisen.erase e } } < 24 + (if (s.stream (streamKey 6 e.cls)).current.isSome then 0 else 32)))
    ∧ (∃ s : State, Taken s (fun _ => True))
    ∧ (∃ o, ∃ r, ∃ s : State, Taken s (fun s => s.streams.spill = o :: r ∧ o.size ≤ s.bufferRoom))
    ∧ (∃ (lane : Nat), ∃ i, ∃ r, ∃ mask, ∃ refSet, ∃ refresh, ∃ s : State, Taken s (fun s => lane < 4 ∧ nextToCode s.streams.closed [] 0 = some i ∧ s.streams.closed[i]? = some r ∧ r.coder = some (mask, refSet, refresh) ∧ s.kiln.lanesOut.length < 4 ∧ lane ∉ s.kiln.lanesOut))
    ∧ (∃ (tap : Nat), ∃ b, ∃ r, ∃ s : State, Taken s (fun s => (s.tap tap).queue = b :: r ∧ u8 b 1 % 16 = 7))
    ∧ (∃ (tap : Nat), ∃ b, ∃ r, ∃ s : State, Taken s (fun s => (s.tap tap).queue = b :: r ∧ u8 b 1 = 0 ∧ 1000000 ≤ u32 b 24 * (s.tap tap).rate ∧ (s.tap tap).chan = 0xFFFF))
    ∧ (∃ s : State, Taken s (fun s => s.kiln.job.state = 1 ∧ s.kiln.job.running = true ∧ u8 s.kiln.job.params 0 = 0))
    ∧ (∃ s : State, Taken s (fun s => s.kiln.job.state = 1 ∧ s.kiln.job.running = true ∧ u8 s.kiln.job.params 0 ≠ 0))
    ∧ (∃ s : State, Taken s (fun _ => True))
    ∧ (∃ s : State, Taken s (fun _ => True))
    ∧ (∃ s : State, Taken s (fun s => s.feed.enabled = true))
    ∧ (∃ s : State, Taken s (fun s => s.feed.enabled = true ∧ s.feed.credit = false ∧ s.feed.high ≤ fifoBytes s.feed.fifo + 4 * s.unfreed 96 ∧ s.feed.holdN = true))
    ∧ (∃ s : State, Taken s (fun s => s.feed.enabled = true ∧ s.feed.credit = false ∧ fifoBytes s.feed.fifo + 4 * s.unfreed 96 < s.feed.high ∧ fifoBytes s.feed.fifo + 4 * s.unfreed 96 ≤ s.feed.low))
    ∧ (∃ s : State, Taken s (fun s => s.feed.enabled = true ∧ s.feed.credit = true ∧ 256 ≤ s.feed.owed)) :=
  ⟨⟨0, clk 1000000000 (r0.setStream 0 (fun x => { x with isOpen := true, current := some { key := 0, kind := 0, units := 1, samples := [5] } })), by decide +kernel⟩,
   ⟨{ key := 0, kind := 0, units := 1, samples := [5] }, (r0.setStream 0 (fun x => { x with isOpen := true })) |> (fun s => { s with streams := { s.streams with closed := [{ key := 0, kind := 0, units := 1, samples := [5] }] } }), by decide +kernel⟩,
   ⟨0, { count := 1, index := 0, first := 0, last := 0, reason := 3, unit := 1 }, clk 1000000000 (r0.setStream 0 (fun x => { x with isOpen := true, pending := some { count := 1, index := 0, first := 0, last := 0, reason := 3, unit := 1 } })), by decide +kernel⟩,
   ⟨{ cls := 0, time := 0, code := 1, d0 := 0, d1 := 0, d2 := 0 }, (r0.setStream (streamKey 6 0) (fun x => { x with isOpen := true })) |> (fun s => { s with streams := { s.streams with arisen := [{ cls := 0, time := 0, code := 1, d0 := 0, d1 := 0, d2 := 0 }] } }), by decide +kernel⟩,
   ⟨{ cls := 0, time := 0, code := 1, d0 := 0, d1 := 0, d2 := 0 }, { r0 with streams := { r0.streams with arisen := [{ cls := 0, time := 0, code := 1, d0 := 0, d1 := 0, d2 := 0 }], table := (streamKey 6 0, { isOpen := true }) :: (List.range 11000).map (fun k => (k, { isOpen := true })) } }, by decide +kernel⟩,
   ⟨r0, by decide +kernel⟩,
   ⟨{ body := { key := 0, kind := 0, units := 1, samples := [5] }, admission := 0 }, [], { r0 with streams := { r0.streams with spill := [{ body := { key := 0, kind := 0, units := 1, samples := [5] }, admission := 0 }] } }, by decide +kernel⟩,
   ⟨3, 0, { key := 0, kind := 0, units := 1, samples := [5], toCode := true, coder := some (1, 0, 1) }, 1, 0, 1, { r0 with streams := { r0.streams with closed := [{ key := 0, kind := 0, units := 1, samples := [5], toCode := true, coder := some (1, 0, 1) }], format := 2 } }, by decide +kernel⟩,
   ⟨0, [0, 7], [], r0.setTap 0 (fun x => { x with queue := [[0, 7]] }), by decide +kernel⟩,
   ⟨0, zeros 24 ++ le 4 1000000, [], r0.setTap 0 (fun x => { x with rate := 1, chan := 0xFFFF, queue := [zeros 24 ++ le 4 1000000] }), by decide +kernel⟩,
   ⟨r0.setJob (fun j => { j with state := 1, running := true, params := [0] }), by decide +kernel⟩,
   ⟨r0.setJob (fun j => { j with state := 1, running := true, params := [1] }), by decide +kernel⟩,
   ⟨r0, by decide +kernel⟩,
   ⟨r0, by decide +kernel⟩,
   ⟨r0.setFeed (fun f => { f with enabled := true }), by decide +kernel⟩,
   ⟨r0.setFeed (fun f => { f with enabled := true, high := 0, holdN := true }), by decide +kernel⟩,
   ⟨r0.setFeed (fun f => { f with enabled := true, high := 8, low := 0 }), by decide +kernel⟩,
   ⟨r0.setFeed (fun f => { f with enabled := true, credit := true, owed := 256 }), by decide +kernel⟩⟩

/-- Each row of the statement is due somewhere, in each of its cases. -/
theorem meets_LaneAndTrainingRowsTakeEffect :
    (∃ (port : Port), ∃ (r : TrainingReport), ∃ s : State, Taken s (fun s => (s.port port).waitFrom = none ∧ (s.port port).granted = true ∧ (s.port port).state = 1 ∧ ∃ i < laneCount port, (r.at' i).any (·.signal) = true))
    ∧ (∃ (port : Port), ∃ (r : TrainingReport), ∃ s : State, Taken s (fun s => (s.port port).waitFrom = none ∧ (s.port port).granted = true ∧ (s.port port).state = 2 ∧ (s.port port).step = 2 ∧ readyLanes r port 2 ≠ []))
    ∧ (∃ (port : Port), ∃ (r : TrainingReport), ∃ (rate : Nat), ∃ (w : Nat), ∃ s : State, Taken s (fun s => (s.port port).waitFrom = none ∧ (s.port port).granted = true ∧ (s.port port).state = 2 ∧ (s.port port).step = 3 ∧ (s.port port).used.all (readyLanes r port 3).contains = true ∧ s.chooseRate port = some (rate, w)))
    ∧ (∃ (port : Port), ∃ (r : TrainingReport), ∃ s : State, Taken s (fun s => (s.port port).waitFrom = none ∧ (s.port port).granted = true ∧ (s.port port).state = 2 ∧ (s.port port).step = 4 ∧ (s.port port).used.all (readyLanes r port 4).contains = true))
    ∧ (∃ (port : Port), ∃ (r : TrainingReport), ∃ s : State, Taken s (fun s => (s.port port).waitFrom = none ∧ (s.port port).granted = true ∧ (s.port port).state = 2 ∧ (s.port port).step = 5 ∧ (s.port port).used.all (readyLanes r port 5).contains = true ∧ r.aligned (s.port port).used = true))
    ∧ (∃ (port : Port), ∃ (r : TrainingReport), ∃ s : State, Taken s (fun s => (s.port port).waitFrom = none ∧ (s.port port).granted = true ∧ (s.port port).state = 2 ∧ (s.port port).step = 6 ∧ (s.port port).used.all (readyLanes r port 6).contains = true))
    ∧ (∃ (port : Port), ∃ (r : TrainingReport), ∃ s : State, Taken s (fun s => (s.port port).waitFrom = none ∧ (s.port port).granted = true ∧ (s.port port).state = 2 ∧ (s.port port).step = 7 ∧ (s.port port).used.all (readyLanes r port 7).contains = true))
    ∧ (∃ (port : Port), ∃ s : State, Taken s (fun s => (s.port port).state = 2 ∧ (s.port port).granted = true ∧ (s.port port).miswired = false ∧ (s.port port).waitFrom = none ∧ 2 ≤ (s.port port).step ∧ (s.port port).step ≤ 7 ∧ (s.port port).stepAt + stepLimit (s.port port).step (s.port port).rate ≤ s.now))
    ∧ (∃ (port : Port), ∃ (errs : List LaneErrors), ∃ s : State, Taken s (fun s => (s.port port).state = 2 ∧ (s.port port).step = 8 ∧ (s.port port).granted = true ∧ (s.port port).used ≠ [] ∧ (s.port port).stepAt + verifyNs (s.port port).rate ≤ s.now ∧ ∀ i ∈ (s.port port).used, ∀ e ∈ errs, e.lane = i → e.headers = 0 ∧ e.bip8 = 0 ∧ e.lost = false ∧ e.partnerFails = false ∧ e.awaited = false))
    ∧ (∃ (port : Port), ∃ (errs : List LaneErrors), ∃ s : State, Taken s (fun s => (s.port port).state = 2 ∧ (s.port port).step = 8 ∧ (s.port port).granted = true ∧ (s.port port).stepAt + verifyNs (s.port port).rate ≤ s.now ∧ ∃ e ∈ errs, e.lane ∈ (s.port port).used ∧ e.awaited = true))
    ∧ (∃ (port : Port), ∃ a, ∃ s : State, Taken s (fun s => (s.port port).waitFrom = some a ∧ a + 100000000 ≤ s.now))
    ∧ (∃ (port : Port), ∃ (lane : Nat), ∃ s : State, Taken s (fun s => lane < laneCount port ∧ ((s.port port).lane lane).idle = false ∧ ((s.port port).lane lane).signalAt = none))
    ∧ (∃ (port : Port), ∃ (lane : Nat), ∃ s : State, Taken s (fun s => lane < laneCount port ∧ ((s.port port).lane lane).lockAt = none))
    ∧ (∃ (port : Port), ∃ (lane : Nat), ∃ s : State, Taken s (fun _ => lane < laneCount port))
    ∧ (∃ (port : Port), ∃ (lane : Nat), ∃ s : State, Taken s (fun _ => lane < laneCount port))
    ∧ (∃ (port : Port), ∃ (lane : Nat), ∃ s : State, Taken s (fun s => ((s.port port).lane lane).stands s.now = true))
    ∧ (∃ (port : Port), ∃ s : State, Taken s (fun s => (s.port port).state = 2 ∧ (s.port port).degrade = true ∧ (s.port port).granted = true ∧ (s.port port).step = 8 ∧ (s.port port).stepAt + verifyNs (s.port port).rate ≤ s.now))
    ∧ (∃ (port : Port), ∃ s : State, Taken s (fun s => (s.port port).state = 2 ∧ (s.port port).degrade = true ∧ (s.port port).granted = true))
    ∧ (∃ (port : Port), ∃ s : State, Taken s (fun s => (s.port port).state = 3 ∧ (s.link port).waiting = [] ∧ (s.port port).sentAt + 100 ≤ s.now ∧ s.mayOff port = false ∧ idleExitPs (s.port port).rate (s.port port).width ≤ 1000 * s.portTolerance))
    ∧ (∃ (port : Port), ∃ s : State, Taken s (fun s => (s.port port).state = 4 ∧ (s.port port).quietAt + 100 ≤ s.now))
    ∧ (∃ (port : Port), ∃ s : State, Taken s (fun s => (s.port port).state = 5))
    ∧ (∃ s : State, Taken s (fun _ => True))
    ∧ (∃ (port : Port), ∃ s : State, Taken s (fun s => ((s.port port).state = 3 ∨ (s.port port).state = 4) ∧ (s.link port).waiting = [] ∧ (s.port port).sentAt + 100 ≤ s.now ∧ 50000 ≤ s.portTolerance ∧ s.linkUp port = true ∧ s.hasTime port = false))
    ∧ (∃ (port : Port), ∃ ref, ∃ til, ∃ s : State, Taken s (fun s => (s.port port).test = some (ref, til) ∧ til ≤ s.now))
    ∧ (∃ (port : Port), ∃ a, ∃ s : State, Taken s (fun s => (s.port port).wakeAt = some a ∧ s.portActive port = true ∧ a + 50000 ≤ s.now))
    ∧ (∃ (port : Port), ∃ (lane : Nat), ∃ s : State, Taken s (fun s => lane < laneCount port ∧ s.laneServes port lane = true))
    ∧ (∃ (port : Port), ∃ (lane : Nat), ∃ s : State, Taken s (fun s => s.laneServes port lane = true)) :=
  ⟨⟨.dn0, rep 1 [0, 1, 2, 3], b0.setPort .dn0 (fun x => { x with granted := true }), by decide +kernel⟩,
   ⟨.dn0, rep 2 [3], b0.setPort .dn0 (fun x => { x with state := 2, step := 2, granted := true }), by decide +kernel⟩,
   ⟨.dn0, rep 3 [0, 1, 2, 3], 5, 4, b0.setPort .dn0 (fun x => { x with state := 2, step := 3, granted := true, used := [0, 1, 2, 3], partnerRates := 31, partnerWidths := 7 }), by decide +kernel⟩,
   ⟨.dn0, rep 4 [3], b0.setPort .dn0 (fun x => { x with state := 2, step := 4, granted := true, used := [3] }), by decide +kernel⟩,
   ⟨.dn0, rep 5 [0, 1, 2, 3], b0.setPort .dn0 (fun x => { x with state := 2, step := 5, granted := true, used := [0, 1, 2, 3] }), by decide +kernel⟩,
   ⟨.dn0, rep 6 [3], b0.setPort .dn0 (fun x => { x with state := 2, step := 6, granted := true, used := [3] }), by decide +kernel⟩,
   ⟨.dn0, rep 7 [3], b0.setPort .dn0 (fun x => { x with state := 2, step := 7, granted := true, used := [3] }), by decide +kernel⟩,
   ⟨.dn0, clk 5000000 (b0.setPort .dn0 (fun x => { x with state := 2, step := 7, granted := true })), by decide +kernel⟩,
   ⟨.dn0, [{ lane := 2, headers := 1, bip8 := 0, lost := false }, { lane := 1, headers := 0, bip8 := 0, lost := false }], clk 625000 (b0.setPort .dn0 (fun x => { x with state := 2, step := 8, rate := 5, granted := true, used := [0, 1] })), by decide +kernel⟩,
   ⟨.dn0, [{ lane := 1, headers := 0, bip8 := 0, lost := false, partner := 0 }], clk 625000 (b0.setPort .dn0 (fun x => { x with state := 2, step := 8, rate := 5, granted := true, used := [0, 1] })), by decide +kernel⟩,
   ⟨.dn0, 0, clk 100000000 (b0.setPort .dn0 (fun x => { x with waitFrom := some 0 })), by decide +kernel⟩,
   ⟨.twin, 1, b0, by decide +kernel⟩,
   ⟨.dn0, 3, b0, by decide +kernel⟩,
   ⟨.dn0, 3, b0, by decide +kernel⟩,
   ⟨.twin, 1, b0, by decide +kernel⟩,
   ⟨.dn0, 3, clk 10000 (b0.setPort .dn0 (fun x => { x with lanes := [(3, { signalAt := some 0 })] })), by decide +kernel⟩,
   ⟨.dn0, clk 625000 (b0.setPort .dn0 (fun x => { x with state := 2, degrade := true, step := 8, rate := 5, granted := true })), by decide +kernel⟩,
   ⟨.dn0, b0.setPort .dn0 (fun x => { x with state := 2, degrade := true, granted := true }), by decide +kernel⟩,
   ⟨.dn0, clk 100 (b0.setPort .dn0 (fun x => { x with state := 3, width := 4 })) |> State.setPower (f := fun w => { w with tolerance := [0, 0, 0, 500, 0, 0] }), by decide +kernel⟩,
   ⟨.dn0, clk 100 (b0.setPort .dn0 (fun x => { x with state := 4 })), by decide +kernel⟩,
   ⟨.dn0, b0.setPort .dn0 (fun x => { x with state := 5 }), by decide +kernel⟩,
   ⟨b0, by decide +kernel⟩,
   ⟨.dn0, clk 100 (up .dn0 b0) |> State.setPower (f := fun w => { w with tolerance := [0, 0, 0, 50000, 0, 0] }), by decide +kernel⟩,
   ⟨.dn0, 5, 0, b0.setPort .dn0 (fun x => { x with test := some (5, 0) }), by decide +kernel⟩,
   ⟨.dn0, 0, clk 50000 (b0.setPort .dn0 (fun x => { x with state := 3, wakeAt := some 0 })), by decide +kernel⟩,
   ⟨.twin, 1, b0.setPort .twin (fun x => { x with state := 3, used := [0, 1] }), by decide +kernel⟩,
   ⟨.dn0, 3, b0.setPort .dn0 (fun x => { x with state := 4, used := [3] }), by decide +kernel⟩⟩

/-- Each row of the statement is due somewhere, in each of its cases. -/
theorem meets_LinkFrameRowsTakeEffect :
    (∃ (port : Port), ∃ (f : Frame), ∃ s : State, Taken s (fun s => frameClass f ≠ 0 ∧ frameLast f = false ∧ s.takesFrame port f 1))
    ∧ (∃ (port : Port), ∃ (f : Frame), ∃ s : State, Taken s (fun s => frameClass f ≠ 0 ∧ frameLast f = true ∧ s.takesFrame port f 1))
    ∧ (∃ (port : Port), ∃ (f : Frame), ∃ s : State, Taken s (fun s => f.type = 1 ∧ frameClass f ≠ 0 ∧ s.receives port = true ∧ s.linkUp port = true ∧ f.intact = false))
    ∧ (∃ (f : Frame), ∃ s : State, Taken s (fun _ => f.type = 1 ∧ frameClass f = 0))
    ∧ (∃ (port : Port), ∃ (f : Frame), ∃ s : State, Taken s (fun s => s.takesLinkFrame port f 2 ∧ s.linkUp port = true))
    ∧ (∃ (port : Port), ∃ (f : Frame), ∃ s : State, Taken s (fun s => u8 f.payload 1 = 0 ∧ u8 f.payload 0 ≠ 5 ∧ s.takesLinkFrame port f 3 ∧ s.linkUp port = true))
    ∧ (∃ (port : Port), ∃ (f : Frame), ∃ s : State, Taken s (fun s => u8 f.payload 1 ≠ 0 ∧ s.takesLinkFrame port f 3 ∧ s.linkUp port = true))
    ∧ (∃ (port : Port), ∃ s : State, Taken s (fun s => (s.link port).replay ≠ [] ∧ s.linkUp port = true ∧ (s.link port).ackAt + 10000 ≤ s.now))
    ∧ (∃ (port : Port), ∃ (f : Frame), ∃ s : State, Taken s (fun s => s.takesLinkFrame port f 4 ∧ s.linkUp port = true))
    ∧ (∃ (port : Port), ∃ s : State, Taken s (fun s => s.linkUp port = true ∧ ((List.range 4).any (fun c => decide (16 ≤ ahead (Tbl.get 0 (s.link port).given c) (Tbl.get 0 (s.link port).told c))) = true ∨ (s.link port).grewAt.any (fun t => decide (t + 1000 ≤ s.now)) = true ∨ (s.link port).creditAt + 100000 ≤ s.now)))
    ∧ (∃ (port : Port), ∃ s : State, Taken s (fun s => (s.portActive port = true ∧ s.sys.localMode = false ∧ (∀ t, (s.link port).helloAt = some t → t + 10000 ≤ s.now) ∧ ((s.link port).state ≠ 3 ∨ (s.link port).helloOwed = true))))
    ∧ (∃ (port : Port), ∃ (f : Frame), ∃ v, ∃ s : State, Taken s (fun s => s.takesLinkFrame port f 5 ∧ s.sys.localMode = false ∧ (s.link port).state ≠ 3 ∧ (s.link port).state ≠ 4 ∧ commonVersion (s.link port).offered f.payload = some v ∧ bit (u8 f.payload 11) 0 = true))
    ∧ (∃ (port : Port), ∃ (f : Frame), ∃ s : State, Taken s (fun s => s.takesFrame port f 6))
    ∧ (∃ (port : Port), ∃ (f : Frame), ∃ s : State, Taken s (fun s => isDn port = true ∧ s.takesFrame port f 7))
    ∧ (∃ (f : Frame), ∃ s : State, Taken s (fun s => f.target = 0xFFF ∧ s.takesFrame .up f 8 ∧ u64 f.payload 0 = ((s.tookFrame .up f).payBack (some (Port.code .up, 1, frameCost f))).hubIdentity))
    ∧ (∃ n, ∃ a, ∃ s : State, Taken s (fun s => s.fabric.restart = some (n, a, false) ∧ a + 1000000000 ≤ s.now))
    ∧ (∃ (port : Port), ∃ (f : Frame), ∃ s : State, Taken s (fun s => isDn port = true ∧ f.hops.toNat < 254 ∧ s.takesFrame port f 9 ∧ (s.tookFrame port f).own ≠ 0))
    ∧ (∃ (port : Port), ∃ (f : Frame), ∃ s : State, Taken s (fun s => s.takesFrame port f 10))
    ∧ (∃ (port : Port), ∃ s : State, Taken s (fun s => isDn port = true ∧ (s.link port).attached = true ∧ s.linkUp port = false ∧ (s.link port).downAt + 1000000 * s.fabric.detectMs ≤ s.now))
    ∧ (∃ s : State, Taken s (fun s => s.fabric.attached = true ∧ s.linkUp .up = false ∧ (s.link .up).downAt + 1000000 * s.fabric.detectMs ≤ s.now)) :=
  ⟨⟨.dn0, (frameOf 1 5 0 0 0 (zeros 32)), (up .dn0 b0), by decide +kernel⟩,
   ⟨.dn0, (frameOf 1 13 0 0 0 (packetBytes pkt0)), (up .dn0 b0), by decide +kernel⟩,
   ⟨.dn0, { (frameOf 1 5 0 0 0 (zeros 32)) with intact := false }, (up .dn0 b0), by decide +kernel⟩,
   ⟨(frameOf 1 12 0 0 0 (zeros 128)), (up .dn0 b0), by decide +kernel⟩,
   ⟨.dn0, (frameOf 2 1 0 0 0 []), (up .dn0 b0), by decide +kernel⟩,
   ⟨.dn0, (frameOf 3 1 0 0 0 [1, 0, 0, 0]), (up .dn0 b0), by decide +kernel⟩,
   ⟨.dn0, (frameOf 3 1 0 0 0 [1, 1, 0, 0]), (up .dn0 b0), by decide +kernel⟩,
   ⟨.dn0, clk 10000 ((up .dn0 b0).setLink .dn0 (fun l => { l with replay := [{ frame := frameOf 2 1 0 0 0 [], sends := 1 }] })), by decide +kernel⟩,
   ⟨.dn0, (frameOf 4 1 0 0 0 (zeros 16)), (up .dn0 b0), by decide +kernel⟩,
   ⟨.dn0, (up .dn0 b0), by decide +kernel⟩,
   ⟨.dn0, b0.setPort .dn0 (fun x => { x with state := 3 }), by decide +kernel⟩,
   ⟨.dn0, (frameOf 5 1 0 0 0 ([1, 0, 2, 0] ++ zeros 7 ++ [1] ++ zeros 36)), (2, 0), (b0.setPort .dn0 (fun x => { x with state := 3 })).setLink .dn0 (fun l => { l with ownId := some 1 }), by decide +kernel⟩,
   ⟨.dn0, (frameOf 6 2 0 0 0 (zeros 8)), (up .dn0 b0), by decide +kernel⟩,
   ⟨.dn0, (frameOf 7 1 0 0 0 (zeros 24)), (up .dn0 b0), by decide +kernel⟩,
   ⟨(frameOf 8 1 4095 0 0 (zeros 24)), (up .up b0).setTwin (fun w => { w with asLead := true }), by decide +kernel⟩,
   ⟨1, 0, clk 1000000000 { b0 with fabric := { b0.fabric with restart := some (1, 0, false) } }, by decide +kernel⟩,
   ⟨.dn0, (frameOf 9 3 0 0 0 (zeros 16)), { (up .dn0 b0) with fabric := { (up .dn0 b0).fabric with address := 5 } }, by decide +kernel⟩,
   ⟨.dn0, (frameOf 10 1 0 0 0 (zeros 4)), (up .dn0 b0), by decide +kernel⟩,
   ⟨.dn0, clk 50000000 (b0.setLink .dn0 (fun l => { l with attached := true })), by decide +kernel⟩,
   ⟨clk 50000000 { b0 with fabric := { b0.fabric with attached := true } }, by decide +kernel⟩⟩

/-- Each row of the statement is due somewhere, in each of its cases. -/
theorem meets_TimeRowsTakeEffect :
    (∃ (port : Port), ∃ s : State, Taken s (fun s => (s.givesTime port = true ∧ ∀ a, (s.timePort port).syncAt = some a → a + syncInterval s.time.code ≤ s.now)))
    ∧ (∃ (port : Port), ∃ s : State, Taken s (fun s => (s.timeSource = some port ∧ s.linkUp port = true ∧ ∀ a, (s.timePort port).askedAt = some a → a + syncInterval (s.codeOn port) * (if (s.timePort port).holds then 16 else 1) ≤ s.now)))
    ∧ (∃ (port : Port), ∃ (f : Frame), ∃ (t2 : Int), ∃ s : State, Taken s (fun s => s.receives port = true ∧ s.linkUp port = true ∧ s.timeReason port f = 0 ∧ u8 f.payload 0 = 2 ∧ (s.tookTime port f).acrossStep t2 = false))
    ∧ (∃ (port : Port), ∃ (f : Frame), ∃ (t4 : Int), ∃ t1, ∃ s : State, Taken s (fun s => s.receives port = true ∧ s.linkUp port = true ∧ s.timeReason port f = 0 ∧ u8 f.payload 0 = 3 ∧ (s.tookTime port f).timeSource = some port ∧ ((s.tookTime port f).timePort port).asked = some (u16 f.payload 4, t1) ∧ t4 - t1 ≤ 100000 * oneNs))
    ∧ (∃ (port : Port), ∃ (f : Frame), ∃ (rx : Int), ∃ d, ∃ s : State, Taken s (fun s => let u := s.tookTime port f;
      s.receives port = true ∧ s.linkUp port = true ∧ s.timeReason port f = 0 ∧ u8 f.payload 0 = 1 ∧ u.timeSource = some port ∧ u.sys.hub ≠ .discover ∧ (u.timePort port).mean = some d ∧
      2 ≤ u.time.phase ∧ u.time.phase ≠ 9 ∧ u.time.stepAt ≤ rx ∧ rx ≤ (u.time.counter : Int) ∧ u.time.stepAt ≤ rx - d - psTime (u.timePort port).asym ∧ rx - d - psTime (u.timePort port).asym ≤ (u.time.counter : Int) ∧
      (∀ q, u.time.syncSeq = some q → 0 < (u16 f.payload 2 + 65536 - q) % 65536 ∧ (u16 f.payload 2 + 65536 - q) % 65536 < 32768)))
    ∧ (∃ (port : Port), ∃ (f : Frame), ∃ s : State, Taken s (fun s => let u := s.refuseTime port (s.timeReason port f);
      s.receives port = true ∧ s.linkUp port = true ∧ s.timeReason port f ≠ 0 ∧ u.timeSource = some port ∧ u.sys.hub ≠ .discover))
    ∧ (∃ a, ∃ s : State, Taken s (fun s => s.time.syncAt = some a ∧ a + 4 * syncInterval s.time.parentCode ≤ s.now ∧ s.time.phase ≠ 7))
    ∧ (∃ a, ∃ s : State, Taken s (fun s => s.time.syncAt = some a ∧ a + 4 * syncInterval s.time.parentCode ≤ s.now ∧ s.time.phase = 7))
    ∧ (∃ a, ∃ s : State, Taken s (fun s => s.time.bridgeAt = some a ∧ s.time.phase = 6 ∧ a + 1000000 * s.time.bridgeMs < s.now))
    ∧ (∃ a, ∃ s : State, Taken s (fun s => s.time.bridgeAt = some a ∧ 2 ≤ s.time.phase ∧ s.time.phase ≤ 4 ∧ a + 1000000 * s.time.bridgeMs < s.now))
    ∧ (∃ b, ∃ s : State, Taken s (fun s => (s.edge ppsInput).pick s.now = some b ∧ ¬ (s.sys.localMode = true ∧ s.time.source = 2)))
    ∧ (∃ b, ∃ s : State, Taken s (fun s => (s.edge ppsInput).pick s.now = some b ∧ s.sys.localMode = true ∧ s.time.source = 2))
    ∧ (∃ s : State, Taken s (fun s => (s.edge ppsInput).pick s.now = none))
    ∧ (∃ s : State, Come s (fun _ => True))
    ∧ (∃ from', ∃ o, ∃ w, ∃ s : State, Taken s (fun s => s.time.ppsNext = some (from', o, w) ∧ from' ≤ s.now))
    ∧ (∃ s : State, Taken s (fun s => s.time.ppsNext = none ∧ s.ppsEnabled = true ∧ s.now % 1000000000 = s.time.ppsOffset)) :=
  ⟨⟨.dn0, (up .dn0 b0).setLink .dn0 (fun l => { l with attached := true }), by decide +kernel⟩,
   ⟨.up, (up .up b0), by decide +kernel⟩,
   ⟨.up, (frameOf 1 12 0 0 0 ([2, 0, 0, 0, 0, 0] ++ zeros 122)), 0, (up .up b0), by decide +kernel⟩,
   ⟨.up, (frameOf 1 12 0 0 0 ([3, 0, 0, 0, 0, 0] ++ zeros 122)), 100000 * oneNs, 0, (up .up b0).setTimePort .up (fun x => { x with asked := some (0, 0) }), by decide +kernel⟩,
   ⟨.up, (frameOf 1 12 0 0 0 ([1, 0, 1, 0] ++ zeros 124)), 0, 0, { (up .up b0) with time := { (up .up b0).time with phase := 5, syncSeq := some 0, ports := [(0, { mean := some 0 })] } }, by decide +kernel⟩,
   ⟨.up, (frameOf 1 12 0 0 0 ([1, 0, 0, 0, 0, 0] ++ zeros 100)), (up .up b0), by decide +kernel⟩,
   ⟨0, clk 4000000 { b0 with time := { b0.time with syncAt := some 0, phase := 5 } }, by decide +kernel⟩,
   ⟨0, clk 4000000 { b0 with time := { b0.time with syncAt := some 0, phase := 7 } }, by decide +kernel⟩,
   ⟨0, clk 50000001 { b0 with time := { b0.time with bridgeAt := some 0, phase := 6 } }, by decide +kernel⟩,
   ⟨0, clk 50000001 { b0 with time := { b0.time with bridgeAt := some 0, phase := 4 } }, by decide +kernel⟩,
   ⟨false, b0, by decide +kernel⟩,
   ⟨false, { b0 with sys := { b0.sys with localMode := true }, time := { b0.time with source := 2 } }, by decide +kernel⟩,
   ⟨b0.setEdge ppsInput (fun e => { e with interpA := { e.interpA with busyTo := 1 }, interpB := { e.interpB with inService := false } }), by decide +kernel⟩,
   ⟨b0, by decide +kernel⟩,
   ⟨0, 10, 1000, { b0 with time := { b0.time with ppsNext := some (0, 10, 1000) } }, by decide +kernel⟩,
   ⟨{ b0 with time := { b0.time with ppsOn := true, phase := 5 } }, by decide +kernel⟩⟩

/-- Each row of the statement is due somewhere, in each of its cases. -/
theorem meets_TwinRowsTakeEffect :
    (∃ s : State, Taken s (fun s => (s.generates = true ∧ ∀ t, s.twin.beatAt = some t → t + 10000 ≤ s.now)))
    ∧ (∃ s : State, Taken s (fun s => (s.generates = true ∧ ∀ t, s.twin.pinBeatAt = some t → t + 5000 ≤ s.now)))
    ∧ (∃ msg : Bytes, ∃ s : State, Taken s (fun s => u8 msg 0 = 1 ∧ 16 ≤ msg.length ∧ s.twin.mode ≠ 0))
    ∧ (∃ s : State, Taken s (fun s => s.twin.mode ≠ 0))
    ∧ (∃ s : State, Taken s (fun s => s.linkBeats = false))
    ∧ (∃ s : State, Taken s (fun s => s.pinBeats = false))
    ∧ (∃ s : State, Come s (fun s => s.twin.windowAt = none))
    ∧ (∃ a, ∃ s : State, Taken s (fun s => s.twin.windowAt = some a ∧ a + 2000 ≤ s.now ∧ s.sys.straps.twinRole = true))
    ∧ (∃ a, ∃ s : State, Taken s (fun s => s.twin.windowAt = some a ∧ a + 2000 ≤ s.now ∧ s.sys.straps.twinRole = false))
    ∧ (∃ s : State, Taken s (fun s => s.twin.dutyOut = true ∧ max (max (s.twin.beatAt.getD 0) (s.twin.pinBeatAt.getD 0)) (max (s.twin.windowAt.getD 0) (s.twin.claimedAt.getD 0)) + 20000 ≤ s.now))
    ∧ (∃ s : State, Taken s (fun s => s.twin.mode = 1 ∧ s.twin.paired = true ∧ s.twin.role = 1 ∧ s.linkUp .twin = true ∧ s.now % (1000 * s.twin.cycleUs) = 0 ∧ s.twin.nextUs = none))
    ∧ (∃ n, ∃ s : State, Taken s (fun s => s.twin.mode = 1 ∧ s.twin.paired = true ∧ s.twin.role = 1 ∧ s.linkUp .twin = true ∧ s.now % (1000 * s.twin.cycleUs) = 0 ∧ s.twin.nextUs = some n ∧ s.now % (1000 * n) = 0))
    ∧ (∃ msg : Bytes, ∃ s : State, Taken s (fun s => u8 msg 0 = 2 ∧ 56 ≤ msg.length ∧ s.twin.mode = 1 ∧ s.twin.paired = true ∧ s.twin.role = 2))
    ∧ (∃ (msg : Bytes), ∃ x, ∃ s : State, Taken s (fun s => u8 msg 0 = 3 ∧ s.twin.copies.find? (fun x => x.cycle == u32 msg 1) = some x))
    ∧ (∃ (msg : Bytes), ∃ p, ∃ s : State, Taken s (fun s => u8 msg 0 = 4 ∧ packetOf (msg.drop 5) = some p ∧ s.sys.fwPaused = false ∧ s.twin.role = 2))
    ∧ (∃ (msg : Bytes), ∃ x, ∃ s : State, Taken s (fun s => u8 msg 0 = 5 ∧ s.twin.mirrors.find? (fun x => x.number == u32 msg 1) = some x))
    ∧ (∃ (number : Nat), ∃ x, ∃ s : State, Taken s (fun s => s.twin.mirrors.find? (fun x => x.number == number) = some x ∧ x.sentAt + 1000000 ≤ s.now))
    ∧ (∃ (msg : Bytes), ∃ p, ∃ s : State, Taken s (fun s => u8 msg 0 = 6 ∧ packetOf (msg.drop 1) = some p ∧ s.sys.fwPaused = false ∧ s.twin.mode = 2 ∧ s.twin.paired = true ∧ ((versionError { p.cmd with target := 0, source := 0 } none).or (shapeError { p.cmd with target := 0, source := 0 } (p.cmd.version == 2))).or (s.slotError .relay { p.cmd with target := 0, source := 0 }) = none))
    ∧ (∃ (msg : Bytes), ∃ p, ∃ x, ∃ s : State, Taken s (fun s => u8 msg 0 = 7 ∧ packetOf (msg.drop 1) = some p ∧ p.cmd.tag.toNat < 128 ∧ u8 msg 17 ≠ stAccepted ∧ s.twin.relays.find? (fun e => e.key == relayKey p) = some x ∧ (s.heldOf x.ref).any (fun h => h.opcode == 0x0005 || cmdDryRun h.cmd) = false))
    ∧ (∃ (msg : Bytes), ∃ s : State, Taken s (fun s => u8 msg 0 = 8 ∧ u8 msg 1 % 64 < 16 ∧ s.twin.mode = 2 ∧ s.twin.paired = true ∧ (s.group (u8 msg 1 % 64)).active = true))
    ∧ (∃ record : Bytes, ∃ s : State, Taken s (fun s => 32 ≤ record.length ∧ s.twin.mode = 2 ∧ s.twin.paired = true ∧ s.twin.role = 3))
    ∧ (∃ s : State, Taken s (fun s => s.twin.mode = 1 ∧ s.twin.paired = true ∧ s.twin.role = 1 ∧ s.twin.yieldUs ≠ 0 ∧ s.upAttached = false ∧ s.fabric.lostAt + 1000 * s.twin.yieldUs ≤ s.now ∧ s.twin.partnerFlags.getLsbD 3 = true ∧ s.linkBeats = true))
    ∧ (∃ r, ∃ a, ∃ s : State, Taken s (fun s => s.twin.pairRefs = [(r, a)] ∧ s.twin.paired = false ∧ a + 10000000000 ≤ s.now))
    ∧ (∃ s : State, Taken s (fun _ => True))
    ∧ (∃ x, ∃ s : State, Taken s (fun s => s.twin.copies.find? (fun x => x.sentAt != 0 && decide (x.sentAt + 5000 ≤ s.now)) = some x)) :=
  ⟨⟨(tw (fun w => { w with mode := 1, role := 1 }) b0), by decide +kernel⟩,
   ⟨(tw (fun w => { w with mode := 1, role := 1 }) b0), by decide +kernel⟩,
   ⟨1 :: zeros 15, (tw (fun w => { w with mode := 1, role := 1 }) b0), by decide +kernel⟩,
   ⟨(tw (fun w => { w with mode := 1, role := 1 }) b0), by decide +kernel⟩,
   ⟨b0, by decide +kernel⟩,
   ⟨b0, by decide +kernel⟩,
   ⟨b0, by decide +kernel⟩,
   ⟨0, clk 2000 (((tw (fun w => { w with mode := 1, role := 0, windowAt := some 0 }) b0)).setSys (fun x => { x with straps := ⟨0, true⟩ })), by decide +kernel⟩,
   ⟨0, clk 2000 (tw (fun w => { w with mode := 1, role := 0, windowAt := some 0 }) b0), by decide +kernel⟩,
   ⟨clk 20000 (b0.setTwin (fun w => { w with dutyOut := true })), by decide +kernel⟩,
   ⟨up .twin (tw (fun w => { w with mode := 1, role := 1 }) b0), by decide +kernel⟩,
   ⟨100, up .twin (tw (fun w => { w with mode := 1, role := 1, nextUs := some 100 }) b0), by decide +kernel⟩,
   ⟨2 :: zeros 55, (tw (fun w => { w with mode := 1, role := 2 }) b0), by decide +kernel⟩,
   ⟨3 :: zeros 4, { cycle := 0, upTo := 0, sentAt := 0 }, (tw (fun w => { w with mode := 1, role := 1, copies := [{ cycle := 0, upTo := 0, sentAt := 0 }] }) b0), by decide +kernel⟩,
   ⟨4 :: zeros 4 ++ packetBytes pkt0, pkt0, (tw (fun w => { w with mode := 1, role := 2 }) b0), by decide +kernel⟩,
   ⟨5 :: zeros 8, { number := 0, ref := 5, status := 0, detail := 0, result := [], holds := false, sentAt := 0 }, (tw (fun w => { w with mode := 1, role := 1, mirrors := [{ number := 0, ref := 5, status := 0, detail := 0, result := [], holds := false, sentAt := 0 }] }) b0), by decide +kernel⟩,
   ⟨0, { number := 0, ref := 5, status := 0, detail := 0, result := [], holds := false, sentAt := 0 }, clk 1000000 (tw (fun w => { w with mode := 1, role := 1, mirrors := [{ number := 0, ref := 5, status := 0, detail := 0, result := [], holds := false, sentAt := 0 }] }) b0), by decide +kernel⟩,
   ⟨(6 :: packetBytes pkt0), pkt0, (tw (fun w => { w with mode := 2, role := 4 }) b0), by decide +kernel⟩,
   ⟨(7 :: packetBytes { opcode := 4, cmd := cmdOf [0, 0, 4, 0] }), { opcode := 4, cmd := cmdOf [0, 0, 4, 0] }, { key := relayKey { opcode := 4, cmd := cmdOf [0, 0, 4, 0] }, ref := 5 }, (tw (fun w => { w with mode := 2, role := 3, relays := [{ key := relayKey { opcode := 4, cmd := cmdOf [0, 0, 4, 0] }, ref := 5 }] }) b0), by decide +kernel⟩,
   ⟨8 :: zeros 17, grp0 0 .armed (tw (fun w => { w with mode := 2, role := 3 }) b0), by decide +kernel⟩,
   ⟨zeros 32, (tw (fun w => { w with mode := 2, role := 3 }) b0), by decide +kernel⟩,
   ⟨clk 1000000 ((tw (fun w => { w with mode := 1, role := 1, partnerFlags := 8, linkAt := some 1000000 }) b0)), by decide +kernel⟩,
   ⟨5, 0, clk 10000000000 (b0.setTwin (fun w => { w with pairRefs := [(5, 0)] })), by decide +kernel⟩,
   ⟨b0, by decide +kernel⟩,
   ⟨{ cycle := 0, upTo := 0, sentAt := 1 }, clk 5001 (b0.setTwin (fun w => { w with copies := [{ cycle := 0, upTo := 0, sentAt := 1 }] })), by decide +kernel⟩⟩

/-- Each row of the statement is due somewhere, in each of its cases. -/
theorem meets_CalibrationAndPowerRowsTakeEffect :
    (∃ s : State, Taken s (fun _ => True))
    ∧ (∃ (weights : List Int), ∃ (offset : Int), ∃ r, ∃ c, ∃ s : State, Taken s (fun s => c < 32 ∧ s.cal.rotation = some r ∧ r.asked = some c ∧ s.loanPan = some c ∧ (State.convMeasures ((s.setRotation (fun r => { r with left := r.left.drop 1, asked := none })).askRelease c) c weights offset).find? (fun m => !m.passes (State.convMeasured ((s.setRotation (fun r => { r with left := r.left.drop 1, asked := none })).askRelease c) c)) = none))
    ∧ (∃ (weights : List Int), ∃ (offset : Int), ∃ r, ∃ c, ∃ m, ∃ s : State, Taken s (fun s => c < 32 ∧ s.cal.rotation = some r ∧ r.asked = some c ∧ s.loanPan = some c ∧ (State.convMeasures ((s.setRotation (fun r => { r with left := r.left.drop 1, asked := none })).askRelease c) c weights offset).find? (fun m => !m.passes (State.convMeasured ((s.setRotation (fun r => { r with left := r.left.drop 1, asked := none })).askRelease c) c)) = some m))
    ∧ (∃ (ch : Nat), ∃ s : State, Taken s (fun s => ch < 256 ∧ (s.pan (panOf ch)).power = .on ∧ (s.chan ch).tdcBusy ≤ s.now ∧ (s.chan ch).tdcPending = [] ∧ s.dieLost (dieOf (panOf ch)) = false))
    ∧ (∃ (pan : Nat), ∃ f, ∃ s : State, Taken s (fun s => s.cal.fore = some f ∧ f.entered = true ∧ f.running = [] ∧ f.left.head? = some pan ∧ (s.now - s.grid.2) % (s.grid.period * 2 ^ (s.pan pan).log2D) = 0 ∧ f.freeAt ≤ s.now ∧ s.now < f.freeAt + s.grid.period * 2 ^ (s.pan pan).log2D))
    ∧ (∃ (vcal : Int), ∃ (senseErr : Int), ∃ f, ∃ s : State, Taken s (fun s => s.cal.fore = some f ∧ f.entered = false ∧ f.granted.any (fun g => s.passEpoch f g == s.now) = true ∧ s.grid.isEpoch s.now = true ∧ (s.sys.hub = .ready ∨ s.sys.hub = .run) ∧ 200 * (vcal - s.cal.declared).natAbs ≤ s.cal.declared ∧ senseErr.natAbs ≤ 2000))
    ∧ (∃ (vcal : Int), ∃ (senseErr : Int), ∃ f, ∃ s : State, Taken s (fun s => s.cal.fore = some f ∧ f.entered = false ∧ f.granted.any (fun g => s.passEpoch f g == s.now) = true ∧ s.grid.isEpoch s.now = true ∧ (s.sys.hub = .ready ∨ s.sys.hub = .run) ∧ (s.cal.declared < 200 * (vcal - s.cal.declared).natAbs ∨ 2000 < senseErr.natAbs)))
    ∧ (∃ (pan : Nat), ∃ f, ∃ s : State, Taken s (fun s => s.cal.fore = some f ∧ pan ∈ f.running ∧ s.intervalOver pan = true))
    ∧ (∃ (group : Nat), ∃ s : State, Taken s (fun s => group < 6 ∧ group ≠ 3 ∧ s.groupBusy group = false ∧ (s.power.idleAt.lookup group).any (fun t => decide (t + 100000 ≤ s.now)) = true))
    ∧ (∃ (group : Nat), ∃ s : State, Taken s (fun s => group < 6 ∧ group ≠ 3 ∧ s.groupBusy group = true))
    ∧ (∃ s : State, Taken s (fun s => s.sys.hub = .ready ∧ s.calm none = true ∧ s.power.holdTo ≤ s.now ∧ s.power.calmAt.any (fun t => decide (t + 10000000 ≤ s.now)) = true))
    ∧ (∃ s : State, Taken s (fun s => (s.sys.hub = .dormant ∧ (s.tolerant = false ∨ s.power.wakes ≠ []))))
    ∧ (∃ s : State, Taken s (fun s => s.power.holdTo ≤ s.now))
    ∧ (∃ s : State, Taken s (fun _ => True))
    ∧ (∃ s : State, Taken s (fun _ => True))
    ∧ (∃ s : State, Taken s (fun _ => True))
    ∧ (∃ (recovery : Bool), ∃ r, ∃ s : State, Taken s (fun s => s.sluice.grantable recovery = some r))
    ∧ (∃ s : State, Taken s (fun _ => True))
    ∧ (∃ (recovery : Bool), ∃ r, ∃ s : State, Taken s (fun s => (s.sluice.queue recovery).find? (fun r => decide (r.deadline ≤ s.now)) = some r)) :=
  ⟨⟨b0, by decide +kernel⟩,
   ⟨List.replicate 24 0, 0, { ref := none, mask := 1, temps := [], targets := [], strikeDone := false, every := false, left := [0], asked := some 0, done := 0, rejected := 0, skipped := 0, start := 0 }, 0, { b0 with cal := { b0.cal with rotation := some { ref := none, mask := 1, temps := [], targets := [], strikeDone := false, every := false, left := [0], asked := some 0, done := 0, rejected := 0, skipped := 0, start := 0 } }, front := { b0.front with roving := .loan 0 } }, by decide +kernel⟩,
   ⟨3000 :: List.replicate 23 0, 0, { ref := none, mask := 1, temps := [], targets := [], strikeDone := false, every := false, left := [0], asked := some 0, done := 0, rejected := 0, skipped := 0, start := 0 }, 0, { row := 1, lo := -2048, hi := 2048, change := 256, value := 3000, before := 0 }, { b0 with cal := { b0.cal with rotation := some { ref := none, mask := 1, temps := [], targets := [], strikeDone := false, every := false, left := [0], asked := some 0, done := 0, rejected := 0, skipped := 0, start := 0 } }, front := { b0.front with roving := .loan 0 } }, by decide +kernel⟩,
   ⟨0, r0, by decide +kernel⟩,
   ⟨0, { ref := 5, parallel := false, mask := 1, epoch := 0, left := [0], entered := true }, { b0 with cal := { b0.cal with fore := some { ref := 5, parallel := false, mask := 1, epoch := 0, left := [0], entered := true } } }, by decide +kernel⟩,
   ⟨4096000, 2000, { ref := 5, parallel := false, mask := 1, epoch := 0, left := [0], granted := some 0 }, { b0 with cal := { b0.cal with fore := some { ref := 5, parallel := false, mask := 1, epoch := 0, left := [0], granted := some 0 } } }, by decide +kernel⟩,
   ⟨0, 0, { ref := 5, parallel := false, mask := 1, epoch := 0, left := [0], granted := some 0 }, { b0 with cal := { b0.cal with fore := some { ref := 5, parallel := false, mask := 1, epoch := 0, left := [0], granted := some 0 } } }, by decide +kernel⟩,
   ⟨0, { ref := 5, parallel := false, mask := 1, epoch := 0, left := [0], running := [0] }, { b0 with cal := { b0.cal with fore := some { ref := 5, parallel := false, mask := 1, epoch := 0, left := [0], running := [0] } } }, by decide +kernel⟩,
   ⟨1, clk 100000 (b0.setPower (fun w => { w with idleAt := [(1, 0)] })), by decide +kernel⟩,
   ⟨0, b0, by decide +kernel⟩,
   ⟨clk 10000000 (b0.setPower (fun w => { w with tolerance := List.replicate 6 4294967295, calmAt := some 0 })), by decide +kernel⟩,
   ⟨hub .dormant (b0.setPower (fun w => { w with wakes := [5] })), by decide +kernel⟩,
   ⟨b0, by decide +kernel⟩,
   ⟨b0, by decide +kernel⟩,
   ⟨b0, by decide +kernel⟩,
   ⟨b0, by decide +kernel⟩,
   ⟨false, { op := 6, unit := 0, cost := {}, recovery := false, ref := none, entered := 0, deadline := 5 }, { b0 with sluice := { b0.sluice with normal := [{ op := 6, unit := 0, cost := {}, recovery := false, ref := none, entered := 0, deadline := 5 }] } }, by decide +kernel⟩,
   ⟨b0, by decide +kernel⟩,
   ⟨false, { op := 6, unit := 0, cost := {}, recovery := false, ref := none, entered := 0, deadline := 5 }, clk 5 { b0 with sluice := { b0.sluice with normal := [{ op := 6, unit := 0, cost := {}, recovery := false, ref := none, entered := 0, deadline := 5 }] } }, by decide +kernel⟩⟩

/-- Each row of the statement is due somewhere, in each of its cases. -/
theorem meets_SafetyAndFaultRowsTakeEffect :
    (∃ (ch : SafeCh), ∃ s : State, Come s (fun s => (s.safety.chan ch).held = false))
    ∧ (∃ (ch : SafeCh), ∃ m, ∃ s : State, Come s (fun s => (s.safety.chan (SafeCh.other ch)).out = some m ∧ (s.safety.chan ch).held = false))
    ∧ (∃ (ch : SafeCh), ∃ (pair : Nat), ∃ s : State, Come s (fun s => pair < 4 ∧ (s.safety.chan ch).held = false ∧ Tbl.get 0 (s.safety.chan ch).pulse pair = 3))
    ∧ (∃ s : State, Come s (fun _ => True))
    ∧ (∃ s : State, Come s (fun s => s.hubEnable = true))
    ∧ (∃ s : State, Come s (fun s => s.hubEnable = false))
    ∧ (∃ s : State, Come s (fun s => s.safety.a.waiting.isSome = true ∧ s.safety.confirm = none ∧ s.safety.writtenAt + 10000000000 ≤ s.now))
    ∧ (∃ (ch : SafeCh), ∃ s : State, Come s (fun s => (s.safety.chan ch).held = true))
    ∧ (∃ (store : Nat), ∃ (word : Nat), ∃ s : State, Taken s (fun _ => word < storeWords store))
    ∧ (∃ s : State, Taken s (fun s => s.scrubWaits = false ∧ s.faults.scrubAsked = false ∧ s.faults.scrubFrom = none ∧ s.faults.scrubDue.any (fun d => decide (d ≤ s.now)) = true))
    ∧ (∃ a, ∃ s : State, Taken s (fun s => s.faults.scrubFrom = some a))
    ∧ (∃ (die : Nat), ∃ s : State, Taken s (fun s => die < 2 ∧ s.dieLost die = false))
    ∧ (∃ (die : Nat), ∃ last, ∃ s : State, Taken s (fun s => s.front.endStrobe.lookup die = some last ∧ last ≤ s.now))
    ∧ (∃ (i : Island), ∃ s : State, Taken s (fun _ => (∀ p, i ≠ .port p)))
    ∧ (∃ (port : Port), ∃ s : State, Taken s (fun _ => port ≠ .up)) :=
  ⟨⟨.a, safe id b0, by decide +kernel⟩,
   ⟨.a, SafeChan.message {}, safe (fun x => { x with out := some (SafeChan.message {}) }) b0, by decide +kernel⟩,
   ⟨.a, 3, safe (fun x => { x with pulse := [(3, 3)] }) b0, by decide +kernel⟩,
   ⟨b0, by decide +kernel⟩,
   ⟨b0, by decide +kernel⟩,
   ⟨hub .faultHold b0, by decide +kernel⟩,
   ⟨clk 10000000000 (safe (fun x => { x with waiting := some set0 }) b0), by decide +kernel⟩,
   ⟨.a, b0, by decide +kernel⟩,
   ⟨0, 0, b0, by decide +kernel⟩,
   ⟨clk 60000000000 b0, by decide +kernel⟩,
   ⟨0, b0.setFaults (fun f => { f with scrubFrom := some 0 }), by decide +kernel⟩,
   ⟨1, b0, by decide +kernel⟩,
   ⟨0, 0, { b0 with front := { b0.front with endStrobe := [(0, 0)] } }, by decide +kernel⟩,
   ⟨.grid, b0, by decide, by decide, fun _ => nofun⟩,
   ⟨.dn0, b0, by decide +kernel⟩⟩

/-- Each row of the statement is due somewhere, in each of its cases. -/
theorem meets_SerialPortRowsTakeEffect :
    (∃ (f : SpiFrame), ∃ s : State, Taken s (fun s => s.serial.sp0Ctrl.getLsbD 0 = false ∧ s.rejection f false = 0 ∧ headerOp (spiHeader f) = 0))
    ∧ (∃ (f : SpiFrame), ∃ s : State, Taken s (fun s => s.serial.sp0Ctrl.getLsbD 0 = false ∧ s.rejection f false = 0 ∧ headerOp (spiHeader f) = 1))
    ∧ (∃ (f : SpiFrame), ∃ s : State, Taken s (fun s => s.serial.sp0Ctrl.getLsbD 0 = false ∧ s.rejection f false = 0 ∧ headerOp (spiHeader f) = 2))
    ∧ (∃ (f : SpiFrame), ∃ s : State, Taken s (fun s => s.serial.sp0Ctrl.getLsbD 0 = false ∧ s.rejection f false = 0 ∧ headerOp (spiHeader f) = 3 ∧ headerPulls (spiHeader f) = false))
    ∧ (∃ (f : SpiFrame), ∃ s : State, Taken s (fun s => s.serial.sp0Ctrl.getLsbD 0 = false ∧ s.rejection f false = 0 ∧ headerOp (spiHeader f) = 3 ∧ headerPulls (spiHeader f) = true))
    ∧ (∃ s : State, Taken s (fun s => s.serial.sp0Ctrl.getLsbD 0 = true ∧ s.serial.polledAt ≤ s.now))
    ∧ (∃ b, ∃ r, ∃ p, ∃ s : State, Taken s (fun s => packetOf b = some p ∧ s.sys.fwPaused = false ∧ s.serial.held = [] ∧ s.serial.commands = b :: r))
    ∧ (∃ b, ∃ r, ∃ s : State, Taken s (fun s => packetOf b = none ∧ s.sys.fwPaused = false ∧ s.serial.held = [] ∧ s.serial.commands = b :: r))
    ∧ (∃ b, ∃ r, ∃ s : State, Taken s (fun s => s.serial.held = b :: r ∧ entrySize b ≤ ringFree s.serial.replies))
    ∧ (∃ s : State, Taken s (fun _ => True))
    ∧ (∃ s : State, Taken s (fun _ => True))
    ∧ (∃ s : State, Taken s (fun _ => True))
    ∧ (∃ s : State, Taken s (fun _ => True))
    ∧ (∃ s : State, Taken s (fun _ => True))
    ∧ (∃ s : State, Taken s (fun _ => True))
    ∧ (∃ s : State, Taken s (fun _ => True))
    ∧ (∃ (addr : Nat), ∃ s : State, Taken s (fun _ => 0x2000 ≤ addr ∧ addr < 0x2FF0))
    ∧ (∃ s : State, Taken s (fun _ => True)) :=
  ⟨⟨{ bits := 32, words := [0], rdyWasLow := false }, b0, by decide +kernel⟩,
   ⟨{ bits := 64, words := [0x41000000, 0], rdyWasLow := false }, b0, by decide +kernel⟩,
   ⟨{ bits := 64, words := [0x81000200, 0], rdyWasLow := false }, b0, by decide +kernel⟩,
   ⟨{ bits := 160, words := [0xC0000010, 0, 0, 0, 0], rdyWasLow := false }, b0, by decide +kernel⟩,
   ⟨{ bits := 64, words := [0xE0000004, 0], rdyWasLow := false }, b0.setSerial (fun x => { x with replies := [zeros 4] }), by decide +kernel⟩,
   ⟨b0.setSerial (fun x => { x with sp0Ctrl := 0x00641801 }), by decide +kernel⟩,
   ⟨packetBytes pkt0, [], pkt0, b0.setSerial (fun x => { x with commands := [packetBytes pkt0] }), by decide +kernel⟩,
   ⟨[1], [], b0.setSerial (fun x => { x with commands := [[1]] }), by decide +kernel⟩,
   ⟨zeros 16, [], b0.setSerial (fun x => { x with held := [zeros 16] }), by decide +kernel⟩,
   ⟨b0, by decide +kernel⟩,
   ⟨b0, by decide +kernel⟩,
   ⟨b0, by decide +kernel⟩,
   ⟨b0, by decide +kernel⟩,
   ⟨b0, by decide +kernel⟩,
   ⟨b0, by decide +kernel⟩,
   ⟨b0, by decide +kernel⟩,
   ⟨0x2FEF, b0, by decide +kernel⟩,
   ⟨b0, by decide +kernel⟩⟩

end Sys2Proof.Tests
end

/-! SUPPORT. What a write to a register of the map changes (R9, R478, R479, R548). -/
namespace Sys2Proof.Machine

open Sys2Proof

/-! ## The bytes of a number -/

@[simp] theorem le_length (n v : Nat) : (le n v).length = n := by
  induction n generalizing v with
  | zero => rfl
  | succ n ih => simp [le, ih]

theorem le_getD {n i : Nat} (v : Nat) (h : i < n) : (le n v).getD i 0 = BitVec.ofNat 8 (v / 256 ^ i) := by
  induction n generalizing v i with
  | zero => omega
  | succ n ih =>
    cases i with
    | zero => simp [le]
    | succ j =>
      have hdiv : v / 256 / 256 ^ j = v / 256 ^ (j + 1) := by rw [Nat.div_div_eq_div_mul, Nat.pow_succ']
      simpa [le, hdiv] using ih (v / 256) (Nat.lt_of_succ_lt_succ h)

/-! ## Writes to the staging image -/

/-- The frame of a write to the staging image (R478). -/
theorem State.stageWrite_frame (s : State) (a : Nat) (b : Bytes) :
    s.stageWrite a b = { s with cal := { s.cal with staging := (s.stageWrite a b).cal.staging, stagedChanged := true } } := rfl

theorem State.stagingByte_stageWrite (s : State) (a : Nat) (b : Bytes) {i : Nat} (h : Mem.wf nominalByte s.cal.staging = true) (hi : i < b.length) :
    (s.stageWrite a b).stagingByte (a + i) = b.getD i 0 :=
  Mem.read_writeN nominalByte b s.cal.staging a i h hi

theorem State.stagingByte_stageWrite_other (s : State) (a : Nat) (b : Bytes) {q : Nat} (h : q < a ∨ a + b.length ≤ q) :
    (s.stageWrite a b).stagingByte q = s.stagingByte q :=
  Mem.read_writeN_other nominalByte b s.cal.staging a q h

/-! ## Writes to registers -/

/-- An address outside the calibration window that is none of the writable registers' takes no write (R9). -/
theorem State.writeReg_eq_self (s : State) (a v : Nat) (hwin : ¬(0x2000 ≤ a ∧ a < 0x2FF0)) (hreg : a ∉ [0x0200, 0x0208, 0x040C, 0x2FF0, 0x3000, 0x4070]) :
    s.writeReg a v = s := by
  unfold State.writeReg
  rw [if_neg hwin]
  split
  case h_7 => rfl
  all_goals exact absurd (by decide) hreg

/-- A write in the calibration window is a write of four bytes of the staging image (R479). -/
theorem State.writeReg_window (s : State) (a v : Nat) (hlo : 0x2000 ≤ a) (hhi : a < 0x2FF0) :
    s.writeReg a v = s.stageWrite (4096 * s.cal.page + (a - 0x2000)) (le 4 v) := by
  unfold State.writeReg State.calImageWindow
  rw [if_pos ⟨hlo, hhi⟩, if_pos ⟨hlo, hhi⟩]

/-- Settles O59: outside the window by the cases of the address, inside it by the rules of a write to the staging image. -/
theorem registerWritesTouchOnlyTheirRegister : Obligations.RegisterWritesTouchOnlyTheirRegister := by
  refine ⟨State.writeReg_eq_self, fun s a v hlo hhi hwf => ?_⟩
  rw [State.writeReg_window s a v hlo hhi]
  refine ⟨State.stageWrite_frame s _ _, State.stageWrite_wf s _ _ hwf, fun i hi => ?written, fun q hq => ?kept⟩
  case written => rw [State.stagingByte_stageWrite s _ _ hwf (by simpa using hi), le_getD v hi]
  case kept => exact State.stagingByte_stageWrite_other s _ _ (by simpa using hq)

end Sys2Proof.Machine

/-! SUPPORT. The bytes of a packet and its fields (R20, R22, R40). -/
namespace Sys2Proof.Machine

open Sys2Proof

/-! ## The fields of a packet's bytes -/

theorem u16_lt (b : Bytes) (i : Nat) : u16 b i < 65536 := by
  have h0 := (b.getD i 0).isLt
  have h1 := (b.getD (i + 1) 0).isLt
  unfold u16 u8
  omega

theorem u32_lt (b : Bytes) (i : Nat) : u32 b i < 4294967296 := by
  have h0 := u16_lt b i
  have h1 := u16_lt b (i + 2)
  unfold u32
  omega

theorem le_u16 (b : Bytes) (i : Nat) : le 2 (u16 b i) = [b.getD i 0, b.getD (i + 1) 0] := by
  have h0 := (b.getD i 0).isLt
  have h1 := (b.getD (i + 1) 0).isLt
  simp only [le, u16, u8, List.cons.injEq, and_true]
  constructor <;> bv_omega

theorem le_low_high {v : Nat} (w : Nat) (hv : v < 65536) : le 4 (v + 65536 * w) = le 2 v ++ le 2 w := by
  have hlow : (v + 65536 * w) / 256 = v / 256 + 256 * w := by omega
  simp only [le, hlow, List.cons_append, List.nil_append, List.cons.injEq, and_true]
  constructor <;> bv_omega

theorem le_u32 (b : Bytes) (i : Nat) : le 4 (u32 b i) = [b.getD i 0, b.getD (i + 1) 0, b.getD (i + 2) 0, b.getD (i + 3) 0] := by
  rw [u32, le_low_high _ (u16_lt b i), le_u16, le_u16]
  rfl

theorem u16_eq_of_bytes {b : Bytes} {i v : Nat} (hv : v < 2 ^ 16) (h0 : b.getD i 0 = BitVec.ofNat 8 v) (h1 : b.getD (i + 1) 0 = BitVec.ofNat 8 (v / 256)) :
    u16 b i = v := by
  unfold u16 u8
  rw [h0, h1]
  simp only [BitVec.toNat_ofNat]
  omega

theorem u32_eq_of_bytes {b : Bytes} {i v : Nat} (hv : v < 2 ^ 32) (h0 : b.getD i 0 = BitVec.ofNat 8 v) (h1 : b.getD (i + 1) 0 = BitVec.ofNat 8 (v / 256))
    (h2 : b.getD (i + 2) 0 = BitVec.ofNat 8 (v / 256 / 256)) (h3 : b.getD (i + 3) 0 = BitVec.ofNat 8 (v / 256 / 256 / 256)) : u32 b i = v := by
  unfold u32 u16 u8
  rw [h0, h1, h2, h3]
  simp only [BitVec.toNat_ofNat]
  omega

theorem take_eq_map_getD (b : Bytes) {n : Nat} (h : n ≤ b.length) : b.take n = (List.range n).map (fun i => b.getD i 0) := by
  refine List.ext_getElem (by rw [List.length_take, List.length_map, List.length_range, Nat.min_eq_left h]) fun i hi _ => ?_
  have hlt : i < b.length := by simp at hi; omega
  simp [List.getElem?_eq_getElem hlt]

/-! ## Packets and their bytes -/

theorem length_packetBytes (p : Packet) : (packetBytes p).length = 16 + p.cmd.params.length := by
  simp [packetBytes]
  omega

theorem packetOf_eq_none_iff (b : Bytes) : packetOf b = none ↔ b.length < 16 := by
  simp [packetOf]

theorem packetOf_packetBytes (p : Packet) : packetOf (packetBytes p) = some p := by
  obtain ⟨op, version, flags, tag, queue, paramLength, target, source, sessionId, params⟩ := p
  unfold packetOf
  rw [if_neg (by rw [length_packetBytes]; omega)]
  simp only [Option.some.injEq, Packet.mk.injEq, Cmd.mk.injEq]
  refine ⟨?opcode, rfl, rfl, rfl, rfl, ?paramLength, ?target, ?source, ?sessionId, rfl⟩
  case sessionId => rw [u32_eq_of_bytes sessionId.isLt rfl rfl rfl rfl, BitVec.ofNat_toNat, BitVec.setWidth_eq]
  case opcode => rw [u16_eq_of_bytes op.isLt rfl rfl, BitVec.ofNat_toNat, BitVec.setWidth_eq]
  case paramLength => rw [u16_eq_of_bytes paramLength.isLt rfl rfl, BitVec.ofNat_toNat, BitVec.setWidth_eq]
  case target => rw [u16_eq_of_bytes target.isLt rfl rfl, BitVec.ofNat_toNat, BitVec.setWidth_eq]
  case source => rw [u16_eq_of_bytes source.isLt rfl rfl, BitVec.ofNat_toNat, BitVec.setWidth_eq]

theorem packetBytes_of_packetOf {b : Bytes} {p : Packet} (h : packetOf b = some p) : packetBytes p = b := by
  unfold packetOf at h
  split at h
  · cases h
  next hlong =>
    cases h
    have hhead := take_eq_map_getD b (n := 16) (by omega)
    calc packetBytes _ = (List.range 16).map (fun i => b.getD i 0) ++ b.drop 16 := by
          simp [packetBytes, fun i => Nat.mod_eq_of_lt (u16_lt b i), fun i => Nat.mod_eq_of_lt (u32_lt b i), le_u16, le_u32, List.range_succ, -List.getD_eq_getElem?_getD]
      _ = b := by rw [← hhead, List.take_append_drop]

/-- Settles O30: every field reads back from its bytes, and the sixteen bytes of the header are laid out from the fields read. -/
theorem packetsReadBack : Obligations.PacketsReadBack :=
  ⟨packetOf_packetBytes, fun _ _ => packetBytes_of_packetOf, packetOf_eq_none_iff⟩

end Sys2Proof.Machine

/-! SUPPORT. Every command settles, and so answers a next state. -/
namespace Sys2Proof.Machine

open Sys2Proof

/-! ## Every command settles -/

/-- What each command of `Laws.Settles` does, every command does: its row gives the hub a packet or an event, after which the hub settles. -/
theorem exec_settles (i : Instr) : Laws.Settles.Statement i := by
  cases i <;> exact fun _ => ⟨_, rfl⟩

/-- Settles O2: what has settled is a next state, with the queue that the command found. -/
theorem everyCommandAnswersANextState : Obligations.EveryCommandAnswersANextState := by
  intro i s
  obtain ⟨w, hw⟩ := exec_settles i s
  exact ⟨_, hw, rfl⟩

end Sys2Proof.Machine

/-! SUPPORT. Replies and notices (R25, R26, R28), the sessions in their slots, and what logging a fault touches. -/
namespace Sys2Proof.Machine

open Sys2Proof

/-! ## The parameters of replies (R26) -/

@[simp] theorem statusBlock_length (v : Byte) (st d : Nat) (hub : HubState) : (statusBlock v st d hub).length = 4 := rfl

/-- The result parameters of a reply: at most 1020 bytes, and 16 of HELLO's under version 2 (R26, R61). -/
theorem replyPacket_params (s : State) (op : BitVec 16) (c : Cmd) (v : Byte) (id : BitVec 32) (st d : Nat) (res : Bytes) :
    (replyPacket s op c v id st d res).cmd.params = statusBlock v st d s.sys.hub ++ res.take (if op = 0x0001 ∧ v = 2 then 16 else 1020) := by
  unfold replyPacket
  split <;> simp [List.take_take]

theorem replyPacket_paramLength (s : State) (op : BitVec 16) (c : Cmd) (v : Byte) (id : BitVec 32) (st d : Nat) (res : Bytes) :
    (replyPacket s op c v id st d res).cmd.paramLength = BitVec.ofNat 16 (replyPacket s op c v id st d res).cmd.params.length := by
  simp [replyPacket]

/-- Settles O37: the status block takes 4 bytes and the result at most 1020, so their number fits the field. -/
theorem repliesCountTheirParameters : Obligations.RepliesCountTheirParameters := by
  intro s op c v id st d res p
  have hparams : p.cmd.params = statusBlock v st d s.sys.hub ++ res.take (if op = 0x0001 ∧ v = 2 then 16 else 1020) := replyPacket_params ..
  have hlength : p.cmd.params.length ≤ 1024 := by
    rw [hparams, List.length_append, statusBlock_length, List.length_take]
    split <;> omega
  refine ⟨?count, hlength, ?status, if op = 0x0001 ∧ v = 2 then 16 else 1020, ?result, fun h => if_neg h⟩
  case count =>
    have hfield : p.cmd.paramLength = BitVec.ofNat 16 p.cmd.params.length := replyPacket_paramLength ..
    rw [hfield, BitVec.toNat_ofNat]
    exact Nat.mod_eq_of_lt (by omega)
  case status => rw [hparams, List.take_left' (statusBlock_length ..)]
  case result => rw [hparams, List.drop_left' (statusBlock_length ..)]

/-! ## The header of replies (R25) -/

theorem replyFlags_getLsbD (f : Byte) (i : Nat) : ((f &&& 7) ||| 0x80).getLsbD i = (f.getLsbD i && (7 : Byte).getLsbD i || (0x80 : Byte).getLsbD i) := by
  rw [BitVec.getLsbD_or, BitVec.getLsbD_and]

theorem replyFlags_low (f : Byte) {i : Nat} (h : i < 3) : ((f &&& 7) ||| 0x80).getLsbD i = f.getLsbD i := by
  have hmasks : ∀ i < 3, (7 : Byte).getLsbD i = true ∧ (0x80 : Byte).getLsbD i = false := by decide
  obtain ⟨hlow, htop⟩ := hmasks i h
  rw [replyFlags_getLsbD, hlow, htop, Bool.and_true, Bool.or_false]

theorem replyFlags_reserved (f : Byte) {i : Nat} (h3 : 3 ≤ i) (h7 : i < 7) : ((f &&& 7) ||| 0x80).getLsbD i = false := by
  have hmasks : ∀ i < 7, 3 ≤ i → (7 : Byte).getLsbD i = false ∧ (0x80 : Byte).getLsbD i = false := by decide
  obtain ⟨hlow, htop⟩ := hmasks i h7 h3
  rw [replyFlags_getLsbD, hlow, htop, Bool.and_false, Bool.or_false]

theorem replyFlags_top (f : Byte) : ((f &&& 7) ||| 0x80).getLsbD 7 = true := by
  have htop : (0x80 : Byte).getLsbD 7 = true := rfl
  rw [replyFlags_getLsbD, htop, Bool.or_true]

/-- A command of a session, or of one that has ended, is answered by its reply packet on the path by which it came (R21). -/
theorem State.reply_of_session {h : Held} (ho : (∃ n, h.owner = .session n) ∨ h.owner = .ended) (s : State) (st d : Nat) (res : Bytes) :
    s.reply h st d res = (s.emit h.origin (replyPacket s h.opcode h.cmd h.version h.replyId st d res)).setHeld h.serial
      (fun k => { k with replyOut := some (h.origin, packetBytes (replyPacket s h.opcode h.cmd h.version h.replyId st d res)) }) := by
  unfold State.reply
  obtain ⟨n, hn⟩ | he := ho
  · rw [hn]
  · rw [he]

/-- Settles O38: the reply is the reply packet, whose header is made of the command's fields. -/
theorem repliesCopyTheirCommand : Obligations.RepliesCopyTheirCommand := by
  intro s h st d res ho
  refine ⟨_, State.reply_of_session ho s st d res, rfl, rfl, rfl, fun _ => replyFlags_low _, fun _ => replyFlags_reserved _, replyFlags_top _, rfl, rfl, ?source, rfl⟩
  case source => exact BitVec.toNat_setWidth_of_le (by decide)

/-! ## Sessions in their slots -/

theorem Tbl.lookup_cons {α : Type} (k : Nat) (v : α) (t : Tbl α) (q : Nat) : List.lookup q ((k, v) :: t) = if q = k then some v else List.lookup q t := by
  rw [List.lookup_cons]
  split <;> simp_all

theorem Tbl.lookup_set_same {α : Type} (t : Tbl α) (k : Nat) (v : α) : (Tbl.set t k v).lookup k = some v := by
  induction t with
  | nil => simp [Tbl.set]
  | cons e r ih =>
    obtain ⟨k', v'⟩ := e
    unfold Tbl.set
    split
    · simp
    · split
      · simp
      · next hne => rw [Tbl.lookup_cons, if_neg hne, ih]

theorem Tbl.lookup_set_other {α : Type} (t : Tbl α) {k q : Nat} (v : α) (h : q ≠ k) : (Tbl.set t k v).lookup q = t.lookup q := by
  induction t with
  | nil => simp [Tbl.set, Tbl.lookup_cons, h]
  | cons e r ih =>
    obtain ⟨k', v'⟩ := e
    unfold Tbl.set
    split
    · rw [Tbl.lookup_cons, if_neg h]
    · split
      · next heq => rw [Tbl.lookup_cons, Tbl.lookup_cons, if_neg h, if_neg (heq ▸ h)]
      · rw [Tbl.lookup_cons, Tbl.lookup_cons, ih]

/-- Of more numbers than a table has entries one is free: each entry takes at most one of them. -/
theorem Tbl.exists_free {α : Type} (t : Tbl α) {l : List Nat} (hl : l.Nodup) (h : t.length < l.length) : ∃ i ∈ l, t.lookup i = none := by
  induction t generalizing l with
  | nil =>
    obtain ⟨i, hi⟩ := List.exists_mem_of_length_pos h
    exact ⟨i, hi, rfl⟩
  | cons e r ih =>
    obtain ⟨k, v⟩ := e
    have hlong : r.length < (l.erase k).length := by
      rw [List.length_cons] at h
      rw [List.length_erase]
      split <;> omega
    obtain ⟨i, hi, hfree⟩ := ih (hl.erase k) hlong
    obtain ⟨hne, hmem⟩ := hl.mem_erase_iff.mp hi
    exact ⟨i, hmem, by rw [Tbl.lookup_cons, if_neg hne, hfree]⟩

theorem Tbl.lookup_firstFree {α : Type} (t : Tbl α) {n : Nat} (h : t.length < n) :
    t.lookup (((List.range n).find? (fun i => (t.lookup i).isNone)).getD 0) = none := by
  obtain ⟨j, hj, hfree⟩ := Tbl.exists_free t (List.nodup_range (n := n)) (by rw [List.length_range]; exact h)
  have hfound : ((List.range n).find? (fun i => (t.lookup i).isNone)).isSome = true := List.find?_isSome.mpr ⟨j, hj, by rw [hfree]; rfl⟩
  obtain ⟨i, hi⟩ := Option.isSome_iff_exists.mp hfound
  rw [hi]
  exact Option.isNone_iff_eq_none.mp (List.find?_some (p := fun i => (t.lookup i).isNone) hi)

/-! ## What logging a fault touches (R523 to R527) -/

/-- What writing an entry of the fault log touches: the log, and the EVENT entry that mirrors it. -/
def State.Logged (s t : State) : Prop :=
  ∃ f a e, t = { s with faults := f, streams := { s.streams with arisen := a, eventTimes := e } }

theorem State.logFault_logged (s : State) (code inst d0 d1 : Nat) : s.Logged (s.logFault code inst d0 d1) := by
  unfold State.logFault State.logEntry
  simp only
  split
  · exact ⟨_, _, _, rfl⟩
  · exact ⟨_, _, _, rfl⟩

theorem State.withhold_logged (s : State) (code : Nat) : s.Logged (s.withhold code) := ⟨_, _, _, rfl⟩

@[simp] theorem State.logFault_cmds (s : State) (code inst d0 d1 : Nat) : (s.logFault code inst d0 d1).cmds = s.cmds := by
  obtain ⟨_, _, _, h⟩ := s.logFault_logged code inst d0 d1
  rw [h]

/-! ## Notice tags (R28) -/

theorem State.notice_of_session {s : State} {slot : Nat} {ses : Session} (h : s.cmds.sessions.lookup slot = some ses) (op : BitVec 16) (f q : Byte) (st d : Nat) (b : Bytes) :
    s.notice slot op f q st d b = State.emit { s with cmds := { s.cmds with sessions := Tbl.set s.cmds.sessions slot { ses with noticeTag := if ses.noticeTag = 255 then 128 else ses.noticeTag + 1 } } }
      ses.origin (s.noticePacket ses op f q st d b) := by
  unfold State.notice
  rw [h]

/-- HELLO opens its session in a slot that was free, with the notice tag at its start. -/
theorem runHello_opens {h : Held} {s t : State} {d : Nat} {r : Bytes} (hr : runHello h s = .done d r t) :
    ∃ slot ses, s.cmds.sessions.lookup slot = none ∧ t.cmds.sessions.lookup slot = some ses ∧ ses.noticeTag = 128 := by
  unfold runHello at hr
  simp only at hr
  split at hr
  · cases hr
  split at hr
  · cases hr
  next hroom =>
  split at hr
  · cases hr
  cases hr
  exact ⟨_, _, Tbl.lookup_firstFree _ (by omega), (congrArg (fun c : Cmds => c.sessions.lookup _) (State.logFault_cmds ..)).trans (Tbl.lookup_set_same ..), rfl⟩

/-- Settles O39: HELLO's session starts at 128, and a notice rewrites the entry of its own session alone. -/
theorem noticeTagsCountPerSession : Obligations.NoticeTagsCountPerSession := by
  refine ⟨fun _ _ _ _ _ => runHello_opens, fun s slot ses op f q st d b h => ?_⟩
  rw [State.notice_of_session h]
  exact ⟨Tbl.lookup_set_same .., fun k hk => Tbl.lookup_set_other _ _ hk, _, rfl, rfl, rfl, replyFlags_top f⟩

end Sys2Proof.Machine

/-! SUPPORT. What the command processor touches as a command reaches its final status. -/
namespace Sys2Proof.Machine

open Sys2Proof

/-! ## What the end of a command touches (R21, R42, R48) -/

/-- What the command processor touches as it ends a command: its own part of the state, what goes to the twin partner and the tag of its notices, but no change that waits for its epoch. -/
def State.Processed (s t : State) : Prop :=
  t = { s with cmds := t.cmds, twin := { s.twin with outbox := t.twin.outbox, relayTag := t.twin.relayTag } } ∧ t.cmds.changes = s.cmds.changes

theorem State.Processed.refl (s : State) : s.Processed s := ⟨rfl, rfl⟩

theorem State.Processed.trans {a b c : State} (hab : a.Processed b) (hbc : b.Processed c) : a.Processed c := by
  obtain ⟨hb, hb'⟩ := hab
  obtain ⟨hc, hc'⟩ := hbc
  exact ⟨hc.trans (by rw [hb]), hc'.trans hb'⟩

theorem State.count_processed (s : State) (i : Nat) : s.Processed (s.count i) := ⟨rfl, rfl⟩
theorem State.emit_processed (s : State) (o : Origin) (p : Packet) : s.Processed (s.emit o p) := ⟨rfl, rfl⟩
theorem State.setHeld_processed (s : State) (n : Nat) (f : Held → Held) : s.Processed (s.setHeld n f) := ⟨rfl, rfl⟩
theorem State.dropHeld_processed (s : State) (n : Nat) : s.Processed (s.dropHeld n) := ⟨rfl, rfl⟩
theorem State.dropOver_processed (s : State) : s.Processed s.dropOver := ⟨rfl, rfl⟩
theorem State.tellTwin_processed (s : State) (m : Bytes) : s.Processed (s.tellTwin m) := ⟨rfl, rfl⟩
theorem State.tellLead_processed (s : State) (m : Bytes) : s.Processed (s.tellLead m) := ⟨rfl, rfl⟩

theorem State.notice_processed (s : State) (slot : Nat) (op : BitVec 16) (f q : Byte) (st d : Nat) (b : Bytes) : s.Processed (s.notice slot op f q st d b) := by
  unfold State.notice
  split
  · exact .refl s
  · exact ⟨rfl, rfl⟩

theorem State.completion_processed (s : State) (h : Held) (f : Final) : s.Processed (s.completion h f) := by
  unfold State.completion
  split
  · exact (State.notice_processed ..).trans (State.setHeld_processed ..)
  · exact ⟨rfl, rfl⟩
  · exact State.setHeld_processed ..

theorem flushNotices_processed (l : List Held) (blocked : List Nat) (s : State) : s.Processed (flushNotices l blocked s) := by
  induction l generalizing blocked s with
  | nil => exact .refl s
  | cons h r ih =>
    unfold flushNotices
    split
    · split
      · exact ih ..
      · exact (s.completion_processed ..).trans (ih ..)
    · exact ih ..

theorem State.noteFailure_processed (s : State) (h : Held) (st : Nat) : s.Processed (s.noteFailure h st) := by
  unfold State.noteFailure
  split
  · split
    · exact .refl s
    · exact ⟨rfl, rfl⟩
  · exact .refl s

theorem State.reply_processed (s : State) (h : Held) (st d : Nat) (res : Bytes) : s.Processed (s.reply h st d res) := by
  unfold State.reply
  split
  · exact (s.emit_processed ..).trans (State.setHeld_processed ..)
  · exact (s.emit_processed ..).trans (State.setHeld_processed ..)
  · exact .refl s
  · exact s.tellTwin_processed _
  · exact (s.tellLead_processed _).trans (State.setHeld_processed ..)

/-- A broadcast's failure is logged; any other final status is counted alone (R42, R55). -/
theorem State.countFinal_cases (s : State) (h : Held) (st : Nat) :
    s.Processed (s.countFinal h st) ∨ h.owner = .broadcast ∧ (s.count 11).Logged (s.countFinal h st) := by
  unfold State.countFinal
  split
  · next ho =>
    split
    · exact .inl (s.count_processed _)
    · exact .inr ⟨ho, State.logFault_logged ..⟩
  · exact .inl (s.count_processed _)

/-- Once its final status is counted, all that a command's end touches is the command processor's. -/
theorem State.finish_cases (s : State) (serial st d : Nat) (res : Bytes) :
    s.Processed (s.finish serial st d res) ∨ ∃ h, s.heldOf serial = some h ∧ (s.countFinal h st).Processed (s.finish serial st d res) := by
  unfold State.finish
  split
  · exact .inl (.refl s)
  next h hh =>
  simp only
  split
  · exact .inl (.refl s)
  refine .inr ⟨h, hh, ?_⟩
  refine .trans (State.noteFailure_processed _ h st) (.trans ?_ ((flushNotices_processed ..).trans (State.dropOver_processed _)))
  split
  case' h_3 => refine .trans ?_ (State.dropHeld_processed ..)
  all_goals
    split
    · exact State.setHeld_processed ..
    · exact (State.reply_processed ..).trans (State.setHeld_processed ..)

/-- Settles O41: only a broadcast's final status reaches beyond the command processor, and only into the fault log. -/
theorem finishingTouchesOnlyTheCommandProcessor : Obligations.FinishingTouchesOnlyTheCommandProcessor := by
  intro s serial st d res t
  suffices hcases : s.Processed t ∨ ∃ h, s.heldOf serial = some h ∧ h.owner = .broadcast ∧ ∃ u, (s.count 11).Logged u ∧ u.Processed t by
    obtain hp | ⟨h, hh, ho, u, ⟨f, a, e, rfl⟩, hp⟩ := hcases
    · obtain ⟨hframe, hchanges⟩ := hp
      exact ⟨by rw [hframe], hchanges, fun _ _ _ => by rw [hframe]; exact ⟨rfl, rfl⟩⟩
    · obtain ⟨hframe, hchanges⟩ := hp
      refine ⟨by rw [hframe]; rfl, hchanges, fun k hk hne => ?_⟩
      rw [hh, Option.some.injEq] at hk
      exact absurd (hk ▸ ho) hne
  obtain hp | ⟨h, hh, hp⟩ := s.finish_cases serial st d res
  · exact .inl hp
  · obtain hcount | ⟨ho, hlog⟩ := s.countFinal_cases h st
    · exact .inl (hcount.trans hp)
    · exact .inr ⟨h, hh, ho, _, hlog, hp⟩

end Sys2Proof.Machine

/-! SUPPORT. The table of the checks of admission, and what a rejected packet leaves. -/
namespace Sys2Proof.Machine

open Sys2Proof

/-! ## The checks of admission (R40) -/

/-- The status and detail of the first row of a table of checks that fails. -/
def firstFailing (l : List (Bool × Nat × Nat)) : Option (Nat × Nat) := (l.find? (·.1)).map (·.2)

@[simp] theorem firstFailing_nil : firstFailing [] = none := rfl

@[simp] theorem firstFailing_cons (b : Bool) (e : Nat × Nat) (l : List (Bool × Nat × Nat)) :
    firstFailing ((b, e) :: l) = if b = true then some e else firstFailing l := by
  cases b <;> simp [firstFailing]

theorem firstFailing_append (l m : List (Bool × Nat × Nat)) : firstFailing (l ++ m) = (firstFailing l).or (firstFailing m) := by
  simp [firstFailing, List.find?_append, Option.map_or]

/-- Step 2 of the table "Admission checks". -/
theorem versionError_eq (c : Cmd) (ses : Option (Nat × Session)) :
    versionError c (ses.map (·.2)) = firstFailing [
      (decide (c.version ≠ 2 ∧ c.version ≠ 3) || ses.any (fun e => e.2.version != c.version), (stBadVersion, (ses.map (fun e => e.2.version.toNat)).getD 3))] := by
  cases ses <;> simp [versionError]

/-- Steps 3 to 7. -/
theorem shapeError_eq (c : Cmd) (v2 : Bool) :
    shapeError c v2 = firstFailing [
      (decide (1024 < c.paramLength.toNat) || c.paramLength.toNat != c.params.length, (stMalformed, 6)),
      (decide (8 ≤ c.flags.toNat) || (v2 && cmdDryRun c), (stMalformed, 1)),
      (decide (128 ≤ c.tag.toNat), (stMalformed, 4)),
      (decide (8 ≤ c.queue.toNat), (stMalformed, 5)),
      (decide (4096 ≤ c.target.toNat), (stMalformed, 8)),
      (decide (4096 ≤ c.source.toNat), (stMalformed, 10))] := by
  simp [shapeError]

/-- Steps 10 and 11 without a session: a tag binds nobody. -/
theorem State.slotError_ended (s : State) (c : Cmd) : s.slotError .ended c = firstFailing [(decide (128 ≤ s.incompletes), (stNoResource, 6))] := by
  unfold State.slotError
  split <;> simp

/-- Steps 10 and 11 in a session. -/
theorem State.slotError_session (s : State) (slot : Nat) (c : Cmd) :
    s.slotError (.session slot) c = firstFailing [
      ((s.tagHolder (.session slot) c.tag).isSome, (stTagBusy, ((s.tagHolder (.session slot) c.tag).map (fun h => h.cmd.queue.toNat)).getD 0)),
      (decide (128 ≤ s.incompletes), (stNoResource, 6))] := by
  unfold State.slotError
  split
  · next h hh => simp [hh]
  · next hh => simp [hh]

/-- The open session of a packet's id that takes the packet (R31). -/
abbrev State.sessionFor (s : State) (o : Origin) (c : Cmd) : Option (Nat × Session) := (s.sessionById c.sessionId).filter (fun e => e.2.takes o c)

/-- The owner of a command that comes in a session, or in none. -/
abbrev ownerIn (mine : Option (Nat × Session)) : Owner := match mine with | some e => .session e.1 | none => .ended

/-- Steps 8 to 11: where version and shape pass, the session, its queues, the tag and the command slots. -/
theorem State.admitError_of_shaped {s : State} {c : Cmd} (hv : versionError c ((s.sessionById c.sessionId).map (·.2)) = none)
    (hs : shapeError c ((s.sessionById c.sessionId).any (fun e => e.2.version == 2)) = none) (op : BitVec 16) (o : Origin) :
    s.admitError op o c = firstFailing [
      ((s.sessionFor o c).isNone && !(c.sessionId == 0 && needsNoSession op), (stDenied, 3)),
      ((s.sessionFor o c).any (fun e => !e.2.queues.getLsbD c.queue.toNat), (stDenied, 5)),
      ((s.sessionFor o c).isSome && (s.tagHolder (ownerIn (s.sessionFor o c)) c.tag).isSome,
        (stTagBusy, ((s.tagHolder (ownerIn (s.sessionFor o c)) c.tag).map (fun h => h.cmd.queue.toNat)).getD 0)),
      (decide (128 ≤ s.incompletes), (stNoResource, 6))] := by
  unfold State.admitError
  simp only [hv, hs]
  split
  · next slot x hmine => simp [hmine, State.slotError_session]
  · next hmine =>
    have hfree : (c.sessionId = 0 ∧ needsNoSession op = true) ↔ (c.sessionId == 0 && needsNoSession op) = true := by rw [Bool.and_eq_true, beq_iff_eq]
    simp only [hfree]
    cases c.sessionId == 0 && needsNoSession op with
    | true => simp [hmine, State.slotError_ended]
    | false => simp [hmine]

/-! ## A rejected packet (R42) -/

/-- What logging a rejected packet touches: the times of the last rejections, and the fault log. -/
theorem State.logReject_frame (s : State) (op : BitVec 16) (o : Origin) (c : Cmd) (st : Nat) :
    ∃ l, State.Logged { s with cmds := { s.cmds with lastReject := l } } (s.logReject op o c st) := by
  unfold State.logReject
  extract_lets src path same
  split
  · exact ⟨_, State.withhold_logged ..⟩
  · exact ⟨_, State.logFault_logged ..⟩

/-- What rejecting a packet touches: the counters and the times of the last rejections, the fault log, and what is to be sent. -/
theorem State.rejectPacket_frame (s : State) (op : BitVec 16) (o : Origin) (c : Cmd) (st d : Nat) :
    ∃ l p, State.Logged (State.emit { s with cmds := { s.cmds with counters := Tbl.bump 32 s.cmds.counters (counterOf st), lastReject := l } } o p) (s.rejectPacket op o c st d) := by
  unfold State.rejectPacket
  simp only
  split
  · obtain ⟨l, f, a, e, h⟩ := (s.count (counterOf st)).logReject_frame op o c st
    rw [h]
    exact ⟨l, _, f, a, e, rfl⟩
  · exact ⟨s.cmds.lastReject, _, s.faults, s.streams.arisen, s.streams.eventTimes, rfl⟩

/-- Settles O32: the groups of checks are the rows of the table in order, and a rejection logs and answers. -/
theorem admissionMakesItsChecksInOrder : Obligations.AdmissionMakesItsChecksInOrder := by
  refine ⟨fun s op o c => ?checks, fun s op o c st d => ?rejected⟩
  case checks =>
    intro ses mine owner
    refine Eq.trans ?_ (firstFailing_append [_] _).symm
    rw [← versionError_eq]
    cases hv : versionError c (ses.map (·.2)) with
    | some e => simp [State.admitError, hv, ses]
    | none =>
      refine Eq.trans ?_ (firstFailing_append [_, _, _, _, _, _] _).symm
      rw [← shapeError_eq]
      cases hs : shapeError c (ses.any (fun e => e.2.version == 2)) with
      | some e =>
        unfold State.admitError
        simp only [ses] at hv hs
        simp only [hv, hs, Option.some_or]
      | none => exact State.admitError_of_shaped hv hs op o
  case rejected =>
    obtain ⟨l, p, f, a, e, h⟩ := s.rejectPacket_frame op o c st d
    simp only [h]
    exact ⟨rfl, rfl, rfl, rfl, p, rfl⟩

end Sys2Proof.Machine

/-! SUPPORT. The start of a command: its checks, dry runs, and FENCE commands. -/
namespace Sys2Proof.Machine

open Sys2Proof

/-! ## The start of a command (R45) -/

/-- A command that is not the gang partner's and fails a check ends with what that check gives. -/
theorem State.startKnown_of_error {s : State} {op : Op} {h : Held} {st d : Nat} (hp : s.partnerPacket h = none)
    (he : (startError op h s).or (if h.mirrored then none else s.budgetError op h) = some (st, d)) : s.startKnown op h = s.finish h.serial st d [] := by
  unfold State.startKnown
  simp only [hp, Option.filter_none, he]

theorem startError_of_length {op : Op} {h : Held} (hl : h.cmd.params.length ≠ op.need h.cmd.params) (s : State) :
    startError op h s = some (stMalformed, min 255 (16 + min h.cmd.params.length (op.need h.cmd.params))) := if_pos hl

theorem startError_of_param {s : State} {op : Op} {h : Held} {i : Nat} (hl : h.cmd.params.length = op.need h.cmd.params) (hb : firstBad (op.params h s) = some i) :
    startError op h s = some (stBadParam, i) := by
  unfold startError
  simp only [hl, hb, ne_eq, not_true_eq_false, if_false]

theorem State.startCmd_of_badOpcode {h : Held} {d : Nat} (hf : opcodeFault h.version h.opcode = some d) (s : State) :
    s.startCmd h = (s.begin h).finish h.serial stBadOpcode d [] := by
  unfold State.startCmd
  simp only [hf]
  rfl

/-- Settles O33: each check has its own branch at the start, and each branch ends the command and does nothing else. -/
theorem aFailedCheckHasNoSideEffect : Obligations.AFailedCheckHasNoSideEffect :=
  ⟨fun _ _ _ _ _ => State.startKnown_of_error, fun s _ _ hl => startError_of_length hl s, fun _ _ _ _ => startError_of_param, fun s _ _ hf => State.startCmd_of_badOpcode hf s⟩

/-! ## Dry runs (R52) -/

/-- A command that passes its checks and is not the gang partner's: its answer, or the leave that it asks, is carried out. -/
theorem State.startKnown_of_passed {s : State} {op : Op} {h : Held} (hp : s.partnerPacket h = none)
    (he : (startError op h s).or (if h.mirrored then none else s.budgetError op h) = none) :
    s.startKnown op h = s.carry h ((s.askLeave op h).elim (op.run h s) (.accepted [])) := by
  unfold State.startKnown State.carry
  simp only [hp, Option.filter_none, he]
  cases s.askLeave op h <;> rfl

/-- What a dry run answers in place of an answer's effect, where this hub answers it. -/
def Answer.dryStatus : Answer → Option (Nat × Nat × Bytes)
  | .done d _ _ => some (stOk, d, [])
  | .accepted _ _ => some (stOk, 1, [])
  | .holds _ => some (stOk, 0, [])
  | .stopped st d _ _ => some (st, d, [])
  | .fail st d => some (st, d, [])
  | .failWith st d r => some (st, d, r)
  | .asks _ => none

/-- A dry run is neither mirrored nor passed on, and what is this hub's to answer ends the command in the state it found. -/
theorem State.carry_of_dryRun {h : Held} (hd : cmdDryRun h.cmd = true) (s : State) {a : Answer} {st d : Nat} {r : Bytes} (ha : a.dryStatus = some (st, d, r)) :
    s.carry h a = s.finish h.serial st d r := by
  have hpass : s.passesOn h = false := by simp [State.passesOn, hd]
  have hmirror : s.mirrorsCmd h = false := by simp [State.mirrorsCmd, hd]
  cases a with
  | asks t => cases ha
  | _ =>
    cases ha
    simp [State.carry, State.perform, State.settleAnswer, hpass, hmirror, hd]

/-- A dry run of what the partner is to answer asks the partner. -/
theorem State.carry_asks_of_dryRun {h : Held} (hd : cmdDryRun h.cmd = true) (s t : State) : s.carry h (.asks t) = t := by
  simp [State.carry, State.perform, State.settleAnswer, State.passesOn, State.mirrorsCmd, hd]

theorem Answer.exists_dryStatus {a : Answer} (ha : ∀ t, a ≠ .asks t) : ∃ st d r, a.dryStatus = some (st, d, r) := by
  cases a with
  | asks t => exact absurd rfl (ha t)
  | _ => exact ⟨_, _, _, rfl⟩

/-- Settles O34: a dry run's answer is carried out as its status alone. -/
theorem aDryRunOnlyAnswers : Obligations.ADryRunOnlyAnswers := by
  intro s op h hd hp he hbudget
  have hpassed : (startError op h s).or (if h.mirrored then none else s.budgetError op h) = none := by
    obtain hm | hb := hbudget
    · simp [he, hm]
    · simp [he, hb]
  have hstart := State.startKnown_of_passed hp hpassed
  refine ⟨fun t hleave => ?_, fun hleave => ⟨fun t hrun => ?_, fun hrun => ?_⟩⟩
  · simp only [hstart, hleave, Option.elim_some]
    exact State.carry_of_dryRun hd s rfl
  · simp only [hstart, hleave, Option.elim_none, hrun]
    exact State.carry_asks_of_dryRun hd s t
  · obtain ⟨st, d, r, hst⟩ := Answer.exists_dryStatus hrun
    have hanswer : ∀ {a : Answer} {x : Nat × Nat × Bytes}, a.dryStatus = some x → op.run h s = a → (st, d, r) = x :=
      fun hx ha => Option.some.inj (hst.symm.trans ((congrArg Answer.dryStatus ha).trans hx))
    simp only [hstart, hleave, Option.elim_none]
    exact ⟨st, d, r, State.carry_of_dryRun hd s hst, fun _ _ _ => hanswer rfl, fun _ _ => hanswer rfl, fun _ => hanswer rfl, fun _ _ _ _ => hanswer rfl,
      fun _ _ => hanswer rfl, fun _ _ _ => hanswer rfl⟩

/-! ## Fences (R51) -/

/-- A command of a list whose queue is free for a FENCE: every earlier command of its queue has its final status, and its reply has left. -/
def FreeFor (h : Held) (busy open' : List Nat) (l : List Held) : Prop :=
  ∃ q, h.line = some q ∧ q ∉ busy ∧ q ∉ open' ∧ ∃ a b, l = a ++ h :: b ∧ ∀ k ∈ a, k.line = h.line → k.incomplete = false ∧ k.replyOut = none

/-- A command ahead that leaves its queue free only once it is final and its reply has left stands in no FENCE's way. -/
theorem FreeFor.cons {h k : Held} {busy open' busy' open'' : List Nat} {r : List Held} (hfree : FreeFor h busy' open'' r) (hb : busy ⊆ busy') (ho : open' ⊆ open'')
    (hk : ∀ q, k.line = some q → q ∉ busy' → q ∉ open'' → k.incomplete = false ∧ k.replyOut = none) : FreeFor h busy open' (k :: r) := by
  obtain ⟨q, hq, hbusy, hopen, a, b, rfl, hclear⟩ := hfree
  refine ⟨q, hq, fun hm => hbusy (hb hm), fun hm => hopen (ho hm), k :: a, b, rfl, fun x hx hline => ?_⟩
  obtain rfl | hxa := List.mem_cons.mp hx
  · exact hk q (hline.trans hq) hbusy hopen
  · exact hclear x hxa hline

/-- The next command to start, where it is a FENCE that does not wait. -/
theorem nextStart_fence {l : List Held} {h : Held} {busy open' : List Nat} (hn : nextStart l busy open' = some (h, false)) (hr : h.removed = false)
    (hf : cmdFence h.cmd = true) : FreeFor h busy open' l := by
  induction l generalizing busy open' with
  | nil => cases hn
  | cons k r ih =>
    unfold nextStart at hn
    split at hn
    case h_1 hline => exact (ih hn).cons (List.Subset.refl _) (List.Subset.refl _) (fun q hq => by rw [hline] at hq; cases hq)
    case h_2 q hline =>
      have blocks : ∀ {busy'}, nextStart r busy' (q :: open') = some (h, false) → busy ⊆ busy' → FreeFor h busy open' (k :: r) := fun hrec hb =>
        (ih hrec).cons hb (List.subset_cons_self ..) (fun q' hq' _ ho => by rw [hline] at hq'; cases hq'; exact absurd (List.mem_cons_self ..) ho)
      have hleft : ∀ b : List Nat, b ⊆ if k.replyOut.isSome then q :: b else b := fun b => by split <;> simp
      simp only at hn
      split at hn
      case h_1 hphase =>
        refine (ih hn).cons (hleft busy) (List.Subset.refl _) fun q' hq' hbusy _ => ⟨by rw [Held.incomplete, hphase], ?_⟩
        rw [hline] at hq'
        cases hq'
        cases hreply : k.replyOut with
        | none => rfl
        | some x => exact absurd (by simp [hreply]) hbusy
      case h_2 => exact blocks hn (hleft busy)
      case h_3 => exact blocks hn (List.subset_cons_self ..)
      case h_4 =>
        split at hn
        · exact blocks hn (List.Subset.refl _)
        next hbusy =>
        split at hn
        · next hplain =>
          cases hn
          simp [hr, hf] at hplain
        · split at hn
          · exact blocks hn (List.subset_cons_self ..)
          · simp only [Option.some.injEq, Prod.mk.injEq] at hn
            obtain ⟨rfl, hopen⟩ := hn
            exact ⟨q, hline, by simpa using hbusy, by simpa using hopen, [], r, rfl, by simp⟩

/-- Settles O35: by the order in which the queues are searched, and by the two cases of a FENCE whose turn has come. -/
theorem aFenceWaitsForItsQueue : Obligations.AFenceWaitsForItsQueue := by
  refine ⟨fun l h hn hr hf => ?_, fun s h q hr hf hq => ⟨fun hfailed => ?_, fun hnone => ?_⟩⟩
  · obtain ⟨_, _, _, _, hsplit⟩ := nextStart_fence hn hr hf
    exact hsplit
  · simp only [State.startQueued, hr, hf, hq, hfailed, Bool.false_eq_true, if_false, and_self, if_true]
  · simp only [State.startQueued, hr, hf, hq, hnone, Bool.false_eq_true, if_false, and_false]

end Sys2Proof.Machine

/-! SUPPORT. What the commands of groups 0x00 and 0x01 complete with. -/
namespace Sys2Proof.Machine

open Sys2Proof

/-! ## What a command packet completes with -/

/-- A row whose packet goes to the command processor completes with what the entry of its opcode gives. -/
theorem carries_of_entry {row : Origin → Cmd → Instr} {op : BitVec 16} {answer : Held → State → Answer} {e : Op}
    (hrow : ∀ o c s, exec (row o c) s = .next (State.submit op o c s)) (hentry : opEntry op = some e) (hrun : ∀ h s, e.run h s = answer h s) :
    Carries row op answer := by
  intro o c s h v e' hturn he' hfault hclear
  obtain rfl : e = e' := Option.some.inj (hentry.symm.trans he')
  rw [hrow, submit_turn e hturn hentry hfault hclear, hrun]

/-- Settles O7: each answer is what the entry of its opcode gives. -/
theorem sessionAndStateCommandsAnswer : Obligations.SessionAndStateCommandsAnswer := by
  unfold Obligations.SessionAndStateCommandsAnswer
  and_intros
  all_goals exact carries_of_entry (fun _ _ _ => rfl) rfl (fun _ _ => rfl)

end Sys2Proof.Machine

/-! SUPPORT. The queries of every group, table by table. -/
namespace Sys2Proof.Machine

open Sys2Proof

/-! ## Queries (R58) -/

/-- An entry whose meaning reads: whatever the command and the state, it is done and leaves the state as it was. -/
def Op.Reads (e : Op) : Prop := ∀ h s, ∃ d r, e.run h s = .done d r s

theorem stateOps_reads {n : Nat} {e : Op} (hn : n < 0x10) (he : stateOps n = some e) : e.Reads := by
  unfold stateOps at he
  split at he
  case h_1 | h_2 =>
    cases he
    exact fun _ _ => ⟨_, _, rfl⟩
  case h_8 => cases he
  all_goals omega

theorem panOps_reads {n : Nat} {e : Op} (hn : n < 0x10) (he : panOps n = some e) : e.Reads := by
  unfold panOps at he
  split at he
  case h_1 | h_2 | h_3 | h_4 =>
    cases he
    exact fun _ _ => ⟨_, _, rfl⟩
  case h_14 => cases he
  all_goals omega

theorem gridOps_reads {n : Nat} {e : Op} (hn : n < 0x10) (he : gridOps n = some e) : e.Reads := by
  unfold gridOps at he
  split at he
  case h_1 | h_2 | h_3 =>
    cases he
    exact fun _ _ => ⟨_, _, rfl⟩
  case h_8 => cases he
  all_goals omega

theorem mashOps_reads {n : Nat} {e : Op} (hn : n < 0x10) (hx : n ≠ 0x04) (he : mashOps n = some e) : e.Reads := by
  unfold mashOps at he
  split at he
  case h_1 | h_2 | h_3 | h_5 =>
    cases he
    exact fun _ _ => ⟨_, _, rfl⟩
  case h_13 => cases he
  all_goals omega

theorem captureOps_reads {n : Nat} {e : Op} (hn : n < 0x10) (hx : n ≠ 0x02) (he : captureOps n = some e) : e.Reads := by
  unfold captureOps at he
  split at he
  case h_1 | h_3 | h_4 =>
    cases he
    exact fun _ _ => ⟨_, _, rfl⟩
  case h_13 => cases he
  all_goals omega

theorem edgeOps_reads {n : Nat} {e : Op} (hn : n < 0x10) (hx : n ≠ 0x02) (he : edgeOps n = some e) : e.Reads := by
  unfold edgeOps at he
  split at he
  case h_1 | h_3 =>
    cases he
    exact fun _ _ => ⟨_, _, rfl⟩
  case h_9 => cases he
  all_goals omega

theorem kilnOps_reads {n : Nat} {e : Op} (hn : n < 0x10) (hx : n ≠ 0x02) (he : kilnOps n = some e) : e.Reads := by
  unfold kilnOps at he
  split at he
  case h_1 | h_3 | h_4 | h_5 =>
    cases he
    exact fun _ _ => ⟨_, _, rfl⟩
  case h_13 => cases he
  all_goals omega

theorem streamOps_reads {n : Nat} {e : Op} (hn : n < 0x10) (hx : n ≠ 0x02) (he : streamOps n = some e) : e.Reads := by
  unfold streamOps at he
  split at he
  case h_1 | h_3 =>
    cases he
    exact fun _ _ => ⟨_, _, rfl⟩
  case h_10 => cases he
  all_goals omega

theorem feedOps_reads {n : Nat} {e : Op} (hn : n < 0x10) (hx : n ≠ 0x04) (he : feedOps n = some e) : e.Reads := by
  unfold feedOps at he
  split at he
  case h_5 => cases he
  all_goals omega

theorem fabricOps_reads {n : Nat} {e : Op} (hn : n < 0x10) (hx : n ≠ 0x02) (he : fabricOps n = some e) : e.Reads := by
  unfold fabricOps at he
  split at he
  case h_1 | h_3 | h_4 =>
    cases he
    exact fun _ _ => ⟨_, _, rfl⟩
  case h_9 => cases he
  all_goals omega

theorem laneOps_reads {n : Nat} {e : Op} (hn : n < 0x90) (hx1 : n ≠ 0x82) (hx2 : n ≠ 0x83) (he : laneOps n = some e) : e.Reads := by
  unfold laneOps at he
  split at he
  case h_1 =>
    cases he
    exact fun _ _ => ⟨_, _, rfl⟩
  case h_9 => cases he
  all_goals omega

theorem timeOps_reads {n : Nat} {e : Op} (hn : n < 0x10) (he : timeOps n = some e) : e.Reads := by
  unfold timeOps at he
  split at he
  case h_1 | h_2 | h_3 =>
    cases he
    exact fun _ _ => ⟨_, _, rfl⟩
  case h_9 => cases he
  all_goals omega

theorem twinOps_reads {n : Nat} {e : Op} (hn : n < 0x10) (hx : n ≠ 0x02) (he : twinOps n = some e) : e.Reads := by
  unfold twinOps at he
  split at he
  case h_1 =>
    cases he
    exact fun _ _ => ⟨_, _, rfl⟩
  case h_7 => cases he
  all_goals omega

theorem calOps_reads {n : Nat} {e : Op} (hn : n < 0x10) (he : calOps n = some e) : e.Reads := by
  unfold calOps at he
  split at he
  case h_1 | h_2 =>
    cases he
    exact fun _ _ => ⟨_, _, rfl⟩
  case h_9 => cases he
  all_goals omega

theorem powerOps_reads {n : Nat} {e : Op} (hn : n < 0x10) (hx : n ≠ 0x02) (he : powerOps n = some e) : e.Reads := by
  unfold powerOps at he
  split at he
  case h_1 =>
    cases he
    exact fun _ _ => ⟨_, _, rfl⟩
  case h_6 => cases he
  all_goals omega

theorem safetyOps_reads {n : Nat} {e : Op} (hn : n < 0x10) (hx : n ≠ 0x03) (he : safetyOps n = some e) : e.Reads := by
  unfold safetyOps at he
  split at he
  case h_1 | h_2 =>
    cases he
    exact fun _ _ => ⟨_, _, rfl⟩
  case h_7 => cases he
  all_goals omega

theorem faultOps_reads {n : Nat} {e : Op} (hn : n < 0x10) (hx : n ≠ 0x03) (he : faultOps n = some e) : e.Reads := by
  unfold faultOps at he
  split at he
  case h_1 | h_2 | h_4 =>
    cases he
    exact fun _ _ => ⟨_, _, rfl⟩
  case h_9 => cases he
  all_goals omega

theorem fwOps_reads {n : Nat} {e : Op} (hn : n < 0x10) (he : fwOps n = some e) : e.Reads := by
  unfold fwOps at he
  split at he
  case h_1 =>
    cases he
    exact fun _ _ => ⟨_, _, rfl⟩
  case h_4 => cases he
  all_goals omega

theorem flashOps_reads {n : Nat} {e : Op} (hn : n < 0x10) (hx : n ≠ 0x03) (he : flashOps n = some e) : e.Reads := by
  unfold flashOps at he
  split at he
  case h_1 =>
    cases he
    exact fun _ _ => ⟨_, _, rfl⟩
  case h_6 => cases he
  all_goals omega


/-- The number of a query in its group. -/
theorem isQuery_number {op : Nat} (hq : isQuery op = true) : op % 256 < 0x10 ∨ op / 256 = 9 ∧ 0x80 ≤ op % 256 ∧ op % 256 < 0x90 := by
  simp only [isQuery, Bool.or_eq_true, Bool.and_eq_true, decide_eq_true_eq, beq_iff_eq] at hq
  omega

/-- Settles O40: table by table, the entry of each query reads. -/
theorem queriesReadAndChangeNothing : Obligations.QueriesReadAndChangeNothing := by
  intro op e h s hq he hx
  simp only [List.mem_cons, List.not_mem_nil, or_false, not_or] at hx
  have hgroup : ¬op.toNat < 256 := by
    intro hlt
    simp [isQuery, Nat.div_eq_of_lt hlt] at hq
  have hn := isQuery_number hq
  unfold opEntry opOf at he
  rw [if_neg hgroup] at he
  simp only at he
  suffices hreads : e.Reads from hreads h s
  split at he
  case h_1 => exact stateOps_reads (by omega) he
  case h_2 => exact panOps_reads (by omega) he
  case h_3 => exact gridOps_reads (by omega) he
  case h_4 => exact mashOps_reads (by omega) (by omega) he
  case h_5 => exact captureOps_reads (by omega) (by omega) he
  case h_6 => exact edgeOps_reads (by omega) (by omega) he
  case h_7 => exact kilnOps_reads (by omega) (by omega) he
  case h_8 =>
    obtain hstream | ⟨_, hfeed⟩ := Option.or_eq_some_iff.mp he
    · exact streamOps_reads (by omega) (by omega) hstream
    · exact feedOps_reads (by omega) (by omega) hfeed
  case h_9 =>
    have hleave : op.toNat % 256 ≠ 0x12 := by omega
    rw [if_neg hleave] at he
    split at he
    · exact fabricOps_reads (by omega) (by omega) he
    · exact laneOps_reads (by omega) (by omega) (by omega) he
  case h_10 => exact timeOps_reads (by omega) he
  case h_11 => exact twinOps_reads (by omega) (by omega) he
  case h_12 => exact calOps_reads (by omega) he
  case h_13 => exact powerOps_reads (by omega) (by omega) he
  case h_14 => exact safetyOps_reads (by omega) (by omega) he
  case h_15 => exact faultOps_reads (by omega) (by omega) he
  case h_16 =>
    obtain hfw | ⟨_, hflash⟩ := Option.or_eq_some_iff.mp he
    · exact fwOps_reads (by omega) hfw
    · exact flashOps_reads (by omega) (by omega) hflash
  case h_17 => cases he

end Sys2Proof.Machine

/-! SUPPORT. What settling does in a quiet hub: each thing that could act has nothing to do there. -/
namespace Sys2Proof.Machine

open Sys2Proof

/-! ## A quiet hub -/

/-- What it is for a hub to be quiet (`State.quiet`), by name. -/
structure State.Quiet (s : State) : Prop where
  hub : s.sys.hub ≠ .reset
  stands : s.stands = true
  noted : s.noted = true
  single : s.twin.mode = 0
  startDue : s.twin.startDue = false
  pairRefs : s.twin.pairRefs = []
  swapStage : s.twin.swapStage = 0
  fatal : s.faults.fatal = none
  restart : s.sys.fwRestartDue = false
  own : s.capture.own = []
  linked : s.capture.linked = []
  issued : s.capture.issued = []
  groups : ∀ e ∈ s.capture.groups, e.2.waiting = none ∧ ∀ r ∈ e.2.readouts, r.left ≠ 0
  panOut : ∀ e ∈ s.front.pans, e.2.outWait = []
  mashOut : s.mash.outWait = []
  attached : s.upAttached = s.fabric.wasAttached
  strobes : s.strikes = true ∨ ∀ e ∈ s.front.pans, e.2.armed = [] ∧ e.2.strobes = [] ∧ e.2.sentTo = 0
  swaps : ∀ c ∈ s.cmds.changes, ¬((c.opcode = 0x0414 ∨ c.opcode = 0x0B10) ∧ c.epoch ≤ s.now)
  awaited : s.streams.awaited = []
  hopeful : ∀ r ∈ s.sluice.recovery ++ s.sluice.normal, ¬s.hopeless r = true
  workspace : s.kiln.workWait = none
  leaving : s.fabric.leaving = none
  calWaiting : s.cal.waiting = none
  rotation : s.cal.rotation = none
  fore : s.cal.fore = none
  powerUps : s.powerUpsDue = []
  setA : s.safety.a.waiting = none
  setB : s.safety.b.waiting = none
  confirm : s.safety.confirm = none
  goodbyes : ∀ e ∈ s.cmds.sessions, e.2.finishing = none
  start : nextStart s.cmds.held [] [] = none
  configs : (s.sys.hub == .reconfigure) = false ∨ (!s.configPending) = false
  formed : s.cmds.waiting = []
  outbox : s.twin.outbox = []
  reset : s.cmds.resetAfter ≠ some none

theorem State.quiet_facts {s : State} (h : s.quiet = true) : s.Quiet := by
  simp only [State.quiet, State.rests, Bool.and_eq_true, bne_iff_ne, beq_iff_eq, Bool.not_eq_true', List.isEmpty_iff, Option.isNone_iff_eq_none, List.all_eq_true,
    Bool.or_eq_true, List.any_eq_false, decide_eq_true_eq, Bool.and_eq_false_iff, and_assoc] at h
  obtain ⟨hub, stands, noted, single, startDue, pairRefs, swapStage, fatal, restart, own, linked, issued, groups, panOut, mashOut, attached, strobes, swaps, awaited, hopeful,
    workspace, leaving, calWaiting, rotation, fore, powerUps, setA, setB, confirm, goodbyes, start, configs, formed, outbox, reset⟩ := h
  exact ⟨hub, stands, noted, single, startDue, pairRefs, swapStage, fatal, restart, own, linked, issued, groups, panOut, mashOut, attached, strobes, swaps, awaited, hopeful,
    workspace, leaving, calWaiting, rotation, fore, powerUps, setA, setB, confirm, goodbyes, start, configs, formed, outbox, reset⟩

theorem filter_eq_self_of_all {α : Type} {p : α → Bool} {o : Option α} (h : o.all p = true) : o.filter p = o := by
  cases o with
  | none => rfl
  | some a => exact if_pos h

theorem foldl_eq_self {α β : Type} {f : α → β → α} {a : α} {l : List β} (h : ∀ b ∈ l, f a b = a) : l.foldl f a = a := by
  induction l with
  | nil => rfl
  | cons b r ih => rw [List.foldl_cons, h b (List.mem_cons_self ..), ih fun c hc => h c (List.mem_cons_of_mem _ hc)]

namespace State.Quiet

variable {s : State} (h : s.Quiet)
include h

/-! ### What acts before the queues -/

theorem noteAttach : s.noteAttach = s := if_pos h.attached

theorem checkFatal : s.checkFatal = s := if_neg (by simp [h.fatal])

theorem dueTransition : s.dueTransition = s := by
  have hstands := h.stands
  unfold State.stands at hstands
  unfold State.dueTransition
  have hstandby : (s.twin.paired && s.twin.mode == 1 && s.twin.role == 2 && !s.twin.barred) = false := by simp [h.single]
  split <;> simp_all

theorem interlock : s.interlock = s := by
  unfold State.interlock
  exact if_pos (.inl h.single)

/-! ### What has left -/

theorem held_noted {k : Held} (hk : k ∈ s.cmds.held) : k.replyOut.filter s.stillHere = k.replyOut ∧ k.noticeOut.filter s.stillHere = k.noticeOut ∧ (!k.over) = true := by
  have hall := List.all_eq_true.mp h.noted k hk
  simp only [Bool.and_eq_true] at hall
  obtain ⟨⟨hreply, hnotice⟩, hover⟩ := hall
  exact ⟨filter_eq_self_of_all hreply, filter_eq_self_of_all hnotice, hover⟩

theorem noteLeft : s.noteLeft = s := by
  have hmap : s.cmds.held.map (fun k => { k with replyOut := k.replyOut.filter s.stillHere, noticeOut := k.noticeOut.filter s.stillHere }) = s.cmds.held := by
    refine (List.map_congr_left fun k hk => ?_).trans (List.map_id s.cmds.held)
    obtain ⟨hreply, hnotice, _⟩ := h.held_noted hk
    rw [hreply, hnotice]
    rfl
  have hkept : s.cmds.held.filter (fun k => !k.over) = s.cmds.held := List.filter_eq_self.mpr fun k hk => by
    obtain ⟨_, _, hover⟩ := h.held_noted hk
    exact hover
  unfold State.noteLeft State.dropOver
  simp only [hmap, hkept]

theorem sendReplies : s.sendReplies = s := by
  unfold State.sendReplies
  split
  · rfl
  · rw [h.formed]
    show ({ s with cmds := { s.cmds with waiting := [] } } : State) = s
    rw [← h.formed]

theorem noteReset : s.noteReset = s := by
  unfold State.noteReset
  split
  · next hr => exact absurd hr h.reset
  · rfl

theorem beginRestart : s.beginRestart = s := if_pos (.inl (by simp [h.restart]))

/-! ### What waits -/

theorem runOwn (fuel : Nat) : s.runOwn fuel = s := by
  cases fuel with
  | zero => rfl
  | succ n =>
    unfold State.runOwn
    rw [h.own]

theorem settleSwaps : s.settleSwaps = s := by
  have hnone : s.cmds.changes.filter (fun c => ((c.opcode == 0x0414 && !s.live) || (c.opcode == 0x0B10 && (!s.live || s.sys.hub == .shadow))) && decide (c.epoch ≤ s.now)) = [] := by
    refine List.filter_eq_nil_iff.mpr fun c hc hdue => h.swaps c hc ?_
    simp only [Bool.and_eq_true, Bool.or_eq_true, beq_iff_eq, decide_eq_true_eq] at hdue
    obtain ⟨hop, hepoch⟩ := hdue
    exact ⟨hop.imp And.left And.left, hepoch⟩
  unfold State.settleSwaps
  rw [hnone]
  rfl

theorem settleAwaited : s.settleAwaited = s := by
  unfold State.settleAwaited
  rw [h.awaited]
  rfl

theorem purge : s.purge = s := by
  unfold State.purge
  rw [List.filter_eq_nil_iff.mpr h.hopeful]
  rfl

theorem settleDefine : s.settleDefine = s := by
  unfold State.settleDefine
  split
  · rfl
  · exact foldl_eq_self fun e he => by rw [(h.groups e he).1]

theorem settleWorkspace : s.settleWorkspace = s := by
  unfold State.settleWorkspace
  rw [h.workspace]

theorem settleLeave : s.settleLeave = s := by
  unfold State.settleLeave
  rw [h.leaving]

theorem startWaiting : s.startWaiting = s := by
  unfold State.startWaiting
  rw [h.calWaiting]

theorem loanNext : s.loanNext = s := by
  unfold State.loanNext State.loanLoop
  rw [h.rotation]

theorem panServiceNow : s.panServiceNow = s := by
  unfold State.panServiceNow
  rw [h.powerUps]
  rfl

theorem boundQueues : s.boundQueues = s := by
  have hpans : s.front.pans.filterMap (fun e => if e.2.outWait.isEmpty then none else some (e.1, e.2.outWait.length)) = [] :=
    List.filterMap_eq_nil_iff.mpr fun e he => by simp [h.panOut e he]
  unfold State.boundQueues
  simp only [hpans, List.foldl_nil, h.mashOut, List.length_nil, List.range_zero]

theorem settleReadouts : s.settleReadouts = s := by
  have hnone : s.capture.groups.filter (fun e => e.2.readouts.any (fun r => r.left == 0)) = [] :=
    List.filter_eq_nil_iff.mpr fun e he => by simpa using (h.groups e he).2
  unfold State.settleReadouts
  rw [hnone]
  rfl

theorem settleSafety : s.settleSafety = s := if_pos (by simp [h.setA, h.setB])

theorem settleConfirm : s.settleConfirm = s := by
  unfold State.settleConfirm
  rw [h.confirm]

theorem swapStep : s.swapStep = s := by
  unfold State.swapStep
  simp only [h.swapStage, ite_self]

theorem settlePair : s.settlePair = s := by
  unfold State.settlePair
  rw [h.pairRefs]
  split
  · show ({ s with twin := { s.twin with pairRefs := [] } } : State) = s
    rw [← h.pairRefs]
  · rfl

theorem endPass : s.endPass = s := by
  unfold State.endPass
  rw [h.fore]

theorem settleGoodbye : s.settleGoodbye = s := by
  have hnone : s.cmds.sessions.filter (·.2.finishing.isSome) = [] := List.filter_eq_nil_iff.mpr fun e he => by simp [h.goodbyes e he]
  unfold State.settleGoodbye
  rw [hnone]
  rfl

theorem askDuty : s.askDuty = s := if_pos (.inl (by simp [h.startDue]))

theorem leaveReconfigure : s.leaveReconfigure = s := by
  refine if_neg fun ⟨hhub, hover⟩ => ?_
  obtain hne | hpending := h.configs
  · exact beq_eq_false_iff_ne.mp hne hhub
  · exact Bool.noConfusion (hpending.symm.trans hover)

theorem settleWaits : s.settleWaits = s := by
  simp only [State.settleWaits, h.noteLeft, h.runOwn, h.settleSwaps, h.settleAwaited, h.purge, h.settleDefine, h.settleWorkspace, h.settleLeave, h.startWaiting, h.loanNext,
    h.panServiceNow, h.boundQueues, h.settleReadouts, h.settleSafety, h.settleConfirm, h.swapStep, h.settlePair, h.endPass, h.settleGoodbye, h.askDuty, h.leaveReconfigure]

/-! ### What starts and what is sent -/

theorem pump (fuel : Nat) : s.pump fuel = s := by
  cases fuel with
  | zero => rfl
  | succ n =>
    unfold State.pump
    split
    · rfl
    · rw [h.start]

theorem tellCommits : s.tellCommits = s := if_pos (by simp [h.linked])

theorem sendTriggers : s.sendTriggers = s := by
  unfold State.sendTriggers
  rw [h.issued]
  show ({ s with capture := { s.capture with issued := [] } } : State) = s
  rw [← h.issued]

theorem dropStrobes : s.dropStrobes = s := by
  refine if_pos (h.strobes.imp_right fun hclear => ?_)
  simpa [and_assoc] using hclear

theorem sendOutbox : s.sendOutbox = s := if_pos (by simp [h.outbox])

/-! ### What is kept up to date -/

theorem sendFormed : s.sendFormed = s.noteGen.noteReset := by
  simp only [State.sendFormed, h.sendReplies, h.noteLeft]

end State.Quiet

@[simp] theorem State.quiet_notePower (s : State) : s.notePower.quiet = s.quiet := rfl

@[simp] theorem State.quiet_driveTrip (s : State) : s.driveTrip.quiet = s.quiet := rfl

theorem State.noteGen_eq (s : State) : s.noteGen = { s with streams := { s.streams with notified := if s.sys.fwPaused then s.streams.notified else s.sys.configGen } } := by
  unfold State.noteGen
  split <;> rfl

@[simp] theorem State.quiet_noteGen (s : State) : s.noteGen.quiet = s.quiet := by
  rw [State.noteGen_eq]
  rfl

/-- config_gen once notified stays so while the TRIP outputs are driven. -/
theorem State.noteGen_twice (s : State) : s.noteGen.driveTrip.noteGen = s.driveTrip.noteGen := by
  simp only [State.noteGen_eq, State.driveTrip]
  split <;> rfl

/-- The last round of settling, once nothing waits and nothing starts. -/
theorem State.settleRest_of_quiet {s : State} (hq : s.quiet = true) (fuel : Nat) : s.settleRest fuel = s.upToDate := by
  have h := State.quiet_facts hq
  have hpower : s.notePower.Quiet := State.quiet_facts (by simpa using hq)
  have hgen : s.notePower.noteGen.Quiet := State.quiet_facts (by simpa using hq)
  have htrip : s.notePower.noteGen.driveTrip.Quiet := State.quiet_facts (by simpa using hq)
  have hlast : s.notePower.driveTrip.noteGen.Quiet := State.quiet_facts (by simpa using hq)
  unfold State.settleRest State.upToDate
  simp only [h.pump, h.checkFatal, h.settleWaits, h.dueTransition, hpower.tellCommits, hpower.sendTriggers, hpower.sendFormed, hgen.noteReset, hgen.beginRestart, hgen.checkFatal,
    htrip.dropStrobes, htrip.sendFormed, State.noteGen_twice, hlast.noteReset, hlast.sendOutbox]

theorem State.settle_of_quiet {s : State} (hq : s.quiet = true) : s.settle = s.upToDate := by
  have h := State.quiet_facts hq
  have hbefore : s.beforeQueues = s := by
    simp only [State.beforeQueues, h.noteAttach, h.checkFatal, h.dueTransition, h.interlock, h.settleWaits]
  unfold State.settle
  rw [if_neg h.hub]
  simp only [hbefore]
  exact State.settleRest_of_quiet hq _

theorem State.upToDate_frame (s : State) : s.upToDate = { s with
    front := { s.front with tripPins := s.tripLevels }, power := s.upToDate.power,
    streams := { s.streams with notified := if s.sys.fwPaused then s.streams.notified else s.sys.configGen } } := by
  simp only [State.upToDate, State.noteGen_eq]
  rfl

/-- Settles O6: whatever settling could do has nothing to do in a quiet hub, and what it keeps up to date leaves the hub quiet. -/
theorem aQuietHubOnlyComesUpToDate : Obligations.AQuietHubOnlyComesUpToDate := by
  refine ⟨fun s => State.settle_of_quiet, State.upToDate_frame, fun t f s hq => ?_⟩
  unfold State.event
  rw [State.settle_of_quiet hq]

end Sys2Proof.Machine

/-! SUPPORT. The invariant (`State.sound`): what keeps it, that settling brings it about, that reset meets it, and that every step keeps it. -/
namespace Sys2Proof.Machine

open Sys2Proof

/-! ## What the invariant speaks of -/

/-- From s to t nothing changes of what the invariant speaks of. -/
structure State.SoundlyAlike (s t : State) : Prop where
  sys : t.sys = s.sys
  fatal : t.faults.fatal = s.faults.fatal
  waiting : t.cmds.waiting = s.cmds.waiting
  notified : t.streams.notified = s.streams.notified
  pins : t.front.tripPins = s.front.tripPins
  levels : t.tripLevels = s.tripLevels

namespace State.SoundlyAlike

theorem refl (s : State) : s.SoundlyAlike s := ⟨rfl, rfl, rfl, rfl, rfl, rfl⟩

theorem trans {a b c : State} (h : a.SoundlyAlike b) (g : b.SoundlyAlike c) : a.SoundlyAlike c :=
  ⟨g.sys.trans h.sys, g.fatal.trans h.fatal, g.waiting.trans h.waiting, g.notified.trans h.notified, g.pins.trans h.pins, g.levels.trans h.levels⟩

theorem foldl {β : Type} {f : State → β → State} (h : ∀ (s : State) (b : β), s.SoundlyAlike (f s b)) (l : List β) (s : State) : s.SoundlyAlike (l.foldl f s) := by
  induction l generalizing s with
  | nil => exact refl s
  | cons b r ih => exact (h s b).trans (ih _)

theorem sound {s t : State} (h : s.SoundlyAlike t) (hs : s.sound) : t.sound := by
  unfold State.sound
  rw [h.sys, h.fatal, h.waiting, h.notified, h.pins, h.levels]
  exact hs

end State.SoundlyAlike

theorem SentLike.soundlyAlike {s t : State} (h : SentLike s t) : s.SoundlyAlike t where
  sys := h.sys
  fatal := h.fatal
  waiting := by rw [h.wait]
  notified := by rw [h.streams]
  pins := by rw [h.front]
  levels := tripLevels_congr h.sys (by simp [h.front]) h.twin

theorem State.withPending_alike (s : State) (q : List Instr) : s.SoundlyAlike { s with pending := q } := ⟨rfl, rfl, rfl, rfl, rfl, rfl⟩
theorem State.setPan_alike (s : State) (p : Nat) (f : Pan → Pan) : s.SoundlyAlike (s.setPan p f) := ⟨rfl, rfl, rfl, rfl, rfl, rfl⟩
theorem State.setEdge_alike (s : State) (i : Nat) (f : Edge → Edge) : s.SoundlyAlike (s.setEdge i f) := ⟨rfl, rfl, rfl, rfl, rfl, rfl⟩
theorem State.withTime_alike (s : State) (x : Time) : s.SoundlyAlike { s with time := x } := ⟨rfl, rfl, rfl, rfl, rfl, rfl⟩
theorem State.notePush_alike (s : State) (q : Nat) : s.SoundlyAlike (s.notePush q) := ⟨rfl, rfl, rfl, rfl, rfl, rfl⟩

/-! ## Faults that are not Fatal -/

/-- Only an entry of class 5 is Fatal (R525). -/
theorem State.logFault_fatal {code : Nat} (hc : faultClass code ≠ 5) (s : State) (inst d0 d1 : Nat) :
    (s.logFault code inst d0 d1).faults.fatal = s.faults.fatal := by
  unfold State.logFault State.logEntry
  simp only [if_neg hc]
  split <;> rfl

theorem State.logFault_alike {code : Nat} (hc : faultClass code ≠ 5) (s : State) (inst d0 d1 : Nat) : s.SoundlyAlike (s.logFault code inst d0 d1) := by
  have hfatal := State.logFault_fatal hc s inst d0 d1
  obtain ⟨f, a, e, h⟩ := s.logFault_logged code inst d0 d1
  rw [h] at hfatal ⊢
  exact ⟨rfl, hfatal, rfl, rfl, rfl, rfl⟩

/-! ## What settling leaves -/

/-- A Fatal fault logged outside BOOT holds the hub in FAULT_HOLD (R77). -/
def State.HoldsFatal (s : State) : Prop := s.sys.hub ≠ .reset → s.faults.fatal.isSome → s.sys.hub = .boot ∨ s.sys.hub = .faultHold

theorem State.enterFaultHold_hub (s : State) : s.enterFaultHold.sys.hub = .faultHold := rfl

theorem State.checkFatal_holdsFatal (s : State) : s.checkFatal.HoldsFatal := by
  unfold State.HoldsFatal State.checkFatal
  split
  · exact fun _ _ => .inr (State.enterFaultHold_hub s)
  next hstay =>
    intro hreset hfatal
    by_cases hboot : s.sys.hub = .boot
    · exact .inl hboot
    · exact .inr (Decidable.not_not.mp fun hhold => hstay ⟨hfatal, hreset, hboot, hhold⟩)

theorem State.HoldsFatal.driveTrip {s : State} (h : s.HoldsFatal) : s.driveTrip.HoldsFatal := h

/-- The TRIP outputs show what drives them (R130). -/
def State.PinsFollow (s : State) : Prop := s.front.tripPins = s.tripLevels

theorem State.driveTrip_pinsFollow (s : State) : s.driveTrip.PinsFollow := rfl

theorem State.SoundlyAlike.holdsFatal {s t : State} (h : s.SoundlyAlike t) (hs : s.HoldsFatal) : t.HoldsFatal := by
  unfold State.HoldsFatal
  rw [h.sys, h.fatal]
  exact hs

theorem State.SoundlyAlike.pinsFollow {s t : State} (h : s.SoundlyAlike t) (hs : s.PinsFollow) : t.PinsFollow :=
  h.pins.trans (hs.trans h.levels.symm)

theorem State.dropStrobes_alike (s : State) : s.SoundlyAlike s.dropStrobes := by
  unfold State.dropStrobes
  split
  · exact .refl s
  · exact ⟨rfl, rfl, rfl, rfl, rfl, rfl⟩

/-- Once Fatal faults and TRIP have been seen to, what has been formed is all that is missing. -/
theorem State.sendFormed_sound {s : State} (hfatal : s.HoldsFatal) (hpins : s.PinsFollow) : s.sendFormed.sound := by
  obtain ⟨hsys, hfront, hf, htwin, hformed⟩ := sendFormed_facts s
  have hlevels : s.sendFormed.tripLevels = s.tripLevels := tripLevels_congr hsys (by simp [hfront]) htwin
  unfold State.sound
  rw [hsys, hf, hfront, hlevels]
  exact fun hreset => ⟨hfatal hreset, hformed, hpins⟩

/-- The last round of settling: a Fatal fault acts, the TRIP outputs follow, and what has been formed leaves. -/
theorem State.lastRound_sound (s : State) : s.checkFatal.driveTrip.dropStrobes.sendFormed.sendOutbox.sound := by
  have hdrop := s.checkFatal.driveTrip.dropStrobes_alike
  have hfatal := hdrop.holdsFatal s.checkFatal_holdsFatal.driveTrip
  have hpins := hdrop.pinsFollow s.checkFatal.driveTrip_pinsFollow
  exact (sendOutbox_sent _).soundlyAlike.sound (State.sendFormed_sound hfatal hpins)

theorem State.settleRest_sound (s : State) (fuel : Nat) : (s.settleRest fuel).sound := State.lastRound_sound _

theorem State.sound_of_reset {s : State} (h : s.sys.hub = .reset) : s.sound := fun hreset => absurd h hreset

theorem State.settle_of_reset {s : State} (h : s.sys.hub = .reset) : s.settle = s := if_pos h

/-- Whatever the state was, the state that has settled meets the invariant. -/
theorem State.settle_sound (s : State) : s.settle.sound := by
  by_cases h : s.sys.hub = .reset
  · rw [State.settle_of_reset h]
    exact State.sound_of_reset h
  · unfold State.settle
    rw [if_neg h]
    exact State.settleRest_sound _ _

/-! ## What time that passes leaves -/

theorem State.takePair_alike (s : State) (i : Nat) (b : Bool) (a1 a2 : Nat) : s.SoundlyAlike (s.takePair i b a1 a2) := by
  unfold State.takePair
  simp only
  split
  · exact State.setEdge_alike ..
  · split
    · exact (State.setEdge_alike ..).trans (State.logFault_alike (by decide) ..)
    · exact State.setEdge_alike ..

theorem State.endRenewal_alike (s : State) (i : Nat) (b : Bool) : s.SoundlyAlike (s.endRenewal i b) := by
  unfold State.endRenewal
  split
  · split
    · exact (State.setEdge_alike ..).trans (State.takePair_alike ..)
    · exact .refl s
  · exact .refl s

theorem State.endRenewals_alike (s : State) : s.SoundlyAlike s.endRenewals :=
  .foldl (fun _ _ => (State.endRenewal_alike ..).trans (State.endRenewal_alike ..)) _ s

theorem State.pushSample_alike (s : State) (p : Nat) (x : PanSample) : s.SoundlyAlike (s.pushSample p x) := by
  unfold State.pushSample
  simp only
  split
  · exact .refl s
  · split
    · exact (State.notePush_alike ..).trans (State.setPan_alike ..)
    · exact State.setPan_alike ..

theorem State.calHoles_alike (s : State) (p stop : Nat) : s.SoundlyAlike (s.calHoles p stop) := by
  unfold State.calHoles
  simp only
  split
  · exact State.setPan_alike ..
  · exact (State.setPan_alike ..).trans (.foldl (fun _ _ => State.pushSample_alike ..) _ _)

theorem State.endInterruptions_alike (s : State) : s.SoundlyAlike s.endInterruptions := by
  unfold State.endInterruptions
  split
  · exact .refl s
  · exact .foldl (fun _ _ => State.calHoles_alike ..) _ s

theorem State.setInc_alike (s : State) (x : Int) : s.SoundlyAlike (s.setInc x) := s.withTime_alike _

theorem State.followLocal_alike (s : State) : s.SoundlyAlike s.followLocal := by
  unfold State.followLocal
  simp only
  split
  · exact .refl s
  · split
    · exact (s.withTime_alike _).trans (State.setInc_alike ..)
    · split
      · exact (s.withTime_alike _).trans (State.setInc_alike ..)
      · have hlog : s.SoundlyAlike (if s.time.fellBack then s else s.logFault 0x0042 s.time.source 0 0) := by
          split
          · exact .refl s
          · exact State.logFault_alike (by decide) ..
        exact (hlog.trans (State.withTime_alike ..)).trans (State.setInc_alike ..)

theorem State.ppsAbsent_alike (s : State) : s.SoundlyAlike s.ppsAbsent := by
  unfold State.ppsAbsent
  split
  · exact s.followLocal_alike
  · exact .refl s

theorem State.rollRate_alike (s : State) : s.SoundlyAlike s.rollRate := by
  unfold State.rollRate
  simp only
  split
  · exact .refl s
  · exact ⟨rfl, rfl, rfl, rfl, rfl, rfl⟩

theorem State.timePassed_alike {s : State} (hspots : s.spotsOver = []) : s.SoundlyAlike s.timePassed := by
  have hnone : s.endSpots = s := by simp only [State.endSpots, hspots, List.foldl_nil]
  unfold State.timePassed
  rw [hnone]
  exact (s.endRenewals_alike.trans (State.endInterruptions_alike _)).trans (State.ppsAbsent_alike _)

theorem State.hubReset_hub (s : State) (soft : Bool) : (s.hubReset soft).sys.hub = .reset := rfl

/-- A GRID cycle resets the hub, or ends spot conversions and settles, or leaves alone what the invariant speaks of. -/
theorem State.tick_sound {s : State} (hs : s.sound) : s.tick.sound := by
  unfold State.tick
  split
  · exact hs
  · simp only
    split
    · exact State.sound_of_reset (State.hubReset_hub ..)
    · split
      next hspots =>
        exact (((s.withTime_alike _).trans (State.rollRate_alike _)).trans (State.timePassed_alike (List.isEmpty_iff.mp hspots))).sound hs
      · exact State.settle_sound _

/-! ## The invariant -/

/-- Settles O4: reset shows each part of the invariant, and in RESET it asks nothing. -/
theorem theInvariantHoldsAtReset : Obligations.TheInvariantHoldsAtReset :=
  ⟨State.sound_of_reset rfl, rfl, rfl, rfl, rfl⟩

/-- Settles O5: a command ends with the hub settled, which brings the invariant about whatever came before; a GRID cycle keeps it. -/
theorem everyStepKeepsTheInvariant : Obligations.EveryStepKeepsTheInvariant := by
  intro s t hs hstep
  unfold step at hstep
  split at hstep
  next =>
    cases hstep
    exact State.tick_sound hs
  next c r hpending =>
    obtain ⟨w, hw⟩ := exec_settles c { s with pending := r }
    rw [hw] at hstep
    cases hstep
    exact (w.settle.withPending_alike r).sound w.settle_sound

end Sys2Proof.Machine

/-! SUPPORT. RESET and BOOT: what reset leaves, and what neither packets nor the rows of a started hub change there (R71, R73, R88, R90). -/
namespace Sys2Proof.Machine

open Sys2Proof

/-- Settles O3: the state after reset is made of these values. -/
theorem resetLeavesWhatTheSpecGives : Obligations.ResetLeavesWhatTheSpecGives :=
  ⟨rfl, rfl, rfl, rfl, rfl, rfl, rfl, rfl, rfl, rfl, rfl, rfl, rfl, rfl, rfl, rfl, rfl, rfl, rfl, rfl, rfl⟩

/-- By either way a packet that comes in RESET or BOOT leaves the hub as it was (R90, R549). -/
theorem State.packetComes_of_startUp {s : State} (h : s.sys.hub = .reset ∨ s.sys.hub = .boot) (op : BitVec 16) (o : Origin) (c : Cmd) :
    s.packetComes op o c = s := by
  cases o with
  | mport => exact if_pos h
  | fabric q => exact if_pos (h.elim .inl (fun hboot => .inr (.inl hboot)))

/-- Settles O31: the packet changes nothing, and in RESET nothing settles. -/
theorem packetsInResetAndBootDoNothing : Obligations.PacketsInResetAndBootDoNothing := by
  intro op o c s
  constructor
  · intro hreset
    unfold State.submit
    rw [State.packetComes_of_startUp (.inl hreset), State.settle_of_reset hreset]
  · intro hboot
    unfold State.submit
    rw [State.packetComes_of_startUp (.inr hboot)]

/-- An event of what runs only once BOOT is over has no effect before: the hub settles at the event's time. -/
theorem State.runEvent_of_startUp {t : Nat} {s : State} (h : (s.advanceTo t).sys.hub = .reset ∨ (s.advanceTo t).sys.hub = .boot) (f : State → State) :
    s.runEvent t f = { (s.advanceTo t).settle with pending := s.pending } := by
  have hnone : (if (s.advanceTo t).sys.hub = .reset ∨ (s.advanceTo t).sys.hub = .boot then s.advanceTo t else f (s.advanceTo t)) = s.advanceTo t := if_pos h
  unfold State.runEvent State.event
  simp only [hnone]

/-- A row whose meaning is such an event stands in RESET and BOOT. -/
theorem stands_of_runEvent {row : Nat → Instr} (f : State → State) (h : ∀ t s, exec (row t) s = .next (s.runEvent t f)) : Stands row := by
  intro t s hub
  rw [h, State.runEvent_of_startUp hub]

/-- Settles O29: each of these rows is an event of what runs only once BOOT is over. -/
theorem otherRowsStandInResetAndBoot : Obligations.OtherRowsStandInResetAndBoot := by
  unfold Obligations.OtherRowsStandInResetAndBoot
  and_intros
  all_goals
    intros
    exact stands_of_runEvent _ fun _ _ => rfl

end Sys2Proof.Machine

/-! SUPPORT. What the commands of pans and grid complete with. -/
namespace Sys2Proof.Machine

open Sys2Proof

/-- Settles O8: each answer is what the entry of its opcode gives. -/
theorem panAndGridCommandsAnswer : Obligations.PanAndGridCommandsAnswer := by
  unfold Obligations.PanAndGridCommandsAnswer
  and_intros
  all_goals exact carries_of_entry (fun _ _ _ => rfl) rfl (fun _ _ => rfl)

end Sys2Proof.Machine

/-! SUPPORT. The order of the urgent requests at a slot boundary. -/
namespace Sys2Proof.Machine

open Sys2Proof

/-- The first urgent request of a kind that can be served, of the four that wait: it stands in the queue behind requests of which none is that. -/
theorem Pan.find_waiting {x : Pan} {q : Urgent → Bool} {u : Urgent} (h : x.waiting.find? q = some u) :
    q u = true ∧ ∃ a b, x.urgent = a ++ u :: b ∧ a.length < 4 ∧ ∀ v ∈ a, q v = false := by
  obtain ⟨hu, a, b, hsplit, ha⟩ := List.find?_eq_some_iff_append.mp h
  refine ⟨hu, a, b ++ x.urgent.drop 4, ?_, ?_, fun v hv => by simpa using ha v hv⟩
  · rw [← List.cons_append, ← List.append_assoc, ← hsplit, Pan.waiting, List.take_append_drop]
  · have hlen : x.waiting.length ≤ 4 := List.length_take_le 4 x.urgent
    rw [hsplit, List.length_append, List.length_cons] at hlen
    omega

/-- Settles O46: the request served is the first found of its kind, and a spot is looked for only once no handover is found. -/
theorem handoversGoBeforeSpots : Obligations.HandoversGoBeforeSpots := by
  intro x f n u h
  simp only [nextUrgent] at h
  split at h
  case h_1 v hfind =>
    obtain rfl : v = u := Option.some.inj h
    obtain ⟨hserve, a, b, hsplit, hlen, ha⟩ := Pan.find_waiting hfind
    simp only [Bool.and_eq_true] at hserve
    refine ⟨hserve.2, a, b, hsplit, hlen, fun w hw hkind => ?_, fun hspot => ?_⟩
    · simpa [hkind, hserve.1] using ha w hw
    · simp [hserve.1] at hspot
  case h_2 hnone =>
    obtain ⟨hserve, a, b, hsplit, hlen, ha⟩ := Pan.find_waiting h
    simp only [Bool.and_eq_true, Bool.not_eq_true'] at hserve
    refine ⟨hserve.2, a, b, hsplit, hlen, fun w hw hkind => ?_, fun _ w hw hhandover => ?_⟩
    · simpa [hkind, hserve.1] using ha w hw
    · simpa [hhandover] using List.find?_eq_none.mp hnone w hw

end Sys2Proof.Machine

/-! SUPPORT. A change at its epoch, and what the settings of single channels write. -/
namespace Sys2Proof.Machine

open Sys2Proof

/-- From s to t `count` channels from `first` on are written, each as `wrote` says of its place, its old and its new settings; nothing else changes. -/
structure ChannelsWritten (first count : Nat) (wrote : Nat → Chan → Chan → Prop) (s t : State) : Prop where
  frame : t = { s with front := { s.front with chans := t.front.chans } }
  others : ∀ ch, ch < first ∨ first + count ≤ ch → t.chan ch = s.chan ch
  named : ∀ i, i < count → wrote i (s.chan (first + i)) (t.chan (first + i))

namespace ChannelsWritten

variable {first n : Nat} {wrote : Nat → Chan → Chan → Prop} {s t u : State}

/-- Channels are written one after another. -/
theorem snoc (h : ChannelsWritten first n wrote s t) (h' : ChannelsWritten (first + n) 1 (fun _ => wrote n) t u) : ChannelsWritten first (n + 1) wrote s u where
  frame := by
    have hu := h'.frame
    rw [h.frame] at hu
    exact hu
  others ch hch := (h'.others ch (by omega)).trans (h.others ch (by omega))
  named i hi := by
    rcases Nat.lt_succ_iff_lt_or_eq.mp hi with hlt | rfl
    · rw [h'.others (first + i) (by omega)]
      exact h.named i hlt
    · rw [← h.others (first + i) (by omega)]
      exact h'.named 0 Nat.one_pos

/-- A walk over a range of channels, each step of which writes its own channel, writes the range. -/
theorem foldl {f : State → Nat → State} (h : ∀ s i, ChannelsWritten (first + i) 1 (fun _ => wrote i) s (f s i)) (n : Nat) (s : State) :
    ChannelsWritten first n wrote s ((List.range n).foldl f s) := by
  induction n with
  | zero => exact ⟨rfl, fun _ _ => rfl, fun _ hi => absurd hi (Nat.not_lt_zero _)⟩
  | succ n ih =>
    rw [List.range_succ, List.foldl_append, List.foldl_cons, List.foldl_nil]
    exact ih.snoc (h _ n)

end ChannelsWritten

/-- A change of one channel writes that channel. -/
theorem channelsWritten_setChan {wrote : Chan → Chan → Prop} {s : State} {ch : Nat} {f : Chan → Chan} (h : wrote (s.chan ch) (f (s.chan ch))) :
    ChannelsWritten ch 1 (fun _ => wrote) s (s.setChan ch f) where
  frame := rfl
  others q hq := State.chan_setChan_other s f (by omega)
  named i hi := by
    obtain rfl : i = 0 := by omega
    simpa using h

/-- A channel that has what is asked stands as it is. -/
theorem channelsWritten_refl {wrote : Chan → Chan → Prop} {s : State} {ch : Nat} (h : wrote (s.chan ch) (s.chan ch)) :
    ChannelsWritten ch 1 (fun _ => wrote) s s where
  frame := rfl
  others _ _ := rfl
  named i hi := by
    obtain rfl : i = 0 := by omega
    exact h

/-- The gain of a channel is written, its other settings kept. -/
def GainWritten (p : Bytes) (i : Nat) (y x : Chan) : Prop := x.gain = u8 p (12 + i) ∧ x.filter = y.filter ∧ x.userDelay = y.userDelay

/-- The filter of a channel is written, its other settings kept. -/
def FilterWritten (p : Bytes) (i : Nat) (y x : Chan) : Prop := x.filter = (u8 p (12 + i) == 1) ∧ x.gain = y.gain ∧ x.userDelay = y.userDelay

/-- The user delay of a channel is written, its other settings kept. -/
def DelayWritten (p : Bytes) (i : Nat) (y x : Chan) : Prop := x.userDelay = i8 p (12 + i) ∧ x.gain = y.gain ∧ x.filter = y.filter

theorem effPanSetGain_writes (ref : Nat) (p : Bytes) (s : State) : ChannelsWritten (u16 p 0) (u16 p 2) (GainWritten p) s (effPanSetGain ref p s).1 := by
  refine ChannelsWritten.foldl (fun s i => channelsWritten_setChan ?_) _ s
  split
  case isTrue heq => exact ⟨heq, rfl, rfl⟩
  case isFalse => exact ⟨rfl, rfl, rfl⟩

theorem effPanSetFilter_writes (ref : Nat) (p : Bytes) (s : State) : ChannelsWritten (u16 p 0) (u16 p 2) (FilterWritten p) s (effPanSetFilter ref p s).1 := by
  refine ChannelsWritten.foldl (fun s i => channelsWritten_setChan ?_) _ s
  split
  case isTrue heq => exact ⟨heq, rfl, rfl⟩
  case isFalse => exact ⟨rfl, rfl, rfl⟩

theorem effGridSetDelay_writes (ref : Nat) (p : Bytes) (s : State) : ChannelsWritten (u16 p 0) (u16 p 2) (DelayWritten p) s (effGridSetDelay ref p s).1 := by
  refine ChannelsWritten.foldl (fun s i => ?_) _ s
  dsimp only
  split
  case isTrue heq => exact channelsWritten_refl ⟨heq, rfl, rfl⟩
  case isFalse => exact channelsWritten_setChan ⟨rfl, rfl, rfl⟩

/-- At its epoch a change has the effect of its opcode's entry. -/
theorem applies_of_entry {op : BitVec 16} {e : Op} (he : opOf op = some e) : Applies op e.ownGen e.effect := by
  intro s c hc
  rw [State.applyChange, hc, he]

/-- Settles O44: each of the three effects is a walk over the channels named, and each step writes its own channel. -/
theorem channelSettingsTouchOnlyTheirChannels : Obligations.ChannelSettingsTouchOnlyTheirChannels := by
  rintro s c (hc | hc | hc)
  · rw [applies_of_entry rfl s c hc]
    have hw := effPanSetGain_writes c.ref c.params s.nextGen
    exact ⟨hw.frame, hw.others, fun i hi => ⟨fun _ => hw.named i hi, by simp [hc], by simp [hc]⟩⟩
  · rw [applies_of_entry rfl s c hc]
    have hw := effPanSetFilter_writes c.ref c.params s.nextGen
    exact ⟨hw.frame, hw.others, fun i hi => ⟨by simp [hc], fun _ => hw.named i hi, by simp [hc]⟩⟩
  · rw [applies_of_entry rfl s c hc]
    have hw := effGridSetDelay_writes c.ref c.params s.nextGen
    exact ⟨hw.frame, hw.others, fun i hi => ⟨by simp [hc], by simp [hc], fun _ => hw.named i hi⟩⟩

end Sys2Proof.Machine

/-! SUPPORT. What the rows of strobes, epochs, conversions and comparators do. -/
namespace Sys2Proof.Machine

open Sys2Proof

/-- A row that is an event takes effect where its meaning, once BOOT is over and the row is due, is that effect. -/
theorem takes_of_event {row : Nat → Instr} {due : State → Prop} {f effect : State → State} (hrow : ∀ t s, exec (row t) s = .next (s.event t f))
    (hf : ∀ s : State, s.sys.hub ≠ .reset → s.sys.hub ≠ .boot → due s → f s = effect s) : Takes row due effect := by
  intro t s hreset hboot hdue
  rw [hrow, State.event, hf _ hreset hboot hdue]

/-- So does a row that is an event of what runs only once BOOT is over. -/
theorem takes_of_runEvent {row : Nat → Instr} {due : State → Prop} {f effect : State → State} (hrow : ∀ t s, exec (row t) s = .next (s.runEvent t f))
    (hf : ∀ s : State, s.sys.hub ≠ .reset → s.sys.hub ≠ .boot → due s → f s = effect s) : Takes row due effect :=
  takes_of_event hrow fun s hreset hboot hdue => (if_neg (not_or.mpr ⟨hreset, hboot⟩)).trans (hf s hreset hboot hdue)

@[simp] theorem State.setPan_gridAt (s : State) (p : Nat) (f : Pan → Pan) (t : Nat) : (s.setPan p f).gridAt t = s.gridAt t := rfl

/-- A strobe that is due is noted as sent, and its message enters the crossing if it is named a frame period ahead, or else is late (R16, R146). -/
theorem State.sendStrobe_of_due {s : State} {p k time : Nat} (htime : strobeTime s.grid k (max s.now (s.pan p).sentTo) s.gridChanges = time) (hdue : s.strobeDue p k time = true) :
    s.sendStrobe p k =
      if s.time.counter + (s.gridAt time).period * 2 ^ 40 ≤ (s.strobeFor k time).cycle then
        ((s.setPan p (fun x => { x with sentTo := time })).notePush (64 + p)).setPan p (fun x => { x with strobes := x.strobes ++ [s.strobeFor k time] })
      else (s.setPan p (fun x => { x with sentTo := time })).strobeLate p k time := by
  simp only [State.sendStrobe, htime, hdue, State.setPan_time, State.setPan_gridAt]
  exact if_neg Bool.false_ne_true

/-- A message that stands in the crossing and can be taken leaves it, and strikes nothing if its cycle is past (R16). -/
theorem State.takeStrobe_of_cons {s : State} {p : Nat} {m : Strobe} {r : List Strobe} (hnext : (s.pan p).strobes = m :: r) (hqueue : s.queueEmpty (64 + p) (r.length + 1) = false) :
    s.takeStrobe p =
      if m.cycle < s.time.counter then ((s.notePop (64 + p)).setPan p (fun x => { x with strobes := r })).strobeLate p m.k m.time
      else ((s.notePop (64 + p)).setPan p (fun x => { x with strobes := r })).setPan p (fun x => { x with armed := armStrobe m x.armed }) := by
  simp only [State.takeStrobe, hnext, hqueue]
  exact if_neg Bool.false_ne_true

/-- None of what makes `State.epochBoundary` stand holds at an epoch that has not been passed, once BOOT is over (R17). -/
theorem State.epochBoundary_guard {s : State} (hreset : s.sys.hub ≠ .reset) (hboot : s.sys.hub ≠ .boot) (hepoch : s.grid.isEpoch s.now = true) (hat : s.front.epochAt ≠ some s.now) :
    ¬((!s.grid.isEpoch s.now) = true ∨ s.sys.hub = .reset ∨ s.sys.hub = .boot ∨ s.front.epochAt = some s.now) := by
  simp [hepoch, hreset, hboot, hat]

/-- Settles O19: each row is an event whose meaning, where the clause's conditions hold, takes the branch written out. -/
theorem samplingRowsTakeEffect : Obligations.SamplingRowsTakeEffect := by
  refine ⟨fun k => ?gridStrobe, fun p k => ?strobeSent, fun p k => ?strobeLate, fun p m r => ?strobeTaken, fun p m r => ?strobePast, ?epoch, ?epochFaultHold,
    fun p c f => ?entryConverted, fun p c f ref z n => ?releaseChecked, fun p c f u => ?urgentServed, ?spotTimeout, fun p => ?urgentEnded,
    fun ch input hch => ?comparator, fun ch beats e r => ?tdc, fun p e r => ?delivery, ?overload⟩
  case gridStrobe =>
    refine takes_of_runEvent (fun _ _ => rfl) fun s _ _ ⟨hstrikes, hnow, hfrom, hpassed, hchange⟩ => ?_
    simp only [State.gridStrobe, hnow]
    exact if_neg (by simp [hstrikes, hpassed, hchange, hfrom])
  case strobeSent =>
    exact takes_of_runEvent (fun _ _ => rfl) fun s _ _ ⟨hdue, hahead⟩ => (State.sendStrobe_of_due rfl hdue).trans (if_pos hahead)
  case strobeLate =>
    exact takes_of_runEvent (fun _ _ => rfl) fun s _ _ ⟨hdue, hlate⟩ => (State.sendStrobe_of_due rfl hdue).trans (if_neg (Nat.not_le.mpr hlate))
  case strobeTaken =>
    exact takes_of_runEvent (fun _ _ => rfl) fun s _ _ ⟨hnext, hqueue, hcome⟩ => (State.takeStrobe_of_cons hnext hqueue).trans (if_neg (Nat.not_lt.mpr hcome))
  case strobePast =>
    exact takes_of_runEvent (fun _ _ => rfl) fun s _ _ ⟨hnext, hqueue, hpast⟩ => (State.takeStrobe_of_cons hnext hqueue).trans (if_pos hpast)
  case epoch =>
    exact takes_of_runEvent (fun _ _ => rfl) fun s hreset hboot ⟨hepoch, hfault, hat⟩ =>
      (if_neg (State.epochBoundary_guard hreset hboot hepoch hat)).trans (if_neg hfault)
  case epochFaultHold =>
    exact takes_of_runEvent (fun _ _ => rfl) fun s hreset hboot ⟨hepoch, hfault, hat⟩ =>
      (if_neg (State.epochBoundary_guard hreset hboot hepoch hat)).trans (if_pos hfault)
  case entryConverted =>
    refine takes_of_runEvent (fun _ _ => rfl) fun s _ _ ⟨hframe, hpower, hdie, hover⟩ => ?_
    simp [State.conversionEnd, hframe, hpower, hdie, hover]
  case releaseChecked =>
    refine takes_of_runEvent (fun _ _ => rfl) fun s _ _ ⟨hframe, hpower, hdie, hover, hrelease, hsub⟩ => ?_
    simp [State.conversionEnd, hframe, hpower, hdie, hover, hrelease, hsub]
  case urgentServed =>
    refine takes_of_runEvent (fun _ _ => rfl) fun s _ _ ⟨hframe, hpower, hint, hslot, hnext⟩ => ?_
    simp only [State.urgentSlot, hframe]
    rw [if_neg (by simp [hpower, hint]), if_neg (Nat.not_lt.mpr hslot), hnext]
  case spotTimeout => exact takes_of_runEvent (fun _ _ => rfl) fun _ _ _ _ => rfl
  case urgentEnded => exact takes_of_runEvent (fun _ _ => rfl) fun s _ _ hcannot => if_neg (by simp [hcannot])
  case comparator => exact takes_of_event (fun _ _ => rfl) fun s hreset hboot hdie => if_pos ⟨hch, hreset, hboot, by simp [hdie]⟩
  case tdc =>
    refine takes_of_runEvent (fun _ _ => rfl) fun s _ _ hpending => ?_
    simp only [State.tdcEnd, hpending]
  case delivery =>
    refine takes_of_runEvent (fun _ _ => rfl) fun s _ _ ⟨hevents, hqueue⟩ => ?_
    simp [State.crossingArrives, State.passCrossing, hevents, hqueue]
  case overload => exact takes_of_runEvent (fun _ _ => rfl) fun _ _ _ _ => rfl

end Sys2Proof.Machine

/-! SUPPORT. The place of an accepted change among those that wait. -/
namespace Sys2Proof.Machine

open Sys2Proof

@[simp] theorem insertChange_nil (c : Change) : insertChange c [] = [c] := rfl

theorem insertChange_cons_of_lt {c d : Change} (l : List Change) (h : c.epoch < d.epoch) : insertChange c (d :: l) = c :: d :: l := if_pos h

theorem insertChange_cons_of_le {c d : Change} (l : List Change) (h : d.epoch ≤ c.epoch) : insertChange c (d :: l) = d :: insertChange c l := if_neg (Nat.not_lt.mpr h)

/-- Settles O43, by induction on the changes that wait: the first of a later epoch is followed by later epochs only. -/
theorem changesStandInOrder : Obligations.ChangesStandInOrder := by
  intro c l hsorted
  induction l with
  | nil => exact ⟨[], [], rfl, rfl, by simp, by simp⟩
  | cons d l ih =>
    obtain ⟨hd, hl⟩ := List.pairwise_cons.mp hsorted
    rcases Nat.lt_or_ge c.epoch d.epoch with hlt | hge
    · exact ⟨[], d :: l, rfl, insertChange_cons_of_lt l hlt, by simp, List.forall_mem_cons.mpr ⟨hlt, fun x hx => Nat.lt_of_lt_of_le hlt (hd x hx)⟩⟩
    · obtain ⟨a, b, hsplit, hins, ha, hb⟩ := ih hl
      exact ⟨d :: a, b, by rw [hsplit, List.cons_append], by rw [insertChange_cons_of_le l hge, hins, List.cons_append], List.forall_mem_cons.mpr ⟨hge, ha⟩, hb⟩

end Sys2Proof.Machine

/-! SUPPORT. The cycle and the residual that a strobe message names. -/
namespace Sys2Proof.Machine

open Sys2Proof

/-- What is nearest is at most half a divisor away, and of two nearest the even one is taken (R401). -/
theorem roundEven_nearest (a : Int) {b : Nat} (hb : 0 < b) :
    2 * (roundEven a b * b - a) ≤ b ∧ 2 * (a - roundEven a b * b) ≤ b ∧
    (2 * (roundEven a b * b - a) = b ∨ 2 * (a - roundEven a b * b) = b → roundEven a b % 2 = 0) := by
  have hdiv : a.fdiv b * b + a.fmod b = a := Int.fdiv_mul_add_fmod a b
  have hnonneg : 0 ≤ a.fmod b := Int.fmod_nonneg_of_pos a (by omega)
  have hlt : a.fmod b < b := Int.fmod_lt_of_pos a (by omega)
  simp only [roundEven]
  split
  case isTrue hup =>
    rw [Int.add_mul, Int.one_mul]
    generalize a.fdiv b * b = m at *
    omega
  case isFalse hdown =>
    generalize a.fdiv b * b = m at *
    omega

/-- What is not negative rounds to what is not negative. -/
theorem roundEven_nonneg {a : Int} (ha : 0 ≤ a) {b : Nat} : 0 ≤ roundEven a b := by
  have hq : 0 ≤ a.fdiv b := Int.fdiv_nonneg ha (by omega)
  simp only [roundEven]
  split <;> omega

/-- The same of natural numbers. -/
theorem roundEven_toNat_nearest (d : Nat) {b : Nat} (hb : 0 < b) :
    let r := (roundEven d b).toNat
    2 * r * b ≤ 2 * d + b ∧ 2 * d ≤ 2 * r * b + b ∧ (2 * r * b = 2 * d + b ∨ 2 * d = 2 * r * b + b → r % 2 = 0) := by
  intro r
  have hr : roundEven d b = r := (Int.toNat_of_nonneg (roundEven_nonneg (by omega))).symm
  have hnear := roundEven_nearest d hb
  rw [hr] at hnear
  rw [Nat.mul_assoc]
  have hcast : (r : Int) * b = (r * b : Nat) := by norm_cast
  rw [hcast] at hnear
  omega

/-- The last of the instants from `n` on, `inc` apart, that is not after `target`. -/
theorem lastInstant_spec {n inc target : Nat} (hinc : 0 < inc) (hn : n ≤ target) :
    n + (target - n) / inc * inc ≤ target ∧ target < n + (target - n) / inc * inc + inc := by
  have hle := Nat.div_mul_le_self (target - n) inc
  have hlt := Nat.lt_div_mul_add (a := target - n) hinc
  omega

/-- The target of a strobe in the units of the counter, T − L − 1 ns (R146). -/
def State.strobeTarget (s : State) (time : Nat) : Nat := (time - 1) * 2 ^ 40 - s.lead * 2 ^ 33

/-- The cycle named is the last one not after the target (R146). -/
theorem State.strobeFor_cycle_spec {s : State} (k : Nat) {time : Nat} (hinc : 0 < s.time.inc) (hahead : s.time.counter ≤ s.strobeTarget time) :
    (s.strobeFor k time).cycle ≤ s.strobeTarget time ∧ s.strobeTarget time < (s.strobeFor k time).cycle + s.time.inc :=
  lastInstant_spec hinc hahead

/-- The residual is the rounded distance of the target from the cycle named (R146). -/
theorem State.strobeFor_resid {s : State} {k time : Nat} (h : (s.strobeFor k time).cycle ≤ s.strobeTarget time) :
    (s.strobeFor k time).resid = (roundEven (s.strobeTarget time - (s.strobeFor k time).cycle : Nat) (2 ^ 33)).toNat := by
  rw [Int.ofNat_sub h]
  rfl

/-- Settles O47: the cycle is a quotient's, and less than an increment, which rounds to at most 128 τ, remains to the target. -/
theorem strobesNameTheLastCycle : Obligations.StrobesNameTheLastCycle := by
  intro s k time hinc hlimit hahead m target
  obtain ⟨hle, hlt⟩ : m.cycle ≤ target ∧ target < m.cycle + s.time.inc := State.strobeFor_cycle_spec k hinc (Nat.le_sub_of_add_le hahead)
  obtain ⟨habove, hbelow, htie⟩ := roundEven_toNat_nearest (target - m.cycle) (b := 2 ^ 33) (by decide)
  have hresid : m.resid = (roundEven (target - m.cycle : Nat) (2 ^ 33)).toNat := State.strobeFor_resid hle
  rw [← hresid] at habove hbelow htie
  exact ⟨rfl, rfl, ⟨_, rfl⟩, hle, hlt, by omega, habove, hbelow, htie⟩

end Sys2Proof.Machine

/-! SUPPORT. What changes do at their epoch. -/
namespace Sys2Proof.Machine

open Sys2Proof

/-- A change takes the effect that its opcode's entry gives it. -/
theorem applies_of_effect {op : BitVec 16} {ownGen : Bool} {effect : Nat → Bytes → State → State × Option (Nat × Nat × Bytes)} {e : Op}
    (hentry : opOf op = some e) (hgen : e.ownGen = ownGen) (heffect : ∀ ref p s, e.effect ref p s = effect ref p s) : Applies op ownGen effect := by
  intro s c hc
  rw [applies_of_entry hentry s c hc, hgen, heffect]

/-- Settles O16: each effect is that of the entry of its opcode. -/
theorem frontEndAndChainChangesApply : Obligations.FrontEndAndChainChangesApply := by
  unfold Obligations.FrontEndAndChainChangesApply
  and_intros
  all_goals exact applies_of_effect rfl rfl fun _ _ _ => rfl

/-- A change of the commands that share the time_ns rule of R96 takes the effect given, and config_gen is left to it. -/
theorem applies_of_timedOp {op : BitVec 16} {states : List HubState} {bcast : Bool} {more : State → Bool} {effect : Nat → Bytes → State → State × Option (Nat × Nat × Bytes)}
    (hentry : opOf op = some (timedOp states bcast more effect)) : Applies op true effect :=
  applies_of_entry hentry

/-- Settles O17: each effect is that of the entry of its opcode. -/
theorem streamAndHubChangesApply : Obligations.StreamAndHubChangesApply := by
  refine ⟨?streamEnable, ?streamRecord, ?streamFormat, ?feedConfig, ?feedChannel, ?run, ?stop, ?leave, ?pair, ?swap, ?calibration⟩
  case run => exact applies_of_timedOp (effect := effStateRun) rfl
  case stop => exact applies_of_timedOp (effect := effStateStop) rfl
  case leave => exact applies_of_timedOp (effect := effFabricLeave) rfl
  all_goals exact applies_of_effect rfl rfl fun _ _ _ => rfl

end Sys2Proof.Machine

/-! SUPPORT. What the commands of recipes, reductions and captures complete with. -/
namespace Sys2Proof.Machine

open Sys2Proof

/-- Settles O9: each answer is what the entry of its opcode gives. -/
theorem mashAndCaptureCommandsAnswer : Obligations.MashAndCaptureCommandsAnswer := by
  unfold Obligations.MashAndCaptureCommandsAnswer
  and_intros
  all_goals exact carries_of_entry (fun _ _ _ => rfl) rfl (fun _ _ => rfl)

end Sys2Proof.Machine

/-! SUPPORT. Rounding by a power of two, and the outputs of a fade (R171, R180). -/
namespace Sys2Proof.Machine

open Sys2Proof

/-- What lies between two multiples of the divisor rounds to no less and no more than they. -/
theorem roundEven_mem_bounds {a lo hi : Int} {b : Nat} (hb : 0 < b) (hlo : lo * b ≤ a) (hhi : a ≤ hi * b) : lo ≤ roundEven a b ∧ roundEven a b ≤ hi := by
  obtain ⟨habove, hbelow, -⟩ := roundEven_nearest a hb
  have hlow : (2 * lo) * (b : Int) ≤ (2 * roundEven a b + 1) * b := by
    rw [Int.mul_assoc, Int.add_mul, Int.one_mul, Int.mul_assoc]
    omega
  have hhigh : (2 * roundEven a b) * (b : Int) ≤ (2 * hi + 1) * b := by
    rw [Int.mul_assoc, Int.add_mul, Int.one_mul, Int.mul_assoc]
    omega
  have hlow' := Int.le_of_mul_le_mul_right hlow (by omega)
  have hhigh' := Int.le_of_mul_le_mul_right hhigh (by omega)
  omega

/-- A multiple of the divisor rounds to its quotient. -/
theorem roundEven_mul (a : Int) {b : Nat} (hb : 0 < b) : roundEven (a * b) b = a :=
  have ⟨hlo, hhi⟩ := roundEven_mem_bounds hb (Int.le_refl (a * b)) (Int.le_refl (a * b))
  Int.le_antisymm hhi hlo

/-- Rounding by a power of two is rounding of the quotient (R171). -/
theorem roundShift_eq_roundEven (a : Int) (n : Nat) : roundShift a n = roundEven a (2 ^ n) := by
  cases n with
  | zero =>
    have hone : roundEven a 1 = a := by simpa only [Int.natCast_one, Int.mul_one] using roundEven_mul a Nat.one_pos
    exact (if_pos rfl).trans hone.symm
  | succ n =>
    simp only [roundShift, roundEven, Int.natCast_pow]
    exact if_neg (Nat.succ_ne_zero n)

/-- What rounds to 24 bits does not saturate (R171). -/
theorem shiftRoundSat_of_fits {a : Int} {n : Nat} (hlo : -8388608 ≤ roundEven a (2 ^ n)) (hhi : roundEven a (2 ^ n) ≤ 8388607) :
    shiftRoundSat a n = (roundEven a (2 ^ n), false) := by
  simp only [shiftRoundSat, roundShift_eq_roundEven]
  rw [if_neg (by omega), if_neg (by omega)]

/-- A blend with a weight of at most 65,536 lies between the two values (R180). -/
theorem blend_mem_bounds (old new : Int) {w : Int} (hw : 0 ≤ w) (hw' : w ≤ 65536) :
    min old new * 65536 ≤ old * (65536 - w) + new * w ∧ old * (65536 - w) + new * w ≤ max old new * 65536 := by
  have hsplit (m : Int) : m * 65536 = m * (65536 - w) + m * w := by rw [← Int.mul_add, Int.sub_add_cancel]
  rw [hsplit, hsplit]
  have hrest : 0 ≤ 65536 - w := Int.sub_nonneg_of_le hw'
  exact ⟨Int.add_le_add (Int.mul_le_mul_of_nonneg_right (Int.min_le_left old new) hrest) (Int.mul_le_mul_of_nonneg_right (Int.min_le_right old new) hw),
    Int.add_le_add (Int.mul_le_mul_of_nonneg_right (Int.le_max_left old new) hrest) (Int.mul_le_mul_of_nonneg_right (Int.le_max_right old new) hw)⟩

/-- The weight of the i-th output of a fade of L, floor(i × 65,536 / L), is at most 65,536 (R180). -/
theorem fadeWeight_le {i len : Nat} (hi : i ≤ len) : i * 65536 / len ≤ 65536 :=
  Nat.div_le_of_le_mul (Nat.mul_le_mul_right 65536 hi)

/-- Settles O49: a blend lies between two 24-bit values, and so does what it rounds to; the last one is a multiple of 65,536. -/
theorem roundingAndFadesAreExact : Obligations.RoundingAndFadesAreExact := by
  refine ⟨fun a b hb => roundEven_nearest a hb, fun a n => ?saturation, ?fade⟩
  case saturation => simp only [shiftRoundSat, roundShift_eq_roundEven, gt_iff_lt]
  case fade =>
    intro old new i len hi hlen hold hold' hnew hnew' w y
    obtain ⟨hlow, hhigh⟩ := blend_mem_bounds old new (w := w) (Int.natCast_nonneg _) (Int.ofNat_le.mpr (fadeWeight_le hlen))
    obtain ⟨hmin, hmax⟩ := roundEven_mem_bounds (b := 2 ^ 16) (by decide) hlow hhigh
    have hround := shiftRoundSat_of_fits (by omega) (by omega) (a := old * (65536 - w) + new * w) (n := 16)
    have hy : y = roundEven (old * (65536 - w) + new * w) (2 ^ 16) := congrArg Prod.fst hround
    refine ⟨by rw [hy, hround], hy ▸ hmin, hy ▸ hmax, fun hlast => ?_⟩
    have hw : w = 65536 := by
      subst hlast
      exact congrArg Nat.cast (Nat.mul_div_cancel_left 65536 hi)
    rw [hy, hw, Int.sub_self, Int.mul_zero, Int.zero_add]
    exact roundEven_mul new (b := 2 ^ 16) (by decide)

end Sys2Proof.Machine

/-! SUPPORT. What the rows of the mash chain, captures, edges and measurement units do. -/
namespace Sys2Proof.Machine

open Sys2Proof

/-- A SCHEDULE term whose time has come advances once its group has decided (R218, R223). -/
theorem State.scheduleTime_of_decided {s : State} {g i n : Nat} (hnext : (Tbl.get {} (s.group g).terms i).next = some n) (hkind : (Tbl.get {} (s.group g).terms i).kind = 7)
    (hcome : n ≤ s.now) (hdecided : (s.decideTrigger g i 4 (n * 65536) {}).2 ≠ .waits) :
    s.scheduleTime g i = (s.decideTrigger g i 4 (n * 65536) {}).1.setGroup g (fun x => { x with terms := Tbl.modify {} x.terms i Term.advance }) := by
  have hdue : ¬((Tbl.get {} (s.group g).terms i).kind ≠ 7 ∨ s.now < n) := not_or.mpr ⟨Decidable.not_not.mpr hkind, Nat.not_lt.mpr hcome⟩
  rcases hd : s.decideTrigger g i 4 (n * 65536) {} with ⟨s', v⟩
  rw [hd] at hdecided
  cases v with
  | waits => exact absurd rfl hdecided
  | commit | ignored => simp only [State.scheduleTime, hnext, if_neg hdue, hd]

/-- None of what makes an edge stay outside holds at an input in service while samples run (R237). -/
theorem State.edgeArrives_guard {s : State} {i : Nat} (hi : i < 16) (hstandard : (s.edge i).standard ≠ 0) (hrun : s.running = true) :
    ¬(16 ≤ i ∨ (s.edge i).standard = 0 ∨ (!s.running) = true) := by
  simp [Nat.not_le.mpr hi, hstandard, hrun]

/-- Settles O20: each row is an event whose meaning, where the clause's conditions hold, takes the branch written out. -/
theorem chainCaptureAndEdgeRowsTakeEffect : Obligations.ChainCaptureAndEdgeRowsTakeEffect := by
  refine ⟨fun p x r => ?sample, ?feed, fun i tap => ?tap, fun w r => ?word, fun g => ?handover, fun g r rest => ?readout, fun i w => ?timed, fun g i n => ?schedule, fun m => ?fabricTrigger,
    fun i rising hi => ?edgeShort, fun i rising b hi => ?edgeTaken, fun i rising hi => ?edgeLost, fun i b code a1 a2 c2 inc rising => ?stamped, fun i b a1 a2 hi => ?pairRepeated,
    fun i st r => ?stampTaken, fun m => ?interval, fun m => ?gate⟩
  case sample =>
    refine takes_of_runEvent (fun _ _ => rfl) fun s _ _ ⟨hnext, hqueue⟩ => ?_
    simp [State.sampleArrival, State.passSample, hnext, hqueue]
  case feed => exact takes_of_runEvent (fun _ _ => rfl) fun _ _ _ _ => rfl
  case tap =>
    refine takes_of_runEvent (fun _ _ => rfl) fun s _ _ hfirst => ?_
    simp only [State.sampleArrival, hfirst]
  case word =>
    refine takes_of_runEvent (fun _ _ => rfl) fun s _ _ ⟨hnext, hqueue⟩ => ?_
    simp [State.captureNext, State.passWord, hnext, hqueue]
  case handover =>
    refine takes_of_runEvent (fun _ _ => rfl) fun s _ _ hauto => ?_
    simp [State.caskHandover, hauto]
  case readout =>
    refine takes_of_runEvent (fun _ _ => rfl) fun s _ _ ⟨hholds, hnext, hleft⟩ => ?_
    simp [State.caskHandover, hholds, hnext, hleft]
  case timed =>
    refine takes_of_runEvent (fun _ _ => rfl) fun s _ _ hentry => ?_
    unfold State.applyTimed
    split
    case h_1 hnone => cases hnone.symm.trans hentry
    case h_2 w' hw =>
      obtain rfl : w' = w := Option.some.inj (hw.symm.trans hentry)
      rfl
  case schedule =>
    exact takes_of_runEvent (fun _ _ => rfl) fun s _ _ ⟨hnext, hkind, hcome, hdecided⟩ => State.scheduleTime_of_decided hnext hkind hcome hdecided
  case fabricTrigger => exact takes_of_runEvent (fun _ _ => rfl) fun s _ _ hother => if_neg hother
  case edgeShort =>
    refine takes_of_runEvent (fun _ _ => rfl) fun s _ _ ⟨hstandard, hrun, hcount, hedge, hshort⟩ => ?_
    refine (if_neg (State.edgeArrives_guard hi hstandard hrun)).trans ?_
    simp [hedge, hcount, hshort]
  case edgeTaken =>
    refine takes_of_runEvent (fun _ _ => rfl) fun s _ _ ⟨hstandard, hrun, hcount, hpick⟩ => ?_
    refine (if_neg (State.edgeArrives_guard hi hstandard hrun)).trans ?_
    rw [if_neg (by simp [hcount]), if_neg (by omega)]
    simp only [hpick]
    rfl
  case edgeLost =>
    refine takes_of_runEvent (fun _ _ => rfl) fun s _ _ ⟨hstandard, hrun, hcount, hpick⟩ => ?_
    refine (if_neg (State.edgeArrives_guard hi hstandard hrun)).trans ?_
    rw [if_neg (by simp [hcount]), if_neg (by omega)]
    simp only [hpick]
    rfl
  case stamped =>
    refine takes_of_runEvent (fun _ _ => rfl) fun s _ _ hbusy => ?_
    simp only [State.stampEnd, hbusy]
    rfl
  case pairRepeated =>
    refine takes_of_runEvent (fun _ _ => rfl) fun s _ _ ⟨hstandard, hrun, hready, hidle, hfree, hsingle, hperiod⟩ => if_neg ?_
    simp [hi, hstandard, hrun, hready, hidle, hfree, hsingle, hperiod]
  case stampTaken =>
    refine takes_of_runEvent (fun _ _ => rfl) fun s _ _ ⟨hnext, hqueue⟩ => ?_
    simp [State.stampArrives, State.passStamp, hnext, hqueue]
  case interval =>
    exact takes_of_runEvent (fun _ _ => rfl) fun s _ _ ⟨hmode, hactive, htimeout, hcome⟩ => if_neg (by simp [hmode, hactive, htimeout, hcome])
  case gate =>
    exact takes_of_runEvent (fun _ _ => rfl) fun s _ _ ⟨hmode, hactive, hcome⟩ => if_neg (not_or.mpr ⟨Decidable.not_not.mpr hmode, not_or.mpr ⟨by simp [hactive], Nat.not_lt.mpr hcome⟩⟩)

end Sys2Proof.Machine

/-! SUPPORT. What the commands of EDGE inputs, measurement units and the kiln complete with. -/
namespace Sys2Proof.Machine

open Sys2Proof

/-- Settles O10: each answer is what the entry of its opcode gives (R262, R298); that of KILN_WORKSPACE, which waits while spilled words fill the memory, is the meaning under log 56. -/
theorem edgeAndKilnCommandsAnswer : Obligations.EdgeAndKilnCommandsAnswer := by
  unfold Obligations.EdgeAndKilnCommandsAnswer
  and_intros
  all_goals exact carries_of_entry (fun _ _ _ => rfl) rfl (fun _ _ => rfl)

end Sys2Proof.Machine

/-! SUPPORT. The bits and bytes of a block: streams of fields and coded residues read back (R275, R279), a number and its bytes, and the fields of the header (R274). -/
namespace Sys2Proof.Machine

open Sys2Proof

/-! ## Bit streams (R275) -/

/-- A bit stream whose value has no bit beyond its length. -/
def BitStream.Fits (b : BitStream) : Prop := b.1 < 2 ^ b.2

/-- A number that begins with the bits of a stream. -/
def BitStream.HeldBy (b : BitStream) (v : Nat) : Prop := v % 2 ^ b.2 = b.1

theorem BitStream.Fits.heldBy {b : BitStream} (h : b.Fits) : b.HeldBy b.1 := Nat.mod_eq_of_lt h

theorem BitStream.fits_empty : BitStream.Fits (0, 0) := Nat.one_pos

theorem BitStream.Fits.put {b : BitStream} (h : b.Fits) (x m : Nat) : (b.put x m).Fits := by
  have hx : x % 2 ^ m + 1 ≤ 2 ^ m := Nat.mod_lt _ (Nat.two_pow_pos m)
  calc b.1 + x % 2 ^ m * 2 ^ b.2 < (x % 2 ^ m + 1) * 2 ^ b.2 := by rw [Nat.succ_mul, Nat.add_comm]; exact Nat.add_lt_add_left h _
    _ ≤ 2 ^ m * 2 ^ b.2 := Nat.mul_le_mul_right _ hx
    _ = 2 ^ (b.2 + m) := by rw [Nat.pow_add, Nat.mul_comm]

/-- A field that was put reads back from its place, and what stood before it stays. -/
theorem BitStream.HeldBy.of_put {b : BitStream} {x m v : Nat} (hb : b.Fits) (h : (b.put x m).HeldBy v) :
    b.HeldBy v ∧ v / 2 ^ b.2 % 2 ^ m = x % 2 ^ m := by
  have hsplit : v % 2 ^ b.2 + 2 ^ b.2 * (v / 2 ^ b.2 % 2 ^ m) = b.1 + 2 ^ b.2 * (x % 2 ^ m) := by
    rw [← Nat.mod_mul, ← Nat.pow_add, Nat.mul_comm _ (x % 2 ^ m)]
    exact h
  have hpos := Nat.two_pow_pos b.2
  have hmod := congrArg (· % 2 ^ b.2) hsplit
  have hdiv := congrArg (· / 2 ^ b.2) hsplit
  simp only [Nat.add_mul_mod_self_left, Nat.mod_mod, Nat.mod_eq_of_lt hb] at hmod
  simp only [Nat.add_mul_div_left _ _ hpos, Nat.div_eq_of_lt (Nat.mod_lt v hpos), Nat.div_eq_of_lt hb, Nat.zero_add] at hdiv
  exact ⟨hmod, hdiv⟩

/-! ## Raw samples -/

theorem BitStream.Fits.putAll {w : Nat} (xs : List Int) {b : BitStream} (h : b.Fits) : (xs.foldl (fun b x => b.put (sampleBits w x) w) b).Fits :=
  List.foldlRecOn xs _ h fun _ hb _ _ => hb.put _ _

theorem BitStream.putAll_length (w : Nat) (xs : List Int) (b : BitStream) :
    (xs.foldl (fun b x => b.put (sampleBits w x) w) b).2 = b.2 + xs.length * w := by
  induction xs generalizing b with
  | nil => simp
  | cons x xs ih =>
    rw [List.foldl_cons, ih, List.length_cons, Nat.succ_mul, BitStream.put]
    omega

theorem sampleBits_lt (w : Nat) (x : Int) : sampleBits w x < 2 ^ w := by
  have hpos : (0 : Int) < (2 ^ w : Nat) := Int.natCast_pos.mpr (Nat.two_pow_pos w)
  exact (Int.toNat_lt' (Nat.two_pow_pos w)).mpr (Int.emod_lt_of_pos x hpos)

/-- Samples that were put one after another read back, and what stood before them stays. -/
theorem BitStream.HeldBy.of_putAll {w v : Nat} (xs : List Int) {b : BitStream} (hb : b.Fits) (h : (xs.foldl (fun b x => b.put (sampleBits w x) w) b).HeldBy v) :
    b.HeldBy v ∧ (List.range xs.length).map (fun i => v / 2 ^ (b.2 + i * w) % 2 ^ w) = xs.map (sampleBits w) := by
  induction xs generalizing b with
  | nil => exact ⟨h, rfl⟩
  | cons x xs ih =>
    obtain ⟨hfirst, hrest⟩ := ih (hb.put _ _) h
    obtain ⟨hbefore, hfield⟩ := hfirst.of_put hb
    refine ⟨hbefore, ?_⟩
    rw [List.length_cons, List.range_succ_eq_map, List.map_cons, List.map_map, List.map_cons, ← hrest]
    refine List.cons_eq_cons.mpr ⟨?head, List.map_congr_left fun i _ => ?tail⟩
    case head => rw [Nat.zero_mul, Nat.add_zero, hfield, Nat.mod_eq_of_lt (sampleBits_lt w x)]
    case tail =>
      have hplace : b.2 + (i + 1) * w = (b.put (sampleBits w x) w).2 + i * w := by rw [BitStream.put, Nat.succ_mul]; omega
      exact congrArg (fun j => v / 2 ^ j % 2 ^ w) hplace

/-! ## Coded residues (R279) -/

theorem onesFrom_eq {v q pos fuel : Nat} (hq : q ≤ fuel) (hones : ∀ j < q, v.testBit (pos + j) = true) (hend : q < fuel → v.testBit (pos + q) = false) :
    onesFrom v pos fuel = q := by
  induction fuel generalizing q pos with
  | zero => exact (Nat.le_zero.mp hq).symm
  | succ fuel ih =>
    cases q with
    | zero => exact if_neg (by simpa using hend (Nat.succ_pos fuel))
    | succ q =>
      have hshift (j : Nat) : pos + 1 + j = pos + (j + 1) := by omega
      have hrest : onesFrom v (pos + 1) fuel = q :=
        ih (Nat.le_of_succ_le_succ hq) (fun j hj => hshift j ▸ hones (j + 1) (Nat.succ_lt_succ hj)) (fun h => hshift q ▸ hend (Nat.succ_lt_succ h))
      exact (if_pos (hones 0 (Nat.succ_pos q))).trans (by rw [hrest, Nat.add_comm])

theorem testBit_of_field {v pos m x j : Nat} (h : v / 2 ^ pos % 2 ^ m = x) (hj : j < m) : v.testBit (pos + j) = x.testBit j := by
  rw [← h, Nat.testBit_mod_two_pow, Nat.testBit_div_two_pow, Nat.add_comm j pos]
  simp [hj]

/-- A field of q ones, and a zero unless there are as many as are counted, counts as q. -/
theorem onesFrom_of_field {v q pos fuel : Nat} (hq : q ≤ fuel) (h : v / 2 ^ pos % 2 ^ min (q + 1) fuel = 2 ^ q - 1) : onesFrom v pos fuel = q := by
  refine onesFrom_eq hq (fun j hj => ?_) (fun hlt => ?_)
  · rw [testBit_of_field h (by omega), Nat.testBit_two_pow_sub_one, decide_eq_true hj]
  · rw [testBit_of_field h (by omega), Nat.testBit_two_pow_sub_one, decide_eq_false (Nat.lt_irrefl q)]

theorem BitStream.rice_short {w k u : Nat} (hq : u / 2 ^ k < 24) (b : BitStream) :
    b.rice w k u = (b.put (2 ^ (u / 2 ^ k) - 1) (u / 2 ^ k + 1)).put u k := if_pos hq

theorem BitStream.rice_long {w k u : Nat} (hq : ¬u / 2 ^ k < 24) (b : BitStream) :
    b.rice w k u = (b.put (2 ^ 24 - 1) 24).put u (w + 3) := if_neg hq

theorem BitStream.rice_length (w k u : Nat) (b : BitStream) : (b.rice w k u).2 = b.2 + riceLength w k u := by
  unfold riceLength
  split
  case isTrue hq =>
    rw [BitStream.rice_short hq]
    exact Nat.add_assoc b.2 (u / 2 ^ k + 1) k
  case isFalse hq =>
    rw [BitStream.rice_long hq]
    exact Nat.add_assoc b.2 24 (w + 3)

theorem riceLength_pos (w k u : Nat) : 1 ≤ riceLength w k u := by
  unfold riceLength
  split
  · exact Nat.le_add_right_of_le (Nat.succ_pos _)
  · omega

theorem BitStream.Fits.rice {b : BitStream} (h : b.Fits) (w k u : Nat) : (b.rice w k u).Fits := by
  by_cases hq : u / 2 ^ k < 24
  · rw [BitStream.rice_short hq]
    exact (h.put _ _).put _ _
  · rw [BitStream.rice_long hq]
    exact (h.put _ _).put _ _

theorem readResidues_short {k v stop pos q : Nat} (hlt : pos < stop) (hcount : onesFrom v pos 24 = q) (hq : q < 24) (w n : Nat) :
    readResidues w k v stop (n + 1) pos =
      (readResidues w k v stop n (pos + q + 1 + k)).map (fun r => ((q * 2 ^ k + v / 2 ^ (pos + q + 1) % 2 ^ k) :: r.1, r.2)) := by
  simp [readResidues, Nat.not_le_of_lt hlt, hcount, hq]

theorem readResidues_long {v stop pos : Nat} (hlt : pos < stop) (hcount : onesFrom v pos 24 = 24) (w k n : Nat) :
    readResidues w k v stop (n + 1) pos =
      (readResidues w k v stop n (pos + 24 + w + 3)).map (fun r => ((v / 2 ^ (pos + 24) % 2 ^ (w + 3)) :: r.1, r.2)) := by
  simp [readResidues, Nat.not_le_of_lt hlt, hcount]

/-- A residue of at most w + 3 bits that was coded is the next one read, and what stood before it stays. -/
theorem BitStream.HeldBy.of_rice {w k u v stop : Nat} {b : BitStream} (hb : b.Fits) (hu : u < 2 ^ (w + 3)) (h : (b.rice w k u).HeldBy v) :
    b.HeldBy v ∧ (b.2 < stop → ∀ n, readResidues w k v stop (n + 1) b.2 = (readResidues w k v stop n (b.rice w k u).2).map (fun r => (u :: r.1, r.2))) := by
  by_cases hq : u / 2 ^ k < 24
  case pos =>
    rw [BitStream.rice_short hq] at h ⊢
    obtain ⟨hones, hlow⟩ := h.of_put (hb.put _ _)
    obtain ⟨hbefore, hunary⟩ := hones.of_put hb
    rw [Nat.mod_eq_of_lt (Nat.lt_of_lt_of_le (Nat.sub_lt (Nat.two_pow_pos _) Nat.one_pos) (Nat.pow_le_pow_right Nat.two_pos (Nat.le_succ _)))] at hunary
    have hcount : onesFrom v b.2 24 = u / 2 ^ k := onesFrom_of_field (Nat.le_of_lt hq) (by rw [Nat.min_eq_left (Nat.succ_le_of_lt hq)]; exact hunary)
    have hvalue : u / 2 ^ k * 2 ^ k + v / 2 ^ (b.2 + u / 2 ^ k + 1) % 2 ^ k = u :=
      (congrArg (u / 2 ^ k * 2 ^ k + ·) hlow).trans (Nat.div_add_mod' u (2 ^ k))
    refine ⟨hbefore, fun hlt n => ?_⟩
    rw [readResidues_short hlt hcount hq, hvalue]
    rfl
  case neg =>
    rw [BitStream.rice_long hq] at h ⊢
    obtain ⟨hones, hlow⟩ := h.of_put (hb.put _ _)
    obtain ⟨hbefore, hunary⟩ := hones.of_put hb
    have hcount : onesFrom v b.2 24 = 24 := onesFrom_of_field (Nat.le_refl 24) hunary
    have hvalue : v / 2 ^ (b.2 + 24) % 2 ^ (w + 3) = u := hlow.trans (Nat.mod_eq_of_lt hu)
    refine ⟨hbefore, fun hlt n => ?_⟩
    rw [readResidues_long hlt hcount, hvalue]
    rfl

theorem BitStream.Fits.riceAll {w k : Nat} (us : List Nat) {b : BitStream} (h : b.Fits) : (us.foldl (fun b u => b.rice w k u) b).Fits :=
  List.foldlRecOn us _ h fun _ hb _ _ => hb.rice _ _ _

theorem BitStream.riceAll_length (w k : Nat) (us : List Nat) (b : BitStream) :
    (us.foldl (fun b u => b.rice w k u) b).2 = b.2 + (us.map (riceLength w k)).sum := by
  induction us generalizing b with
  | nil => rfl
  | cons u us ih => rw [List.foldl_cons, ih, BitStream.rice_length, List.map_cons, List.sum_cons, Nat.add_assoc]

/-- Residues that were coded one after another read back, and what stood before them stays. -/
theorem BitStream.HeldBy.of_riceAll {w k v stop : Nat} (us : List Nat) {b : BitStream} (hb : b.Fits) (hus : ∀ u ∈ us, u < 2 ^ (w + 3))
    (h : (us.foldl (fun b u => b.rice w k u) b).HeldBy v) (hstop : (us.foldl (fun b u => b.rice w k u) b).2 ≤ stop) :
    b.HeldBy v ∧ readResidues w k v stop us.length b.2 = some (us, (us.foldl (fun b u => b.rice w k u) b).2) := by
  induction us generalizing b with
  | nil => exact ⟨h, if_pos hstop⟩
  | cons u us ih =>
    obtain ⟨hfirst, hrest⟩ := ih (hb.rice w k u) (fun x hx => hus x (List.mem_cons_of_mem u hx)) h hstop
    obtain ⟨hbefore, hread⟩ := hfirst.of_rice (stop := stop) hb (hus u List.mem_cons_self)
    have hlt : b.2 < stop := by
      have hlength := BitStream.riceAll_length w k (u :: us) b
      have hpos := riceLength_pos w k u
      rw [List.map_cons, List.sum_cons] at hlength
      omega
    refine ⟨hbefore, ?_⟩
    rw [List.length_cons, hread hlt, hrest]
    rfl

end Sys2Proof.Machine

/-! SUPPORT. Samples and residues: samples read back from their bits, residues from their mapped values, and samples from residues under the predictor they were formed with (R276, R279, R281). -/
namespace Sys2Proof.Machine

open Sys2Proof

/-! ## Samples of w bits -/

/-- A value in the range of w bits of two's complement. -/
def SampleFits (w : Nat) (x : Int) : Prop := -(2 ^ (w - 1) : Int) ≤ x ∧ x < (2 ^ (w - 1) : Int)

theorem samplesFit_iff {w : Nat} {xs : List Int} : samplesFit w xs = true ↔ ∀ x ∈ xs, SampleFits w x := by
  simp [samplesFit, SampleFits]

theorem sampleFits_zero (w : Nat) : SampleFits w 0 := by
  have hpos : (0 : Int) < 2 ^ (w - 1) := Int.pow_pos (by decide)
  exact ⟨by omega, hpos⟩

theorem sampleFits_getD {w : Nat} {xs : List Int} (h : ∀ x ∈ xs, SampleFits w x) (i : Nat) : SampleFits w (xs.getD i 0) := by
  rw [List.getD_eq_getElem?_getD]
  cases hi : xs[i]? with
  | none => exact sampleFits_zero w
  | some x => exact h x (List.mem_of_getElem? hi)

theorem sampleFits_headD {w : Nat} {xs : List Int} (h : ∀ x ∈ xs, SampleFits w x) : SampleFits w (xs.headD 0) := by
  cases xs with
  | nil => exact sampleFits_zero w
  | cons x xs => exact h x List.mem_cons_self

/-- The bits of a sample read as two's complement are the sample (R275). -/
theorem signed_sampleBits {w : Nat} (hw : 1 ≤ w) {x : Int} (h : SampleFits w x) : signed w (sampleBits w x) = x := by
  obtain ⟨m, rfl⟩ := Nat.exists_eq_add_of_le' hw
  obtain ⟨hlo, hhi⟩ := h
  have hdouble : ((2 ^ (m + 1) : Nat) : Int) = 2 * 2 ^ m := by rw [Int.natCast_pow, Int.pow_succ']; rfl
  have hhalf : ((2 ^ m : Nat) : Int) = 2 ^ m := Int.natCast_pow 2 m
  simp only [signed, sampleBits, Nat.add_sub_cancel, hdouble] at *
  by_cases hx : 0 ≤ x
  case pos =>
    rw [Int.emod_eq_of_lt hx (by omega), if_pos (by omega)]
    omega
  case neg =>
    rw [← Int.add_emod_right, Int.emod_eq_of_lt (by omega) (by omega), if_neg (by omega)]
    omega

/-! ## Mapped residues (R279) -/

theorem residueUnmap_residueMap (e : Int) : residueUnmap (residueMap e) = e := by
  unfold residueUnmap residueMap
  split <;> split <;> omega

theorem residueMap_lt {e : Int} {n : Nat} (h : e.natAbs < 2 ^ n) : residueMap e < 2 ^ (n + 1) := by
  unfold residueMap
  split <;> omega

/-! ## Predictors (R276) -/

/-- Only predictors 4 and up look at the reference, and only 5 at the reference sample before. -/
theorem predict_congr {p : Nat} {y y1 z z1 : Int} (hy : 4 ≤ p → y = z) (hy1 : 5 ≤ p → y1 = z1) (h : List Int) : predict p h y y1 = predict p h z z1 := by
  match p with
  | 0 | 1 | 2 | 3 => rfl
  | 4 => exact hy (Nat.le_refl 4)
  | p + 5 => rw [hy (by omega), hy1 (by omega)]

/-- The residue of a sample under a predictor has at most w + 2 bits beside its sign. -/
theorem residue_bound {w : Nat} (hw : 1 ≤ w) {x y y1 : Int} {h : List Int} (hx : SampleFits w x) (hh : ∀ a ∈ h, SampleFits w a) (hy : SampleFits w y)
    (hy1 : SampleFits w y1) (p : Nat) : (x - predict p h y y1).natAbs < 2 ^ (w + 2) := by
  obtain ⟨m, rfl⟩ := Nat.exists_eq_add_of_le' hw
  have ha := sampleFits_getD hh 0
  have hb := sampleFits_getD hh 1
  have hc := sampleFits_getD hh 2
  have hbound : 2 ^ (m + 1 + 2) = 8 * 2 ^ m := (Nat.pow_add 2 m 3).trans (Nat.mul_comm _ _)
  have hhalf : ((2 ^ m : Nat) : Int) = 2 ^ m := Int.natCast_pow 2 m
  simp only [SampleFits, Nat.add_sub_cancel, ← hhalf] at hx hy hy1 ha hb hc
  rw [hbound]
  match p with
  | 0 | 1 | 2 | 3 | 4 | p + 5 =>
    simp only [predict]
    omega

theorem residues_length (p : Nat) (xs ys h : List Int) (y1 : Int) : (residues p xs ys h y1).length = xs.length := by
  induction xs generalizing ys h y1 with
  | nil => rfl
  | cons x xs ih => exact congrArg Nat.succ (ih _ _ _)

theorem residues_bound {w : Nat} (hw : 1 ≤ w) (p : Nat) {xs ys h : List Int} {y1 : Int} (hxs : ∀ x ∈ xs, SampleFits w x) (hys : ∀ y ∈ ys, SampleFits w y)
    (hh : ∀ a ∈ h, SampleFits w a) (hy1 : SampleFits w y1) : ∀ e ∈ residues p xs ys h y1, e.natAbs < 2 ^ (w + 2) := by
  induction xs generalizing ys h y1 with
  | nil => exact fun e he => absurd he List.not_mem_nil
  | cons x xs ih =>
    obtain ⟨hx, hxs⟩ := List.forall_mem_cons.mp hxs
    refine List.forall_mem_cons.mpr ⟨residue_bound hw hx hh (sampleFits_headD hys) hy1 p, ?_⟩
    exact ih hxs (fun y hy => hys y (List.mem_of_mem_drop hy)) (fun a ha => List.forall_mem_cons.mpr ⟨hx, hh⟩ a (List.mem_of_mem_take ha)) (sampleFits_headD hys)

/-- Residues give back their samples, whatever stands for the reference samples that their predictor does not look at. -/
theorem rebuild_residues {p : Nat} {ys zs : List Int} {y1 z1 : Int} (hys : 4 ≤ p → ys = zs) (hy1 : 5 ≤ p → y1 = z1) (xs h : List Int) :
    rebuild p (residues p xs ys h y1) zs h z1 = xs := by
  induction xs generalizing ys zs h y1 z1 with
  | nil => rfl
  | cons x xs ih =>
    have hhead (hp : 4 ≤ p) : ys.headD 0 = zs.headD 0 := by rw [hys hp]
    have hx : x - predict p h (ys.headD 0) y1 + predict p h (zs.headD 0) z1 = x := by
      rw [predict_congr hhead hy1, Int.sub_add_cancel]
    simp only [residues, rebuild, hx]
    rw [ih (fun hp => by rw [hys hp]) (fun hp => hhead (Nat.le_of_succ_le hp))]

end Sys2Proof.Machine

/-! SUPPORT. The bytes of a block, its header and its body, and what the decoder makes of them once every check is passed (R274, R284, R288). -/
namespace Sys2Proof.Machine

open Sys2Proof

/-! ## Numbers and their bytes -/

theorem u64_le {v : Nat} (hv : v < 2 ^ 64) (r : Bytes) : u64 (le 8 v ++ r) 0 = v := by
  simp only [u64, u32, u16, u8, le, List.cons_append, Nat.zero_add, Nat.reduceAdd, List.getD_cons_zero, List.getD_cons_succ, BitVec.toNat_ofNat]
  omega

/-- The value of a number's bytes, as `decodeBlock` takes it of a body. -/
theorem foldr_le (n v : Nat) : (le n v).foldr (fun x acc => x.toNat + 256 * acc) 0 = v % 256 ^ n := by
  induction n generalizing v with
  | zero => exact (Nat.mod_one v).symm
  | succ n ih => exact (congrArg (v % 256 + 256 * ·) (ih (v / 256))).trans (by rw [Nat.pow_succ', Nat.mod_mul])

theorem slice_append (a b : Bytes) : slice (a ++ b) a.length b.length = b := by
  simp [slice]

/-! ## The CRC (R284) -/

theorem crcBit_lt {poly c : Nat} (hpoly : poly < 2 ^ 32) (hc : c < 2 ^ 32) : crcBit poly c < 2 ^ 32 := by
  have hhalf : c / 2 < 2 ^ 32 := Nat.lt_of_le_of_lt (Nat.div_le_self c 2) hc
  unfold crcBit
  split
  · exact Nat.xor_lt_two_pow hhalf hpoly
  · exact hhalf

theorem crcByte_lt {poly c : Nat} (hpoly : poly < 2 ^ 32) (hc : c < 2 ^ 32) (b : Byte) : crcByte poly c b < 2 ^ 32 := by
  have hb : b.toNat < 2 ^ 32 := Nat.lt_trans b.isLt (by decide)
  have hbits : c ^^^ b.toNat < 2 ^ 32 := Nat.xor_lt_two_pow hc hb
  unfold crcByte
  iterate 8 refine crcBit_lt hpoly ?_
  exact hbits

theorem crc32c_lt (b : Bytes) : crc32c b < 2 ^ 32 :=
  Nat.xor_lt_two_pow (List.foldlRecOn (motive := (· < 2 ^ 32)) b _ (by decide) fun _ hc x _ => crcByte_lt (by decide) hc x) (by decide)

/-! ## The header (R274) -/

/-- The header of a block: its CRC, words, samples less one, predictor, parameter, the bits fresh and ref, and the version. -/
def blockHeader (crc words n p k : Nat) (fresh ref : Bool) : Nat :=
  crc + 2 ^ 32 * words + 2 ^ 40 * n + 2 ^ 49 * p + 2 ^ 52 * k + 2 ^ 57 * (if fresh then 1 else 0) + 2 ^ 58 * (if ref then 1 else 0) + 2 ^ 60

/-- Header, then body. -/
theorem blockBytes_eq (xs : List Int) (p k : Nat) (fresh pair : Bool) (body : BitStream) :
    blockBytes xs p k fresh pair body =
      le 8 (blockHeader (samplesCrc xs) ((body.2 + 31) / 32 + 2) (xs.length - 1) p k fresh (pair && (p == 4 || p == 5))) ++ le (4 * ((body.2 + 31) / 32)) body.1 := rfl

section
variable {crc words n p k : Nat} {fresh ref : Bool}

/-- A flag is one bit. -/
theorem flag_lt (b : Bool) : (if b then 1 else 0) < 2 := by cases b <;> decide

theorem flag_eq_one (b : Bool) : decide ((if b then 1 else 0) = 1) = b := by cases b <;> rfl

/-- Each field of a header reads back (R274). -/
theorem blockHeader_fields (hcrc : crc < 2 ^ 32) (hwords : words < 256) (hn : n < 512) (hp : p < 8) (hk : k < 32) :
    let h := blockHeader crc words n p k fresh ref
    h < 2 ^ 64 ∧ h % 2 ^ 32 = crc ∧ h / 2 ^ 32 % 256 = words ∧ h / 2 ^ 40 % 512 = n ∧ h / 2 ^ 49 % 8 = p ∧ h / 2 ^ 52 % 32 = k ∧
    h.testBit 57 = fresh ∧ h.testBit 58 = ref ∧ h.testBit 59 = false ∧ h / 2 ^ 60 = 1 := by
  have hfresh := flag_lt fresh
  have href := flag_lt ref
  have hfresh' := flag_eq_one fresh
  have href' := flag_eq_one ref
  simp only [blockHeader, Nat.testBit_eq_decide_div_mod_eq]
  generalize (if fresh then 1 else 0) = f at *
  generalize (if ref then 1 else 0) = r at *
  refine ⟨?_, ?_, ?_, ?_, ?_, ?_, hfresh' ▸ decide_eq_decide.mpr ?_, href' ▸ decide_eq_decide.mpr ?_, decide_eq_false ?_, ?_⟩
  all_goals omega

end

/-! ## What the decoder makes of a block (R288) -/

/-- The fields of a body (mapped residues, or raw samples) and the place after them. -/
def blockFields (w p k : Nat) (fresh : Bool) (n v stop : Nat) : Option (List Nat × Nat) :=
  let first := if p ≠ 6 ∧ fresh then w else 0
  if p = 6 then (if n * w ≤ stop then some ((List.range n).map (fun i => v / 2 ^ (i * w) % 2 ^ w), n * w) else none)
  else if stop < first then none else readResidues w k v stop (if fresh then n - 1 else n) first

/-- The samples of a block from the fields of its body v, the history, and the reference samples. -/
def blockSamples (w p : Nat) (fresh : Bool) (v : Nat) (us : List Nat) (hist ys : List Int) (y1 : Int) : List Int :=
  let x0 := signed w (v % 2 ^ w)
  if p = 6 then us.map (signed w)
  else if fresh then x0 :: rebuild p (us.map residueUnmap) (ys.drop 1) [x0, x0, x0] (ys.headD 0)
  else rebuild p (us.map residueUnmap) ys hist y1

/-- The reference samples of a block of n, as far as they are given. -/
def refSamples (ref : Int → Option Int) (n : Nat) : List (Option Int) := (List.range n).map (fun (i : Nat) => ref (i : Int))

/-- Whether the reference samples that predictor p needs are given (check 10). -/
def RefsGiven (p n : Nat) (fresh : Bool) (ref : Int → Option Int) : Prop :=
  p = 4 ∨ p = 5 → (∀ i < n, (ref (i : Nat)).isNone = false) ∧ (p = 5 → fresh = false → (ref (-1)).isNone = false)

/-- Samples that a block can hold and that the decoder still expects (R274). -/
structure Blockable (w left : Nat) (xs : List Int) : Prop where
  width    : 1 ≤ w
  most     : w ≤ 24
  nonempty : 1 ≤ xs.length
  full     : xs.length ≤ 256
  expected : xs.length ≤ left
  fits     : samplesFit w xs = true

/-- A predictor, a parameter and a body, no longer than a raw one, with which samples can be laid out (R274, R275, R283). -/
structure Layout (w : Nat) (xs : List Int) (p k : Nat) (body : BitStream) : Prop where
  predictor : p ≤ 6
  parameter : k ≤ w + 2
  raw       : p = 6 → k = 0
  fits      : body.Fits
  bits      : 1 ≤ body.2
  limit     : body.2 ≤ xs.length * w

/-- The bytes of a block decode to its samples, to the end. -/
def DecodesTo (w left : Nat) (hist : List Int) (ref : Bool → Int → Option Int) (b : Bytes) (xs : List Int) (fresh : Bool) : Prop :=
  ∃ k : Block, decodeBlock w left (some hist) ref b = .ok k ∧ k.samples = xs ∧ k.fresh = fresh ∧ 4 * k.words = b.length

theorem length_blockBytes (xs : List Int) (p k : Nat) (fresh pair : Bool) (body : BitStream) :
    (blockBytes xs p k fresh pair body).length = 4 * ((body.2 + 31) / 32 + 2) := by
  rw [blockBytes_eq, List.length_append, le_length, le_length]
  omega

/-- The body of a block reads back: it is padded to whole words. -/
theorem body_blockBytes (xs : List Int) (p k : Nat) (fresh pair : Bool) {body : BitStream} (h : body.Fits) :
    (slice (blockBytes xs p k fresh pair body) 8 (4 * ((body.2 + 31) / 32))).foldr (fun x acc => x.toNat + 256 * acc) 0 = body.1 := by
  have hslice := slice_append (le 8 (blockHeader (samplesCrc xs) ((body.2 + 31) / 32 + 2) (xs.length - 1) p k fresh (pair && (p == 4 || p == 5)))) (le (4 * ((body.2 + 31) / 32)) body.1)
  rw [le_length, le_length] at hslice
  rw [blockBytes_eq, hslice, foldr_le]
  have hwhole : (256 : Nat) ^ (4 * ((body.2 + 31) / 32)) = 2 ^ (32 * ((body.2 + 31) / 32)) := by
    rw [show (256 : Nat) = 2 ^ 8 from rfl, ← Nat.pow_mul, ← Nat.mul_assoc]
  exact Nat.mod_eq_of_lt (Nat.lt_of_lt_of_le h (hwhole ▸ Nat.pow_le_pow_right Nat.two_pos (by omega)))

theorem RefsGiven.check {p n : Nat} {fresh : Bool} {ref : Int → Option Int} (h : RefsGiven p n fresh ref) :
    ¬((p = 4 ∨ p = 5) ∧ ((refSamples ref n).any Option.isNone = true ∨ (p = 5 ∧ (!fresh) = true ∧ (ref (-1)).isNone = true))) := by
  rintro ⟨hp, hmissing⟩
  obtain ⟨hall, hbefore⟩ := h hp
  rcases hmissing with hmissing | ⟨hp5, hcont, hmissing⟩
  case inl =>
    obtain ⟨y, hy, hnone⟩ := List.any_eq_true.mp hmissing
    obtain ⟨i, hi, rfl⟩ := List.mem_map.mp hy
    exact Bool.false_ne_true ((hall i (List.mem_range.mp hi)).symm.trans hnone)
  case inr => exact Bool.false_ne_true ((hbefore hp5 (by simpa using hcont)).symm.trans hmissing)

/-- A block whose fields and reference samples are there decodes to the samples they give, if these are the samples that it was laid out from. -/
theorem decodesTo_blockBytes {w left p k : Nat} {xs hist : List Int} {fresh pair : Bool} {body : BitStream} {us : List Nat} {ref : Bool → Int → Option Int}
    (hb : Blockable w left xs) (hl : Layout w xs p k body) (href : ∀ b, RefsGiven p xs.length fresh (ref b))
    (hfields : ∀ stop, body.2 ≤ stop → blockFields w p k fresh xs.length body.1 stop = some (us, body.2))
    (hsamples : ∀ b, blockSamples w p fresh body.1 us hist ((refSamples (ref b) xs.length).map (·.getD 0)) ((ref b (-1)).getD 0) = xs) :
    DecodesTo w left hist ref (blockBytes xs p k fresh pair body) xs fresh := by
  obtain ⟨-, hwidth, hsome, hfull, hleft, hfit⟩ := hb
  obtain ⟨hpred, hparam, hraw, hfits, hbits, hlimit⟩ := hl
  have hlimit : body.2 ≤ 256 * 24 := Nat.le_trans hlimit (Nat.mul_le_mul hfull hwidth)
  obtain ⟨hsize, hcrc, hwords, hn, hp, hk, hfresh, hrefBit, hreserved, hversion⟩ :=
    blockHeader_fields (crc := samplesCrc xs) (words := (body.2 + 31) / 32 + 2) (n := xs.length - 1) (p := p) (k := k) (fresh := fresh)
      (ref := pair && (p == 4 || p == 5)) (crc32c_lt _) (by omega) (by omega) (by omega) (by omega)
  have hhead := (congrArg (u64 · 0) (blockBytes_eq xs p k fresh pair body)).trans (u64_le hsize _)
  have hlength := length_blockBytes xs p k fresh pair body
  have hbody := body_blockBytes xs p k fresh pair hfits
  have hwhole : (body.2 + 31) / 32 + 2 - 2 = (body.2 + 31) / 32 := Nat.add_sub_cancel _ 2
  have hflags : ¬(false = true ∨ (pair && (p == 4 || p == 5)) = true ∧ p ≠ 4 ∧ p ≠ 5) := by
    rintro (h | ⟨h, h4, h5⟩)
    · cases h
    · simp [h4, h5] at h
  have hpadding : ¬(body.1 / 2 ^ body.2 ≠ 0 ∨ body.2 ≤ 32 * ((body.2 + 31) / 32) - 32) := by
    rw [Nat.div_eq_of_lt hfits]
    omega
  have hparsed := hfields (32 * ((body.2 + 31) / 32)) (by omega)
  have hgiven := (href (pair && (p == 4 || p == 5))).check
  have hrebuilt := hsamples (pair && (p == 4 || p == 5))
  simp only [blockFields] at hparsed
  simp only [refSamples] at hgiven
  simp only [blockSamples, refSamples] at hrebuilt
  refine ⟨{ samples := xs, words := (body.2 + 31) / 32 + 2, fresh }, ?_, rfl, rfl, hlength.symm⟩
  simp only [decodeBlock, hhead, hcrc, hwords, hn, hp, hk, hfresh, hrefBit, hreserved, hversion, hlength, hwhole, hbody, Nat.sub_add_cancel hsome]
  rw [if_neg (by omega), if_neg (not_not_intro rfl), if_neg hflags, if_neg (by omega), if_neg (by omega), if_neg (by omega), if_neg (by omega)]
  simp only [hparsed]
  rw [if_neg hpadding, if_neg hgiven, if_neg (by simp)]
  simp only [Option.getD_some, hrebuilt, hfit]
  exact (if_neg (by decide)).trans (if_neg (not_not_intro rfl))

end Sys2Proof.Machine

/-! SUPPORT. What the coder makes of a block: the choice of predictor and parameter, the body, and the raw block; each decodes to its samples (R281, R283, R288). -/
namespace Sys2Proof.Machine

open Sys2Proof

/-! ## The choice of predictor and parameter (R278, R283) -/

/-- A predictor with residues has the reference samples it looks at; a fresh block codes from its second sample (R278, R281). -/
theorem BlockContext.residuesOf_eq_some {c : BlockContext} {p : Nat} {xs es : List Int} (h : c.residuesOf p xs = some es) :
    (4 ≤ p → ∃ ys, c.ys = some ys) ∧ (5 ≤ p → c.fresh = false → ∃ y1, c.y1 = some y1) ∧
    es = if c.fresh then residues p (xs.drop 1) ((c.ys.getD []).drop 1) [xs.headD 0, xs.headD 0, xs.headD 0] ((c.ys.getD []).headD 0)
      else residues p xs (c.ys.getD []) c.hist (c.y1.getD 0) := by
  simp only [BlockContext.residuesOf] at h
  split at h
  case isTrue => cases h
  case isFalse hallowed =>
    have hallowed : p < 4 ∨ (c.ys.isSome = true ∧ (p = 4 ∨ c.fresh = true ∨ c.y1.isSome = true)) := by
      simpa [or_assoc, Option.isSome_iff_ne_none, Classical.or_iff_not_imp_left] using hallowed
    refine ⟨fun hp => ?reference, fun hp hcont => ?before, ?residues⟩
    case reference => exact Option.isSome_iff_exists.mp (hallowed.resolve_left (Nat.not_lt.mpr hp)).1
    case before =>
      obtain ⟨-, rfl | hfresh | hy1⟩ := hallowed.resolve_left (by omega)
      · omega
      · exact absurd (hcont.symm.trans hfresh) Bool.false_ne_true
      · exact Option.isSome_iff_exists.mp hy1
    case residues =>
      split at h
      case isTrue hfresh => exact (Option.some.inj h).symm.trans (if_pos hfresh).symm
      case isFalse hcont => exact (Option.some.inj h).symm.trans (if_neg hcont).symm

/-- A choice of one of the six predictors and of a parameter that its field allows, with the predictor's mapped residues and the length of the body that they make. -/
def Choice.Sound (w : Nat) (c : BlockContext) (xs : List Int) (best : Choice) : Prop :=
  ∀ n p k us, best = some (n, p, k, us) → p < 6 ∧ k < w + 3 ∧ (∃ es, c.residuesOf p xs = some es ∧ us = es.map residueMap) ∧
    n = (if c.fresh then w else 0) + (us.map (riceLength w k)).sum

theorem choose_sound (w mask : Nat) (c : BlockContext) (xs : List Int) : Choice.Sound w c xs (choose w mask c xs) := by
  refine List.foldlRecOn (motive := Choice.Sound w c xs) _ _ (fun _ _ _ _ h => by cases h) fun best hbest p hp => ?_
  split
  case h_1 => exact hbest
  case h_2 es hes =>
    have hp : p < 6 := List.mem_range.mp (List.mem_filter.mp hp).1
    refine List.foldlRecOn (motive := Choice.Sound w c xs) _ _ hbest fun best hbest k hk => ?_
    have hnew : Choice.Sound w c xs (some ((if c.fresh then w else 0) + ((es.map residueMap).map (riceLength w k)).sum, p, k, es.map residueMap)) := by
      intro n q j us h
      cases h
      exact ⟨hp, List.mem_range.mp hk, ⟨es, hes, rfl⟩, rfl⟩
    cases best with
    | none => exact hnew
    | some b => exact iteInduction (fun _ => hnew) (fun _ => hbest)

/-! ## Bodies (R275, R281) -/

/-- The bits of a block before its first coded residue: the first sample of a fresh block. -/
def blockStart (w : Nat) (fresh : Bool) (x0 : Int) : BitStream := if fresh then BitStream.put (0, 0) (sampleBits w x0) w else (0, 0)

theorem blockStart_length (w : Nat) (fresh : Bool) (x0 : Int) : (blockStart w fresh x0).2 = if fresh then w else 0 := by
  cases fresh
  · rfl
  · exact Nat.zero_add w

theorem blockStart_fits (w : Nat) (fresh : Bool) (x0 : Int) : (blockStart w fresh x0).Fits := by
  cases fresh
  · exact BitStream.fits_empty
  · exact BitStream.fits_empty.put _ _

/-- The first sample of a fresh block reads back. -/
theorem sampleBits_of_blockStart {w v : Nat} {x0 : Int} (h : (blockStart w true x0).HeldBy v) : v % 2 ^ w = sampleBits w x0 := by
  obtain ⟨-, hfield⟩ := BitStream.HeldBy.of_put BitStream.fits_empty h
  rwa [Nat.pow_zero, Nat.div_one, Nat.mod_eq_of_lt (sampleBits_lt w x0)] at hfield

/-- The body of a block of coded residues. -/
def codedBody (w k : Nat) (fresh : Bool) (x0 : Int) (us : List Nat) : BitStream := us.foldl (fun b u => b.rice w k u) (blockStart w fresh x0)

theorem codedBody_fits (w k : Nat) (fresh : Bool) (x0 : Int) (us : List Nat) : (codedBody w k fresh x0 us).Fits :=
  (blockStart_fits w fresh x0).riceAll us

theorem codedBody_length (w k : Nat) (fresh : Bool) (x0 : Int) (us : List Nat) :
    (codedBody w k fresh x0 us).2 = (if fresh then w else 0) + (us.map (riceLength w k)).sum := by
  rw [codedBody, BitStream.riceAll_length, blockStart_length]

theorem length_le_sum_riceLength (w k : Nat) (us : List Nat) : us.length ≤ (us.map (riceLength w k)).sum := by
  induction us with
  | nil => exact Nat.le_refl 0
  | cons u us ih =>
    rw [List.length_cons, List.map_cons, List.sum_cons, Nat.add_comm]
    exact Nat.add_le_add (riceLength_pos w k u) ih

/-- A block is raw, or it is what the choice gives and shorter than raw (R283). -/
theorem codeBlock_cases (w mask : Nat) (pair : Bool) (c : BlockContext) (xs : List Int) :
    (codeBlock w mask pair c xs).1 = rawBlock w xs c.fresh ∨
    ∃ n p k us, choose w mask c xs = some (n, p, k, us) ∧ n < xs.length * w ∧
      (codeBlock w mask pair c xs).1 = blockBytes xs p k c.fresh pair (codedBody w k c.fresh (xs.headD 0) us) := by
  unfold codeBlock
  split
  case h_1 n p k us hchoice =>
    by_cases hn : n < xs.length * w
    · exact .inr ⟨n, p, k, us, hchoice, hn, congrArg Prod.fst (if_pos hn)⟩
    · exact .inl (congrArg Prod.fst (if_neg hn))
  case h_2 => exact .inl rfl

/-- The fields of a body of coded residues are the residues. -/
theorem blockFields_codedBody {w p k n stop : Nat} {fresh : Bool} {x0 : Int} {us : List Nat} (hp : p ≠ 6) (hcount : us.length = if fresh then n - 1 else n)
    (hus : ∀ u ∈ us, u < 2 ^ (w + 3)) (hstop : (codedBody w k fresh x0 us).2 ≤ stop) :
    blockFields w p k fresh n (codedBody w k fresh x0 us).1 stop = some (us, (codedBody w k fresh x0 us).2) := by
  have hheld := (codedBody_fits w k fresh x0 us).heldBy
  have hlength := codedBody_length w k fresh x0 us
  obtain ⟨-, hread⟩ := hheld.of_riceAll us (blockStart_fits w fresh x0) hus hstop
  rw [blockStart_length] at hread
  have hfirst : (if p ≠ 6 ∧ fresh = true then w else 0) = if fresh then w else 0 := by simp [hp]
  simp only [blockFields, hfirst, if_neg hp, ← hcount]
  rw [if_neg (by omega)]
  exact hread

/-! ## The reference samples -/

/-- The history and the reference samples that a coder used for a block of n samples, and that a decoder is given. -/
structure BlockContext.Given (w n : Nat) (c : BlockContext) (ref : Int → Option Int) : Prop where
  hist : ∀ a ∈ c.hist, SampleFits w a
  ys   : ∀ ys, c.ys = some ys → ys.length = n ∧ (∀ y ∈ ys, SampleFits w y) ∧ ∀ i : Nat, i < n → ref i = ys[i]?
  y1   : ∀ y, c.y1 = some y → SampleFits w y ∧ ref (-1) = some y

section
variable {w n p : Nat} {c : BlockContext} {ref : Int → Option Int} {xs es : List Int}

theorem BlockContext.Given.refSamples_eq (h : c.Given w n ref) {ys : List Int} (hys : c.ys = some ys) : refSamples ref n = ys.map some := by
  obtain ⟨rfl, -, hvalue⟩ := h.ys ys hys
  refine List.ext_getElem (by simp [refSamples]) fun i hi _ => ?_
  have hi : i < ys.length := by simpa [refSamples] using hi
  simp [refSamples, hvalue i hi]

theorem BlockContext.Given.ys_fit (h : c.Given w n ref) : ∀ y ∈ c.ys.getD [], SampleFits w y := by
  cases hys : c.ys with
  | none => exact fun y hy => absurd hy List.not_mem_nil
  | some ys => exact (h.ys ys hys).2.1

theorem BlockContext.Given.y1_fits (h : c.Given w n ref) : SampleFits w (c.y1.getD 0) := by
  cases hy1 : c.y1 with
  | none => exact sampleFits_zero w
  | some y => exact (h.y1 y hy1).1

/-- A predictor that looks at the reference finds the samples that the coder used. -/
theorem BlockContext.Given.ys_eq (h : c.Given w n ref) (hes : c.residuesOf p xs = some es) (hp : 4 ≤ p) :
    c.ys.getD [] = (refSamples ref n).map (·.getD 0) := by
  obtain ⟨hreference, -⟩ := BlockContext.residuesOf_eq_some hes
  obtain ⟨ys, hys⟩ := hreference hp
  rw [h.refSamples_eq hys, hys, List.map_map]
  exact (List.map_id ys).symm

theorem BlockContext.Given.y1_eq (h : c.Given w n ref) (hes : c.residuesOf p xs = some es) (hcont : c.fresh = false) (hp : 5 ≤ p) :
    c.y1.getD 0 = (ref (-1)).getD 0 := by
  obtain ⟨-, hbefore, -⟩ := BlockContext.residuesOf_eq_some hes
  obtain ⟨y, hy⟩ := hbefore hp hcont
  rw [hy, (h.y1 y hy).2]

/-- What R278 asks of the coder is what check 10 asks of the decoder. -/
theorem BlockContext.Given.refsGiven (h : c.Given w n ref) (hes : c.residuesOf p xs = some es) : RefsGiven p n c.fresh ref := by
  obtain ⟨hreference, hbefore, -⟩ := BlockContext.residuesOf_eq_some hes
  refine fun hp => ⟨fun i hi => ?block, fun hp5 hcont => ?before⟩
  case block =>
    obtain ⟨ys, hys⟩ := hreference (by omega)
    obtain ⟨rfl, -, hvalue⟩ := h.ys ys hys
    rw [hvalue i hi, List.getElem?_eq_getElem hi]
    rfl
  case before =>
    obtain ⟨y, hy⟩ := hbefore (Nat.le_of_eq hp5.symm) hcont
    rw [(h.y1 y hy).2]
    rfl

/-- The mapped residues of a block's samples have at most w + 3 bits. -/
theorem BlockContext.Given.mapped_lt (h : c.Given w n ref) (hw : 1 ≤ w) (hxs : ∀ x ∈ xs, SampleFits w x) (hes : c.residuesOf p xs = some es) :
    ∀ u ∈ es.map residueMap, u < 2 ^ (w + 3) := by
  have hfirst := sampleFits_headD hxs
  obtain ⟨-, -, rfl⟩ := BlockContext.residuesOf_eq_some hes
  refine List.forall_mem_map.mpr fun e he => residueMap_lt ?_
  split at he
  case isTrue =>
    exact residues_bound hw p (fun x hx => hxs x (List.mem_of_mem_drop hx)) (fun y hy => h.ys_fit y (List.mem_of_mem_drop hy))
      (List.forall_mem_cons.mpr ⟨hfirst, List.forall_mem_cons.mpr ⟨hfirst, List.forall_mem_singleton.mpr hfirst⟩⟩)
      (sampleFits_headD h.ys_fit) e he
  case isFalse => exact residues_bound hw p hxs h.ys_fit h.hist h.y1_fits e he

theorem BlockContext.residuesOf_length (hes : c.residuesOf p xs = some es) : es.length = if c.fresh then xs.length - 1 else xs.length := by
  obtain ⟨-, -, rfl⟩ := BlockContext.residuesOf_eq_some hes
  split
  · rw [residues_length, List.length_drop]
  · rw [residues_length]

/-- The residues of a block give back its samples. -/
theorem BlockContext.Given.blockSamples_eq (h : c.Given w n ref) (hw : 1 ≤ w) (hxs : ∀ x ∈ xs, SampleFits w x) (hsome : 1 ≤ xs.length) (hp : p ≠ 6)
    (hes : c.residuesOf p xs = some es) {v : Nat} (hv : (blockStart w c.fresh (xs.headD 0)).HeldBy v) :
    blockSamples w p c.fresh v (es.map residueMap) c.hist ((refSamples ref n).map (·.getD 0)) ((ref (-1)).getD 0) = xs := by
  have hys := h.ys_eq hes
  have hunmap : (es.map residueMap).map residueUnmap = es := by
    rw [List.map_map]
    exact (List.map_congr_left fun e _ => residueUnmap_residueMap e).trans (List.map_id es)
  obtain ⟨-, -, hform⟩ := BlockContext.residuesOf_eq_some hes
  simp only [blockSamples, if_neg hp, hunmap]
  cases hfresh : c.fresh with
  | false =>
    rw [hfresh] at hform
    subst hform
    exact rebuild_residues hys (h.y1_eq hes hfresh) xs c.hist
  | true =>
    rw [hfresh] at hform hv
    subst hform
    have hx0 : signed w (v % 2 ^ w) = xs.headD 0 := by rw [sampleBits_of_blockStart hv, signed_sampleBits hw (sampleFits_headD hxs)]
    obtain ⟨x, rest, rfl⟩ := List.exists_cons_of_length_pos hsome
    rw [hx0]
    exact congrArg (x :: ·) (rebuild_residues (fun hp => by rw [hys hp]) (fun hp => by rw [hys (Nat.le_of_succ_le hp)]) rest [x, x, x])

end

/-! ## Every block decodes (R288) -/

section
variable {w left : Nat} {xs : List Int} {ref : Bool → Int → Option Int}

/-- A raw block decodes to its samples. -/
theorem decodesTo_rawBlock (hb : Blockable w left xs) (hist : List Int) (fresh : Bool) : DecodesTo w left hist ref (rawBlock w xs fresh) xs fresh := by
  have hlength := BitStream.putAll_length w xs (0, 0)
  have hfits := BitStream.fits_empty.putAll (w := w) xs
  obtain ⟨-, hbits⟩ := hfits.heldBy.of_putAll xs BitStream.fits_empty
  simp only [Nat.zero_add] at hlength hbits
  have hlayout : Layout w xs 6 0 (xs.foldl (fun b x => b.put (sampleBits w x) w) (0, 0)) :=
    { predictor := Nat.le_refl 6, parameter := Nat.zero_le _, raw := fun _ => rfl, fits := hfits, bits := hlength ▸ Nat.mul_pos hb.nonempty hb.width, limit := Nat.le_of_eq hlength }
  have hsamples : (xs.map (sampleBits w)).map (signed w) = xs := by
    rw [List.map_map]
    exact (List.map_congr_left fun x hx => signed_sampleBits hb.width (samplesFit_iff.mp hb.fits x hx)).trans (List.map_id xs)
  refine decodesTo_blockBytes (us := xs.map (sampleBits w)) hb hlayout (fun _ h => absurd h (by decide)) (fun stop hstop => ?_) (fun _ => hsamples)
  rw [hlength] at hstop ⊢
  simp only [blockFields, if_pos, if_pos hstop, hbits]

/-- A block of coded residues that is shorter than raw decodes to its samples. -/
theorem decodesTo_codedBody {c : BlockContext} {mask n p k : Nat} {us : List Nat} (hb : Blockable w left xs) (hgiven : ∀ b, c.Given w xs.length (ref b))
    (hchoice : choose w mask c xs = some (n, p, k, us)) (hn : n < xs.length * w) (pair : Bool) :
    DecodesTo w left c.hist ref (blockBytes xs p k c.fresh pair (codedBody w k c.fresh (xs.headD 0) us)) xs c.fresh := by
  obtain ⟨hp, hk, ⟨es, hes, rfl⟩, hbody⟩ := choose_sound w mask c xs n p k us hchoice
  have hp6 : p ≠ 6 := Nat.ne_of_lt hp
  have hfit := samplesFit_iff.mp hb.fits
  have hcount : (es.map residueMap).length = if c.fresh then xs.length - 1 else xs.length := by rw [List.length_map, BlockContext.residuesOf_length hes]
  have hlength := (codedBody_length w k c.fresh (xs.headD 0) (es.map residueMap)).trans hbody.symm
  have hbits : 1 ≤ n := by
    have hsum := length_le_sum_riceLength w k (es.map residueMap)
    rw [hcount] at hsum
    rw [hbody]
    split at hsum
    case isTrue hfresh => rw [if_pos hfresh]; exact Nat.le_add_right_of_le hb.width
    case isFalse hcont => exact Nat.le_add_left_of_le (Nat.le_trans hb.nonempty hsum)
  have hfits := codedBody_fits w k c.fresh (xs.headD 0) (es.map residueMap)
  have hlayout : Layout w xs p k (codedBody w k c.fresh (xs.headD 0) (es.map residueMap)) :=
    { predictor := Nat.le_of_lt hp, parameter := Nat.le_of_lt_succ hk, raw := fun h => absurd h hp6, fits := hfits, bits := hlength ▸ hbits,
      limit := hlength ▸ Nat.le_of_lt hn }
  have hus := (hgiven true).mapped_lt hb.width hfit hes
  obtain ⟨hstart, -⟩ := hfits.heldBy.of_riceAll (stop := n) _ (blockStart_fits w c.fresh (xs.headD 0)) hus (Nat.le_of_eq hlength)
  exact decodesTo_blockBytes hb hlayout (fun b => (hgiven b).refsGiven hes) (fun stop hstop => blockFields_codedBody hp6 hcount hus hstop)
    (fun b => (hgiven b).blockSamples_eq hb.width hfit hb.nonempty hp6 hes hstart)

end

/-- Settles O50: a raw block reads back bit by bit, and one of coded residues by the predictor that it names. -/
theorem codedBlocksDecodeToTheirSamples : Obligations.CodedBlocksDecodeToTheirSamples := by
  intro w mask left pair c xs ref hw hsome hfull hleft hxs _ hhist hys hy1
  have hblock : Blockable w left xs :=
    { width := by omega, most := by omega, nonempty := hsome, full := hfull, expected := hleft, fits := hxs }
  have hgiven (b : Bool) : c.Given w xs.length (ref b) :=
    { hist := samplesFit_iff.mp hhist
      ys := fun ys h => have ⟨hlength, hfit, hvalue⟩ := hys ys h; ⟨hlength, samplesFit_iff.mp hfit, hvalue b⟩
      y1 := fun y h => have ⟨hfit, hvalue⟩ := hy1 y h; ⟨samplesFit_iff.mp hfit y List.mem_cons_self, hvalue b⟩ }
  rcases codeBlock_cases w mask pair c xs with hraw | ⟨n, p, k, us, hchoice, hshort, hcoded⟩
  case inl =>
    rw [hraw]
    exact decodesTo_rawBlock hblock c.hist c.fresh
  case inr =>
    rw [hcoded]
    exact decodesTo_codedBody hblock hgiven hchoice hshort pair

end Sys2Proof.Machine

/-! SUPPORT. What the commands of streams and the feed port complete with. -/
namespace Sys2Proof.Machine

open Sys2Proof

/-- Settles O11: each answer is what the entry of its opcode gives (R340); that a gang lead passes on a STREAM_ACK which names the partner's streams (R452, R453) is the meaning under log 88. -/
theorem streamCommandsAnswer : Obligations.StreamCommandsAnswer := by
  unfold Obligations.StreamCommandsAnswer
  and_intros
  all_goals exact carries_of_entry (fun _ _ _ => rfl) rfl (fun _ _ => rfl)

end Sys2Proof.Machine

/-! SUPPORT. What the rows of records, streams, the kiln and the feed port do. -/
namespace Sys2Proof.Machine

open Sys2Proof

/-- The first entry of an open EVENT stream leaves those that arose: into the record where its bytes find room, or else dropped and missed (R320). -/
theorem State.placeEvent_of_open {s : State} {e : EventEntry} (hnext : s.streams.arisen.find? (fun e => (s.stream (streamKey 6 e.cls)).isOpen) = some e) :
    s.placeEvent =
      if 24 + (if (s.stream (streamKey 6 e.cls)).current.isSome then 0 else 32) ≤ State.eventRoom { s with streams := { s.streams with arisen := s.streams.arisen.erase e } } then
        State.addUnit { s with streams := { s.streams with arisen := s.streams.arisen.erase e } } (streamKey 6 e.cls) irregular e.time 0 0 none e.bytes
      else
        State.miss { s with streams := { s.streams with arisen := s.streams.arisen.erase e, eventsDropped := sat 32 (s.streams.eventsDropped + 1), eventDrops := Tbl.bump 32 s.streams.eventDrops e.cls } } (streamKey 6 e.cls)
          { count := 1, index := irregular, first := e.time / 65536, last := e.time, reason := 13, unit := 2 } := by
  simp only [State.placeEvent, hnext]
  rfl

/-- While the port is enabled and in watermark mode, neither of what makes `State.feedWatermark` stand holds (R337). -/
theorem Feed.watermark_guard {f : Feed} (henabled : f.enabled = true) (hcredit : f.credit = false) : ¬((!f.enabled) = true ∨ f.credit = true) := by
  simp [henabled, hcredit]

/-- While a job runs, neither of what makes `State.jobBlock` stand holds (R296). -/
theorem Job.block_guard {j : Job} (hstate : j.state = 1) (hrun : j.running = true) : ¬(j.state ≠ 1 ∨ (!j.running) = true) := by
  simp [hstate, hrun]

/-- Settles O21: each row is an event whose meaning, where the clause's conditions hold, takes the branch written out; the free value that a plain tap record draws (logs 9 and 56) and the bytes of a feed row (log 63) are the model's readings. -/
theorem streamKilnAndFeedRowsTakeEffect : Obligations.StreamKilnAndFeedRowsTakeEffect := by
  refine ⟨fun key => ?latency, fun r => ?admission, fun key g => ?gap, fun e => ?eventPlaced, fun e => ?eventDropped, ?send, fun o r => ?drain,
    fun lane bad i r mask refSet refresh hlane => ?code, fun i b r => ?tapHole, fun i b r => ?tapPlain, ?compress, ?decompress,
    fun item => ?item, fun item => ?sync, fun bytes => ?cut, ?hold, ?resume, ?credit⟩
  case latency => exact takes_of_runEvent (fun _ _ => rfl) fun s _ _ hdue => if_pos hdue
  case admission =>
    refine takes_of_runEvent (fun _ _ => rfl) fun s _ _ ⟨hadmits, hnext⟩ => ?_
    simp [State.admitNext, hadmits, hnext]
  case gap =>
    refine takes_of_runEvent (fun _ _ => rfl) fun s _ _ ⟨hpending, hadmits, hhub, htime, hwaiting⟩ => ?_
    simp [State.gapTimeout, hpending, hadmits, hhub, htime, hwaiting]
  case eventPlaced => exact takes_of_runEvent (fun _ _ => rfl) fun s _ _ ⟨hnext, hroom⟩ => (State.placeEvent_of_open hnext).trans (if_pos hroom)
  case eventDropped => exact takes_of_runEvent (fun _ _ => rfl) fun s _ _ ⟨hnext, hfull⟩ => (State.placeEvent_of_open hnext).trans (if_neg (Nat.not_le.mpr hfull))
  case send => exact takes_of_runEvent (fun _ _ => rfl) fun _ _ _ _ => rfl
  case drain =>
    refine takes_of_runEvent (fun _ _ => rfl) fun s _ _ ⟨hspill, hroom⟩ => ?_
    simp only [State.spillDrain, hspill]
    exact if_neg (Nat.not_lt.mpr hroom)
  case code =>
    refine takes_of_runEvent (fun _ _ => rfl) fun s _ _ ⟨hnext, hat, hcoder, hlanes, hfree⟩ => ?_
    have hcoded : (decide (s.kiln.lanesOut.length < 4) && (r.coder.isSome || s.coded r.key)) = true := by simp [hlanes, hcoder]
    have hlaneIn : ¬(4 ≤ lane ∨ s.kiln.lanesOut.contains lane = true) := by simp [hlane, hfree]
    simp only [State.codeRecord, hnext, hat]
    rw [if_neg (by rw [hcoded]; decide), if_neg hlaneIn]
    simp only [hcoder]
    rfl
  case tapHole =>
    refine takes_of_runEvent (fun _ _ => rfl) fun s _ _ ⟨hnext, hkind⟩ => ?_
    simp [State.tapDecode, hnext, hkind]
  case tapPlain =>
    refine takes_of_runEvent (fun _ _ => rfl) fun s _ _ ⟨hnext, hkind, hrate, hchan⟩ => ?_
    simp only [State.tapDecode, hnext, hkind]
    rw [if_neg (by decide), if_neg (by decide), if_neg (by simp [hrate, hchan])]
    simp
  case compress => exact takes_of_runEvent (fun _ _ => rfl) fun s _ _ ⟨hstate, hrun, hmode⟩ => (if_neg (Job.block_guard hstate hrun)).trans (if_pos hmode)
  case decompress => exact takes_of_runEvent (fun _ _ => rfl) fun s _ _ ⟨hstate, hrun, hmode⟩ => (if_neg (Job.block_guard hstate hrun)).trans (if_neg hmode)
  case item => exact takes_of_runEvent (fun _ _ => rfl) fun _ _ _ _ => rfl
  case sync => exact takes_of_runEvent (fun _ _ => rfl) fun _ _ _ _ => rfl
  case cut => exact takes_of_runEvent (fun _ _ => rfl) fun s _ _ henabled => if_neg (by simp [henabled])
  case hold =>
    exact takes_of_runEvent (fun _ _ => rfl) fun s _ _ ⟨henabled, hcredit, hhigh, hready⟩ => (if_neg (Feed.watermark_guard henabled hcredit)).trans (if_pos ⟨hhigh, hready⟩)
  case resume =>
    exact takes_of_runEvent (fun _ _ => rfl) fun s _ _ ⟨henabled, hcredit, hbelow, hlow⟩ =>
      (if_neg (Feed.watermark_guard henabled hcredit)).trans ((if_neg fun h => Nat.not_le.mpr hbelow h.1).trans (if_pos hlow))
  case credit => exact takes_of_runEvent (fun _ _ => rfl) fun s _ _ hdue => if_pos hdue

end Sys2Proof.Machine

/-! SUPPORT. What the commands of lanes and the fabric complete with. -/
namespace Sys2Proof.Machine

open Sys2Proof

/-- Settles O12: each answer is what the entry of its opcode gives (R366, R398). When LANE_SET_RATES, LANE_RETRAIN and LANE_PORT_ENABLE bring a port to train (log 67), that the eye estimates of LANE_GET_EQ are free values (log 68), and how FABRIC_LEAVE and FABRIC_REJOIN go on (logs 71 and 77) are the model's readings. -/
theorem laneAndFabricCommandsAnswer : Obligations.LaneAndFabricCommandsAnswer := by
  unfold Obligations.LaneAndFabricCommandsAnswer
  and_intros
  all_goals exact carries_of_entry (fun _ _ _ => rfl) rfl (fun _ _ => rfl)

end Sys2Proof.Machine

/-! SUPPORT. What the rows of lanes and training do. -/
namespace Sys2Proof.Machine

open Sys2Proof

/-- Once BOOT is over, none of what makes `State.trainingAdvance` stand holds at a port whose training is granted and waits for no restart (R355, R359). -/
theorem State.trainingAdvance_guard {s : State} {p : Port} (hreset : s.sys.hub ≠ .reset) (hboot : s.sys.hub ≠ .boot) (hwait : (s.port p).waitFrom = none) (hgrant : (s.port p).granted = true) :
    ¬(s.sys.hub = .reset ∨ s.sys.hub = .boot ∨ (s.port p).waitFrom.isSome = true ∨ (!(s.port p).granted) = true) := by
  simp [hreset, hboot, hwait, hgrant]

/-- Once BOOT is over, none of what makes `State.detector` stand holds at a lane that the port has (R361). -/
theorem State.detector_guard {s : State} {p : Port} {i : Nat} (hlane : i < laneCount p) (hreset : s.sys.hub ≠ .reset) (hboot : s.sys.hub ≠ .boot) :
    ¬(laneCount p ≤ i ∨ s.sys.hub = .reset ∨ s.sys.hub = .boot) := by
  simp [hlane, hreset, hboot]

/-- Where the time of VERIFY is over, none of what makes `State.verifyEnd` stand holds, whichever lanes have passed (R357). -/
theorem LanePort.verify_guard {x : LanePort} {now : Nat} {passed : Prop} (hstate : x.state = 2) (hstep : x.step = 8) (hgrant : x.granted = true) (htime : x.stepAt + verifyNs x.rate ≤ now) :
    ¬(x.state ≠ 2 ∨ x.step ≠ 8 ∨ (!x.granted) = true ∨ (passed ∧ now < x.stepAt + verifyNs x.rate)) := by
  simp [hstate, hstep, hgrant, htime]

/-- A VERIFY whose verdicts are there and fail no lane in use ends the training: the port comes up (R357). -/
theorem State.verifyEnd_of_clean {s : State} {p : Port} {errs : List LaneErrors} (hstate : (s.port p).state = 2) (hstep : (s.port p).step = 8) (hgrant : (s.port p).granted = true)
    (htime : (s.port p).stepAt + verifyNs (s.port p).rate ≤ s.now)
    (hclean : ∀ i ∈ (s.port p).used, ∀ e ∈ errs, e.lane = i → e.clean = true ∧ e.partnerFails = false ∧ e.awaited = false) :
    s.verifyEnd p errs = ((s.countErrors p errs).sendVerdict p (fun i => errs.any (fun e => e.lane == i && !e.clean)) true true).portUp p := by
  have hawaited : errs.any (fun e => (s.port p).used.contains e.lane && e.awaited) = false := by
    simpa using fun e he hused => (hclean e.lane hused e he rfl).2.2
  have hbad : (s.port p).used.filter (fun i => errs.any (fun e => e.lane == i && !e.clean) || errs.any (fun e => e.lane == i && e.partnerFails)) = [] := by
    rw [List.filter_eq_nil_iff]
    intro i hi
    simp only [Bool.or_eq_true, List.any_eq_true, Bool.and_eq_true, beq_iff_eq, not_or, not_exists, not_and]
    exact ⟨fun e he hlane => by simp [(hclean i hi e he hlane).1], fun e he hlane => by simp [(hclean i hi e he hlane).2.1]⟩
  refine (if_neg (LanePort.verify_guard hstate hstep hgrant htime)).trans ?_
  simp only [hawaited, hbad]
  rfl

/-- Settles O22: each row is an event whose meaning, where the clause's conditions hold, takes the branch written out; the rows of blocks filled and the free bytes of the idle-entry block (log 70), the verdicts of VERIFY and the rounds of step 7 (log 65), and the detectors' counts and causes (log 66) are the model's readings. -/
theorem laneAndTrainingRowsTakeEffect : Obligations.LaneAndTrainingRowsTakeEffect := by
  refine ⟨fun p r => ?found, fun p r => ?based, fun p r rate w => ?chosen, fun p r => ?changed, fun p r => ?aligned, fun p r => ?adapted, fun p r => ?requested, fun p => ?limit,
    fun p errs => ?verified, fun p errs => ?awaited, fun p a => ?restart, fun p i hi => ?signalLost, fun p i hi => ?lockLost, fun p i hi => ?lockBack, fun p i hi => ?signalBack,
    fun p i => ?failed, fun p => ?degraded, fun p => ?degradeFailed, fun p => ?idle, fun p => ?idleWake, fun p => ?offWake, fun p i => ?burst, fun p => ?off,
    fun p bits errs ref til => ?test, fun p a => ?wakeTimeout, fun p i seen hi => ?markers, fun p i => ?idleHeard⟩
  case found =>
    refine takes_of_runEvent (fun _ _ => rfl) fun s hreset hboot ⟨hwait, hgrant, hstate, hsignal⟩ => ?_
    refine (if_neg (State.trainingAdvance_guard hreset hboot hwait hgrant)).trans ?_
    simp only [hstate]
    exact if_neg (by simpa using hsignal)
  case based =>
    refine takes_of_runEvent (fun _ _ => rfl) fun s hreset hboot ⟨hwait, hgrant, hstate, hstep, hready⟩ => ?_
    refine (if_neg (State.trainingAdvance_guard hreset hboot hwait hgrant)).trans ?_
    simp only [hstate, hstep]
    exact if_neg (by simpa using hready)
  case chosen =>
    refine takes_of_runEvent (fun _ _ => rfl) fun s hreset hboot ⟨hwait, hgrant, hstate, hstep, hready, hrate⟩ => ?_
    refine (if_neg (State.trainingAdvance_guard hreset hboot hwait hgrant)).trans ?_
    simp only [hstate, hstep, hready, hrate]
    rfl
  case changed | adapted | requested =>
    refine takes_of_runEvent (fun _ _ => rfl) fun s hreset hboot ⟨hwait, hgrant, hstate, hstep, hready⟩ => ?_
    refine (if_neg (State.trainingAdvance_guard hreset hboot hwait hgrant)).trans ?_
    simp only [hstate, hstep, hready]
    rfl
  case aligned =>
    refine takes_of_runEvent (fun _ _ => rfl) fun s hreset hboot ⟨hwait, hgrant, hstate, hstep, hready, haligned⟩ => ?_
    refine (if_neg (State.trainingAdvance_guard hreset hboot hwait hgrant)).trans ?_
    simp only [hstate, hstep, hready, haligned]
    rfl
  case limit =>
    exact takes_of_runEvent (fun _ _ => rfl) fun s _ _ ⟨hstate, hgrant, hwired, hwait, hlow, hhigh, htime⟩ => if_neg (by simp [hstate, hgrant, hwired, hwait]; omega)
  case verified =>
    refine takes_of_runEvent (fun _ _ => rfl) fun s _ _ ⟨hstate, hstep, hgrant, _, htime, hclean⟩ => State.verifyEnd_of_clean hstate hstep hgrant htime fun i hi e he hlane => ?_
    obtain ⟨hheaders, hbip, hlost, hpartner, hcome⟩ := hclean i hi e he hlane
    exact ⟨by simp [LaneErrors.clean, hheaders, hbip, hlost], hpartner, hcome⟩
  case awaited =>
    refine takes_of_runEvent (fun _ _ => rfl) fun s _ _ ⟨hstate, hstep, hgrant, htime, e, he, hused, hcome⟩ => ?_
    exact (if_neg (LanePort.verify_guard hstate hstep hgrant htime)).trans (if_pos (List.any_eq_true.mpr ⟨e, he, by simp [hused, hcome]⟩))
  case restart =>
    refine takes_of_runEvent (fun _ _ => rfl) fun s _ _ ⟨hwait, hover⟩ => ?_
    simp only [State.trainingRetry, hwait]
    exact if_pos hover
  case signalLost =>
    exact takes_of_runEvent (fun _ _ => rfl) fun s hreset hboot ⟨hidle, hclear⟩ => (if_neg (State.detector_guard hi hreset hboot)).trans (if_neg (by simp [hidle, hclear]))
  case lockLost =>
    refine takes_of_runEvent (fun _ _ => rfl) fun s hreset hboot hclear => (if_neg (State.detector_guard hi hreset hboot)).trans ?_
    simp only [State.lockLost, hclear]
    rfl
  case lockBack | signalBack => exact takes_of_runEvent (fun _ _ => rfl) fun s hreset hboot _ => if_neg (State.detector_guard hi hreset hboot)
  case failed => exact takes_of_runEvent (fun _ _ => rfl) fun s _ _ hstands => if_pos hstands
  case degraded =>
    refine takes_of_runEvent (fun _ _ => rfl) fun s _ _ ⟨hstate, hdegrade, hgrant, hstep, htime⟩ => ?_
    exact (if_neg (by simp [hstate, hdegrade, hgrant])).trans ((if_pos rfl).trans (if_neg (by simp [hstep, htime])))
  case degradeFailed =>
    exact takes_of_runEvent (fun _ _ => rfl) fun s _ _ ⟨hstate, hdegrade, hgrant⟩ => (if_neg (by simp [hstate, hdegrade, hgrant])).trans (if_neg Bool.false_ne_true)
  case idle =>
    exact takes_of_runEvent (fun _ _ => rfl) fun s _ _ ⟨hstate, hempty, htime, hoff, hexit⟩ => if_neg (by simp [State.portQuiet, hstate, hempty, htime, hoff, hexit])
  case idleWake => exact takes_of_runEvent (fun _ _ => rfl) fun s _ _ hdue => if_pos hdue
  case offWake => exact takes_of_runEvent (fun _ _ => rfl) fun s _ _ hstate => (if_neg (by simp [hstate])).trans (if_pos hstate)
  case burst => exact takes_of_runEvent (fun _ _ => rfl) fun _ _ _ _ => rfl
  case off =>
    exact takes_of_runEvent (fun _ _ => rfl) fun s _ _ ⟨hstate, hempty, htime, htol, hup, htimed⟩ => if_neg (by simp [State.portQuiet, State.mayOff, hstate, hempty, htime, htol, hup, htimed])
  case test =>
    refine takes_of_runEvent (fun _ _ => rfl) fun s _ _ ⟨htest, hover⟩ => ?_
    simp only [State.laneTestEnd, htest]
    exact if_neg (Nat.not_lt.mpr hover)
  case wakeTimeout =>
    refine takes_of_runEvent (fun _ _ => rfl) fun s _ _ ⟨hwake, hactive, hover⟩ => ?_
    simp only [State.wakeTimeout, hwake]
    exact if_pos ⟨hactive, hover⟩
  case markers => exact takes_of_runEvent (fun _ _ => rfl) fun s _ _ hserves => if_neg (by simp [hserves, hi])
  case idleHeard => exact takes_of_runEvent (fun _ _ => rfl) fun s _ _ hserves => if_pos hserves

end Sys2Proof.Machine

/-! SUPPORT. How a port takes, acknowledges again, or refuses the frames that reach it (R380, R391). -/
namespace Sys2Proof.Machine

open Sys2Proof

/-- A frame is of a row's type; one of no known type is judged as a PAYLOAD frame is (log 72). -/
abbrev frameForRow (f : Frame) (type : Nat) : Prop := f.type.toNat = type ∨ (type = 1 ∧ (f.type.toNat < 2 ∨ 10 < f.type.toNat))

section
variable {s : State} {p : Port} {f : Frame} {type : Nat} (hrec : s.receives p = true) (hup : s.linkUp p = true) (hrow : frameForRow f type)
include hrec hup hrow

/-- A frame of the row's type that reaches a link that is up is not left to another row. -/
theorem State.acceptFrame_guard : ¬((!s.receives p) = true ∨ (!s.linkUp p) = true ∨ (f.type.toNat ≠ type ∧ (type ≠ 1 ∨ (2 ≤ f.type.toNat ∧ f.type.toNat ≤ 10)))) := by
  simp only [hrec, hup, Bool.not_true, Bool.false_eq_true, false_or]
  omega

/-- A frame that is not intact is counted and refused with reason 1 (R391). -/
theorem State.acceptFrame_of_damaged (hdamaged : f.intact = false) :
    s.acceptFrame p f type = (false, ((s.gotFrame p).countLink p 2).refuseFrame p f 1) := by
  unfold State.acceptFrame
  rw [if_neg (State.acceptFrame_guard hrec hup hrow)]
  simp [hdamaged]

/-- An intact frame has its acknowledgement taken; then one that lies behind the expected is acknowledged again, one against which no reason holds is taken, and any other is refused (R380). -/
theorem State.acceptFrame_of_intact (hintact : f.intact = true) :
    let u := (s.gotFrame p).takeAck p f.ack.toNat
    s.acceptFrame p f type =
      if 32768 ≤ (f.linkSeq.toNat + 65536 - (u.link p).rxNext) % 65536 then (false, u.sendAck p)
      else if u.nakReason p f = 0 then (true, s.tookFrame p f)
      else (false, u.refuseFrame p f (u.nakReason p f)) := by
  unfold State.acceptFrame
  rw [if_neg (State.acceptFrame_guard hrec hup hrow)]
  simp only [hintact, Bool.not_true, Bool.false_eq_true, if_false]
  congr 1
  split
  next hnone => exact (if_pos hnone).symm
  next hreason => exact (if_neg hreason).symm

end

/-- A frame that is not the expected one is refused with reason 2, whatever else holds against it (R391). -/
theorem State.nakReason_of_unexpected {s : State} {p : Port} {f : Frame} (h : f.linkSeq.toNat ≠ (s.link p).rxNext) : s.nakReason p f = 2 := if_pos h

/-- Settles O52: an intact frame meets one of three branches, by how far it lies from the expected and by the reason against it. -/
theorem framesAreAcceptedInSequence : Obligations.FramesAreAcceptedInSequence := by
  intro s p f type hrec hup hintact hrow u n _
  have haccept := State.acceptFrame_of_intact hrec hup hrow hintact
  refine ⟨fun hseq hnone => ?expected, fun hbehind => ?duplicate, fun hahead hreason => ?refused, State.nakReason_of_unexpected⟩
  case expected =>
    have hnear : ¬32768 ≤ (f.linkSeq.toNat + 65536 - n) % 65536 := by omega
    refine ⟨_, haccept.trans ((if_neg hnear).trans (if_pos hnone)), ?_, _, rfl⟩
    rw [State.link_setLink]
  case duplicate => exact haccept.trans (if_pos hbehind)
  case refused => exact haccept.trans ((if_neg (Nat.not_le.mpr hahead)).trans (if_neg hreason))

end Sys2Proof.Machine

/-! SUPPORT. What the rows of frames, credits, links and attachment do. -/
namespace Sys2Proof.Machine

open Sys2Proof

/-! ## Frames of payload (R372, R380) -/

/-- Outside class TIME a frame that is taken joins the fragments of its class; with the last of them the message is whole. -/
theorem State.payloadReceive_of_takes {s : State} {p : Port} {f : Frame} (hclass : frameClass f ≠ 0) (h : s.takesFrame p f 1) :
    s.payloadReceive p f =
      let a := s.tookFrame p f
      let part := ((a.link p).frags.lookup (frameClass f)).getD ([], 0)
      if frameLast f then
        (a.setLink p (fun l => { l with frags := Tbl.erase l.frags (frameClass f) })).message p (frameClass f) f.target.toNat f.source.toNat f.hops.toNat (part.1 ++ f.payload)
          (some (Port.code p, frameClass f, part.2 + frameCost f))
      else a.setLink p (fun l => { l with frags := Tbl.set l.frags (frameClass f) (part.1 ++ f.payload, part.2 + frameCost f) }) := by
  unfold State.payloadReceive
  rw [if_neg (fun hc => hclass hc.2), State.acceptFrame_of_takes h]
  rfl

/-! ## Link frames -/

/-- Counting a frame leaves its link up or down as it was. -/
theorem State.linkUp_gotFrame (s : State) (p : Port) : (s.gotFrame p).linkUp p = s.linkUp p := by
  simp [State.linkUp, State.link_gotFrame]

/-- A NAK that the port takes is counted and its acknowledgement taken; what it asks for turns on its consumed byte and its reason (R382, R392). -/
theorem State.nakFrame_of_takes {s : State} {p : Port} {f : Frame} (h : s.takesLinkFrame p f 3) (hup : s.linkUp p = true) :
    s.nakFrame p f =
      let a := ((s.gotFrame p).countLink p 6).takeAck p f.ack.toNat
      if u8 f.payload 1 ≠ 0 then a
      else if u8 f.payload 0 = 5 ∧ (List.range 4).any (fun c => decide ((a.link p).available c < 0)) then a.setLink p (fun l => { l with creditHold := true })
      else a.replayHeld p := by
  unfold State.nakFrame
  simp only [State.acceptLinkFrame_of_takes h, State.linkUp_gotFrame, hup]
  rfl

/-- A HELLO that the port takes, offers a version in use and has heard this hub brings up a link that is neither up nor held (R384, R385). -/
theorem State.helloFrame_of_heard {s : State} {p : Port} {f : Frame} {v : Nat × Nat} (hreset : s.sys.hub ≠ .reset) (hboot : s.sys.hub ≠ .boot) (h : s.takesLinkFrame p f 5)
    (hlocal : s.sys.localMode = false) (hdown : (s.link p).state ≠ 3) (hfree : (s.link p).state ≠ 4) (hversion : commonVersion (s.link p).offered f.payload = some v)
    (hheard : bit (u8 f.payload 11) 0 = true) :
    s.helloFrame p f = (((s.gotFrame p).setLink p (fun l => { l with peer := f.payload })).setLink p (fun l => { l with heard := true })).linkComesUp p v f.payload := by
  have hsys : (s.gotFrame p).sys = s.sys := rfl
  unfold State.helloFrame
  simp only [State.acceptLinkFrame_of_takes h, State.link_setLink, State.link_gotFrame, hversion]
  rw [if_neg (by simp [hsys, hlocal, hreset, hboot]), if_neg hfree, if_neg hdown, if_pos hheard]

/-! ## Links that change as they stand -/

/-- What a change of a link writes is settled by the link that it finds. -/
theorem State.setLink_congr {s : State} {p : Port} {f g : Link → Link} (h : f (s.link p) = g (s.link p)) : s.setLink p f = s.setLink p g :=
  congrArg (fun l => { s with fabric := { s.fabric with links := Tbl.set s.fabric.links (Port.code p) l } }) h

/-- The end of a command is the command processor's, and leaves the hub's address. -/
theorem State.own_finish (s : State) (serial st d : Nat) (res : Bytes) : (s.finish serial st d res).own = s.own := by
  obtain ⟨hframe, -⟩ := finishingTouchesOnlyTheCommandProcessor s serial st d res
  rw [hframe]
  rfl

/-- Ending commands leaves the hub's address, so that each reports the same one. -/
theorem State.foldl_finish_own (result : Nat → Bytes) (l : List Nat) (s : State) :
    l.foldl (fun (s : State) r => s.finish r stOk 0 (result s.own)) s = l.foldl (fun (t : State) r => t.finish r stOk 0 (result s.own)) s := by
  induction l generalizing s with
  | nil => rfl
  | cons r l ih => rw [List.foldl_cons, List.foldl_cons, ih, State.own_finish]

/-- Settles O23: each row is an event whose meaning, where the clause's conditions hold, takes the branch written out; the acknowledgement and the judging of frames (logs 72 and 73), HELLO (log 71), the routes and credits of forwarded frames (log 74), and the free values of a restart that is late (log 76) are the model's readings. -/
theorem linkFrameRowsTakeEffect : Obligations.LinkFrameRowsTakeEffect := by
  refine ⟨fun p f hclass hlast => ?fragment, fun p f hclass hlast => ?message, fun p f htype hclass => ?damaged, fun p f htype hclass => ?time, fun p f => ?ack,
    fun p f hleft hreason => ?nakReplay, fun p f hconsumed => ?nakConsumed, fun p => ?replay, fun p f => ?credit, fun p => ?creditTimer, fun p linkId => ?helloTimer, fun p f v => ?hello,
    fun p f => ?abandon, fun p f hdn => ?attach, fun f htarget => ?assign, fun n a => ?restart, fun p f hdn hhops => ?detach, fun p f => ?unreachable, fun p hdn => ?lost, ?up⟩
  case fragment =>
    exact takes_of_runEvent (fun _ _ => rfl) fun s _ _ htakes => (State.payloadReceive_of_takes hclass htakes).trans (if_neg (by simp [hlast]))
  case message =>
    exact takes_of_runEvent (fun _ _ => rfl) fun s _ _ htakes => (State.payloadReceive_of_takes hclass htakes).trans (if_pos hlast)
  case damaged =>
    refine takes_of_runEvent (fun _ _ => rfl) fun s _ _ ⟨hrec, hup, hdamaged⟩ => ?_
    have hrow : frameForRow f 1 := .inl (by rw [htype]; rfl)
    simp only [State.payloadReceive, if_neg (fun hc : f.type = 1 ∧ frameClass f = 0 => hclass hc.2), State.acceptFrame_of_damaged hrec hup hrow hdamaged]
    rfl
  case time =>
    refine takes_of_runEvent (fun _ _ => rfl) fun s _ _ _ => ?_
    simp only [State.payloadReceive, htype, hclass, and_self, if_true]
    rfl
  case ack =>
    refine takes_of_runEvent (fun _ _ => rfl) fun s _ _ ⟨htakes, hup⟩ => ?_
    simp only [State.ackFrame, State.acceptLinkFrame_of_takes htakes, State.linkUp_gotFrame, hup]
    rfl
  case nakReplay =>
    exact takes_of_runEvent (fun _ _ => rfl) fun s _ _ ⟨htakes, hup⟩ =>
      (State.nakFrame_of_takes htakes hup).trans ((if_neg (not_not_intro hleft)).trans (if_neg fun h => hreason h.1))
  case nakConsumed =>
    exact takes_of_runEvent (fun _ _ => rfl) fun s _ _ ⟨htakes, hup⟩ => (State.nakFrame_of_takes htakes hup).trans (if_pos hconsumed)
  case replay =>
    exact takes_of_runEvent (fun _ _ => rfl) fun s _ _ ⟨hheld, hup, hover⟩ => if_neg (by simp [hheld, hup, hover])
  case credit =>
    refine takes_of_runEvent (fun _ _ => rfl) fun s _ _ ⟨htakes, hup⟩ => ?_
    simp only [State.creditFrame, State.acceptLinkFrame_of_takes htakes, State.linkUp_gotFrame, hup]
    rfl
  case creditTimer =>
    refine takes_of_runEvent (fun _ _ => rfl) fun s _ _ ⟨hup, hdue⟩ => if_pos ⟨hup, ?_⟩
    simpa only [Bool.or_eq_true, decide_eq_true_eq] using hdue
  case helloTimer =>
    refine takes_of_runEvent (fun _ _ => rfl) fun s hreset hboot ⟨hactive, hlocal, hdue⟩ => if_pos ⟨hactive, by simp [hlocal], hreset, hboot, ?_⟩
    split
    · next t ht => exact decide_eq_true (hdue t ht)
    · rfl
  case hello =>
    exact takes_of_runEvent (fun _ _ => rfl) fun s hreset hboot ⟨htakes, hlocal, hdown, hfree, hversion, hheard⟩ =>
      State.helloFrame_of_heard hreset hboot htakes hlocal hdown hfree hversion hheard
  case abandon =>
    refine takes_of_runEvent (fun _ _ => rfl) fun s _ _ htakes => ?_
    simp only [State.abandonFrame, State.acceptFrame_of_takes htakes]
    rfl
  case attach =>
    refine takes_of_runEvent (fun _ _ => rfl) fun s _ _ htakes => ?_
    simp only [State.attachFrame, State.acceptFrame_of_takes htakes]
    exact if_pos hdn
  case assign =>
    refine takes_of_runEvent (fun _ _ => rfl) fun s _ _ ⟨htakes, hmine⟩ => ?_
    simp only [State.assignFrame, State.acceptFrame_of_takes htakes]
    rw [if_neg (by decide), if_neg (by simp), if_neg (by simp), if_pos htarget, if_neg (not_not_intro hmine)]
    exact State.foldl_finish_own (fun a => le 2 a ++ zeros 2) ..
  case restart =>
    refine takes_of_runEvent (fun _ _ => rfl) fun s _ _ ⟨hawaits, hover⟩ => ?_
    simp only [State.restartLate, hawaits]
    exact if_pos hover
  case detach =>
    refine takes_of_runEvent (fun _ _ => rfl) fun s _ _ ⟨htakes, haddress⟩ => ?_
    simp only [State.detachFrame, State.acceptFrame_of_takes htakes]
    rw [if_neg (by decide), if_neg (by simp [hdn, haddress]), if_neg (Nat.not_le.mpr hhops)]
  case unreachable =>
    refine takes_of_runEvent (fun _ _ => rfl) fun s _ _ htakes => ?_
    simp only [State.unreachableFrame, State.acceptFrame_of_takes htakes]
    rfl
  case lost =>
    exact takes_of_runEvent (fun _ _ => rfl) fun s _ _ ⟨hattached, hdown, hover⟩ => if_pos ⟨hdn, hattached, by simp [hdown], hover⟩
  case up =>
    refine takes_of_runEvent (fun _ _ => rfl) fun s _ _ ⟨hattached, hdown, hover⟩ => ?_
    refine (if_neg (by simp [hattached, hdown, hover])).trans ?_
    exact congrArg (fun t : State => if t.timeSource = some .up then t.loseTime 4 else t) (State.setLink_congr rfl)

end Sys2Proof.Machine

/-! SUPPORT. A step, and what the commands of fabric time, twinning, calibration, power, the safety island, faults and flash complete with. -/
namespace Sys2Proof.Machine

open Sys2Proof

/-- Settles O1: `step` takes the command in front, and where there is none a GRID cycle passes (log 1). -/
theorem stepTakesTheFrontCommand : Obligations.StepTakesTheFrontCommand := by
  intro s
  constructor
  · intro c r hpending
    rw [step, hpending]
  · intro hpending
    rw [step, hpending]

/-- Settles O13: each answer is what the entry of its opcode gives (R428, R457). What TIME_SET_LOCAL_REF begins (log 81), how TWIN_SET_MODE is answered by the mode in force (log 87), and the marks of a relayed dry run (log 22) are the model's readings. -/
theorem timeAndTwinCommandsAnswer : Obligations.TimeAndTwinCommandsAnswer := by
  unfold Obligations.TimeAndTwinCommandsAnswer
  and_intros
  all_goals exact carries_of_entry (fun _ _ _ => rfl) rfl (fun _ _ => rfl)

/-- Settles O14: each answer is what the entry of its opcode gives (R480, R499). -/
theorem calibrationAndPowerCommandsAnswer : Obligations.CalibrationAndPowerCommandsAnswer := by
  unfold Obligations.CalibrationAndPowerCommandsAnswer
  and_intros
  all_goals exact carries_of_entry (fun _ _ _ => rfl) rfl (fun _ _ => rfl)

/-- Settles O15: each answer is what the entry of its opcode gives (R521, R541, R560). From when the interval of FAULT_SET_SCRUB counts and where DIAG_INJECT's error is found (log 102), and what a pending parameter set ends with (log 101), are the model's readings. -/
theorem safetyFaultAndFirmwareCommandsAnswer : Obligations.SafetyFaultAndFirmwareCommandsAnswer := by
  unfold Obligations.SafetyFaultAndFirmwareCommandsAnswer
  and_intros
  all_goals exact carries_of_entry (fun _ _ _ => rfl) rfl (fun _ _ => rfl)

end Sys2Proof.Machine

/-! SUPPORT. What a GRID cycle adds to the counter, and how inc is held (R399, R400). -/
namespace Sys2Proof.Machine

open Sys2Proof

/-! ## What ends as time passes leaves fabric time -/

theorem State.foldl_time {β : Type} {f : State → β → State} (h : ∀ (s : State) (b : β), (f s b).time = s.time) (l : List β) (s : State) : (l.foldl f s).time = s.time := by
  induction l generalizing s with
  | nil => rfl
  | cons b r ih => exact (ih _).trans (h s b)

theorem State.logFault_time (s : State) (code inst d0 d1 : Nat) : (s.logFault code inst d0 d1).time = s.time := by
  obtain ⟨f, a, e, h⟩ := s.logFault_logged code inst d0 d1
  rw [h]

theorem State.takePair_time (s : State) (i : Nat) (b : Bool) (a1 a2 : Nat) : (s.takePair i b a1 a2).time = s.time := by
  unfold State.takePair
  simp only
  split
  · rfl
  · split
    · exact State.logFault_time ..
    · rfl

theorem State.endRenewal_time (s : State) (i : Nat) (b : Bool) : (s.endRenewal i b).time = s.time := by
  unfold State.endRenewal
  split
  · split
    · exact State.takePair_time ..
    · rfl
  · rfl

theorem State.endRenewals_time (s : State) : s.endRenewals.time = s.time :=
  State.foldl_time (fun _ _ => (State.endRenewal_time ..).trans (State.endRenewal_time ..)) _ s

theorem State.pushSample_time (s : State) (p : Nat) (x : PanSample) : (s.pushSample p x).time = s.time := by
  unfold State.pushSample
  simp only
  split
  · rfl
  · split <;> rfl

theorem State.calHoles_time (s : State) (p stop : Nat) : (s.calHoles p stop).time = s.time := by
  unfold State.calHoles
  simp only
  split
  · rfl
  · exact (State.foldl_time (fun _ _ => State.pushSample_time ..) _ _).trans rfl

theorem State.endInterruptions_time (s : State) : s.endInterruptions.time = s.time := by
  unfold State.endInterruptions
  split
  · rfl
  · exact State.foldl_time (fun _ _ => State.calHoles_time ..) _ s

theorem State.rollRate_time (s : State) : s.rollRate.time = s.time := by
  unfold State.rollRate
  simp only
  split <;> rfl

theorem State.rollRate_front (s : State) : s.rollRate.front = s.front := by
  unfold State.rollRate
  simp only
  split <;> rfl

/-! ## The local reference (R427) -/

/-- Nothing stands for the local reference to lose: the hub is not in local mode, has fallen back already, or runs on source 0. -/
def State.holdsReference (s : State) : Prop := s.sys.localMode = true → s.time.fellBack = true ∨ s.time.source = 0

theorem State.ppsAbsent_of_holdsReference {s : State} (h : s.holdsReference) : s.ppsAbsent = s := by
  refine if_neg ?_
  rintro ⟨hlocal, hstands, habsent⟩
  rcases h hlocal with hfell | hsource
  · simp [hfell] at hstands
  · simp [State.localAbsent, hsource] at habsent

/-- Without a spot conversion that ends, and with no reference to lose, what ends as time passes leaves fabric time. -/
theorem State.timePassed_time {s : State} (hspots : s.spotsOver = []) (href : s.holdsReference) : s.timePassed.time = s.time := by
  have hnone : s.endSpots = s := by simp only [State.endSpots, hspots, List.foldl_nil]
  have htime : s.endRenewals.endInterruptions.time = s.time := (State.endInterruptions_time _).trans s.endRenewals_time
  have hsys : s.endRenewals.endInterruptions.sys = s.sys := (s.endRenewals_alike.trans (State.endInterruptions_alike _)).sys
  unfold State.timePassed
  rw [hnone, State.ppsAbsent_of_holdsReference (by unfold State.holdsReference; rw [htime, hsys]; exact href), htime]

/-! ## A GRID cycle -/

theorem State.spotsOver_of_none {s : State} (h : ∀ e ∈ s.front.pans, e.2.spot = none) : s.spotsOver = [] :=
  List.filterMap_eq_nil_iff.mpr fun e he => by rw [h e he]; rfl

/-- The counter as a GRID cycle leaves it. -/
def State.beat (s : State) : State := { s with time := { s.time with counter := (s.time.counter + s.time.inc) % 2 ^ 104 } }

theorem State.tick_of_running {s : State} (hreset : s.sys.hub ≠ .reset) :
    s.tick =
      if s.beat.resetDue s.beat.now then s.beat.hubReset true
      else if s.beat.rollRate.spotsOver.isEmpty then s.beat.rollRate.timePassed
      else s.beat.rollRate.timePassed.settle := if_neg hreset

/-- A GRID cycle that brings neither a reset nor the end of a spot conversion, nor takes a reference away, adds inc to the counter and leaves the rest of fabric time (R399). -/
theorem State.tick_time {s : State} (hreset : s.sys.hub ≠ .reset) (hafter : s.cmds.resetAfter = none) (hspots : ∀ e ∈ s.front.pans, e.2.spot = none) (href : s.holdsReference) :
    s.tick.time = { s.time with counter := (s.time.counter + s.time.inc) % 2 ^ 104 } := by
  have hdue : s.beat.resetDue s.beat.now = false := by simp [State.resetDue, State.beat, hafter]
  have hover : s.beat.rollRate.spotsOver = [] := by
    refine State.spotsOver_of_none ?_
    rw [State.rollRate_front]
    exact hspots
  have hholds : s.beat.rollRate.holdsReference := by
    unfold State.holdsReference
    rw [(State.rollRate_alike _).sys, State.rollRate_time]
    exact href
  rw [State.tick_of_running hreset, hdue, hover, if_neg Bool.false_ne_true, List.isEmpty_nil, if_pos rfl, State.timePassed_time hover hholds, State.rollRate_time]
  rfl

/-! ## inc -/

/-- Settles O53: a GRID cycle adds inc (log 1), the counter wraps (log 7), and `clampInt` holds inc within its limits (R400). -/
theorem theCounterTakesItsIncrement : Obligations.TheCounterTakesItsIncrement := by
  constructor
  · intro s hreset hafter hspots href hpending
    have htime := State.tick_time hreset hafter hspots href
    exact ⟨s.tick, by rw [step, hpending], by rw [htime], by rw [htime]⟩
  · intro s x t lo hi
    obtain ⟨y, hy⟩ : ∃ y, y = clampInt lo hi x := ⟨_, rfl⟩
    have hinc : t.time.inc = y.toNat := congrArg Int.toNat hy.symm
    have hclamps : t.time.clamps = if x = y then s.time.clamps else sat 32 (s.time.clamps + 1) := by rw [hy]; rfl
    have hheld : y = max lo (min hi x) := hy
    rw [hinc, hclamps]
    refine ⟨by omega, by omega, fun _ _ => ⟨by omega, if_pos (by omega)⟩, fun _ => by omega, fun _ => by omega, fun _ => ?_⟩
    rw [if_neg (by omega)]
    exact Nat.min_comm ..

end Sys2Proof.Machine

/-! SUPPORT. What drives the TRIP outputs (R130, R431). -/
namespace Sys2Proof.Machine

open Sys2Proof

/-- The channels whose alarms reach their outputs now: none without duty, or in a state in which the hub drives no alarm (R130, R431). -/
def State.tripping (s : State) : List (Nat × Chan) :=
  if s.mayIssue ∧ [HubState.ready, .run, .reconfigure, .holdover].contains s.base then s.front.chans.filter (fun e => e.2.alarm ≠ .none ∧ !s.dieLost (dieOf (panOf e.1))) else []

/-- The routes of a list of channels, joined. -/
def routes (l : List (Nat × Chan)) : BitVec 4 := l.foldl (fun m e => m ||| e.2.route) 0

theorem getLsbD_foldl_routes {k : Nat} {l : List (Nat × Chan)} {m : BitVec 4} (h : (l.foldl (fun m e => m ||| e.2.route) m).getLsbD k = true) :
    m.getLsbD k = true ∨ ∃ e ∈ l, e.2.route.getLsbD k = true := by
  induction l generalizing m with
  | nil => exact .inl h
  | cons e r ih =>
    rcases ih h with hm | ⟨x, hx, hroute⟩
    · rw [BitVec.getLsbD_or, Bool.or_eq_true] at hm
      exact hm.imp_right fun hroute => ⟨e, List.mem_cons_self, hroute⟩
    · exact .inr ⟨x, List.mem_cons_of_mem _ hx, hroute⟩

/-- Outside RESET and BOOT the outputs show their inactive levels, changed where an enabled output has a tripping channel routed to it. -/
theorem State.tripLevels_eq {s : State} (hreset : s.sys.hub ≠ .reset) (hboot : s.sys.hub ≠ .boot) :
    s.tripLevels = (routes s.tripping &&& s.front.tripEnable) ^^^ s.front.tripPolarity := by
  unfold State.tripLevels State.tripping routes
  rw [if_neg (not_or.mpr ⟨hreset, hboot⟩)]
  split
  · rw [List.foldl_filter]
    simp
  · rfl

/-- Settles O51: an output leaves its inactive level only by its enable bit and the route of a tripping channel. -/
theorem tripOutputsNeedAnAlarmAndDuty : Obligations.TripOutputsNeedAnAlarmAndDuty := by
  intro s k _ hreset hboot
  have hlevel : s.tripLevels.getLsbD k = (((routes s.tripping).getLsbD k && s.front.tripEnable.getLsbD k) ^^ s.front.tripPolarity.getLsbD k) := by
    rw [State.tripLevels_eq hreset hboot, BitVec.getLsbD_xor, BitVec.getLsbD_and]
  constructor
  · rintro (hduty | hoff)
    · have hnone : s.tripping = [] := if_neg (by simp [hduty])
      rw [hlevel, hnone]
      simp [routes]
    · rw [hlevel, hoff, Bool.and_false, Bool.false_xor]
  · intro hactive
    have hroute : (routes s.tripping).getLsbD k = true := by
      by_contra hno
      rw [hlevel, Bool.eq_false_iff.mpr hno] at hactive
      simp at hactive
    rcases getLsbD_foldl_routes hroute with hzero | ⟨e, he, hk⟩
    · simp at hzero
    · unfold State.tripping at he
      split at he
      · obtain ⟨hmem, halarm⟩ := List.mem_filter.mp he
        simp only [decide_eq_true_eq, Bool.not_eq_true'] at halarm
        exact ⟨e, hmem, halarm.1, hk, halarm.2⟩
      · cases he

end Sys2Proof.Machine

/-! SUPPORT. The correction of sample codes (R461, R106). -/
namespace Sys2Proof.Machine

open Sys2Proof

/-- A converter's code times 16 and 2^20 rounds back to the code. -/
theorem roundEven_code (c : Int) : roundEven (16 * c * 2 ^ 20) (2 ^ 24) = c := by
  rw [show 16 * c * 2 ^ 20 = c * ((2 ^ 24 : Nat) : Int) by push_cast; ring]
  exact roundEven_mul c (by decide)

/-- Settles O48: the code is the rounded correction, clipped by `clampInt`; the flag compares it with the two ends. -/
theorem sampleCodesAreCorrectedAndClipped : Obligations.SampleCodesAreCorrectedAndClipped := by
  intro s a g c o x y
  have hclip : y = max (-131072) (min 131071 x) := rfl
  have hflag : (s.sampleCode a g c).2 = (y == 131071 || y == -131072) := rfl
  refine ⟨by omega, by omega, by omega, by rw [hflag, Bool.or_eq_true, beq_iff_eq, beq_iff_eq], fun hbase hslope hgain _ _ => ?_⟩
  have ho : o = 0 := by
    show s.calI16 a + roundEven (s.calI16 (a + 2) * 2 ^ g) 128 = 0
    rw [hbase, hslope, Int.zero_mul]
    rfl
  have hx : x = c := by
    show roundEven ((16 * c - o) * (2 ^ 20 + s.calI16 (a + 4 + 2 * g))) (2 ^ 24) = c
    rw [ho, hgain, Int.sub_zero, Int.add_zero, roundEven_code]
  omega

end Sys2Proof.Machine

/-! SUPPORT. What the sluice grants next (R492). -/
namespace Sys2Proof.Machine

open Sys2Proof

/-- A request's cost is short on no rail where it fits on every rail that it names (R492). -/
theorem Sluice.short_eq_zero (x : Sluice) (r : Request) :
    x.short r = 0 ↔
      (r.cost.vdd ≠ 0 → x.inUse.vdd + r.cost.vdd ≤ (x.limit r.recovery).vdd) ∧ (r.cost.av ≠ 0 → x.inUse.av + r.cost.av ≤ (x.limit r.recovery).av) ∧
      (r.cost.vdds ≠ 0 → x.inUse.vdds + r.cost.vdds ≤ (x.limit r.recovery).vdds) := by
  have hrail : ∀ l u c : Nat, (c ≠ 0 → u + c ≤ l) ↔ ¬(l < u + c ∧ c ≠ 0) := fun l u c => by rw [not_and', Nat.not_lt]
  unfold Sluice.short
  simp only [hrail]
  split_ifs with hvdd hav hvdds
  · exact iff_of_false (by decide) fun h => h.1 hvdd
  · exact iff_of_false (by decide) fun h => h.2.1 hav
  · exact iff_of_false (by decide) fun h => h.2.2 hvdds
  · exact iff_of_true rfl ⟨hvdd, hav, hvdds⟩

/-- What is granted heads its queue, is short on no rail, and no recovery request goes before it (R492). -/
theorem Sluice.grantable_eq_some {x : Sluice} {r : Request} {recovery : Bool} :
    x.grantable recovery = some r ↔ (∃ rest, x.queue recovery = r :: rest) ∧ x.short r = 0 ∧ (recovery = false → x.recovery = []) := by
  unfold Sluice.grantable
  cases x.queue recovery with
  | nil => simp
  | cons q rest =>
    simp only [Option.ite_none_right_eq_some, Option.some.injEq, List.cons.injEq, List.isEmpty_iff]
    constructor
    · rintro ⟨⟨hfits, hfirst⟩, rfl⟩
      exact ⟨⟨rest, rfl, rfl⟩, hfits, fun hnormal => hfirst.resolve_left (by simp [hnormal])⟩
    · rintro ⟨⟨_, rfl, rfl⟩, hfits, hfirst⟩
      exact ⟨⟨hfits, recovery.eq_false_or_eq_true.imp_right hfirst⟩, rfl⟩

/-- The limit of a kind of request on each rail (R492). -/
theorem Sluice.limit_eq (x : Sluice) (recovery : Bool) :
    x.limit recovery = { vdd := x.budget.vdd + (if recovery then x.reserve.vdd else 0), av := x.budget.av + (if recovery then x.reserve.av else 0), vdds := x.budget.vdds + (if recovery then x.reserve.vdds else 0) } := by
  cases recovery <;> rfl

/-- Settles O54: the head of a queue is a request of that queue's kind, so that its limit is the queue's. -/
theorem theSluiceGrantsTheHeadThatFits : Obligations.TheSluiceGrantsTheHeadThatFits := by
  intro x r recovery hnormal hrecovery
  have hkind : ∀ rest, x.queue recovery = r :: rest → r.recovery = recovery := by
    intro rest hqueue
    have hmem : r ∈ x.queue recovery := by rw [hqueue]; exact List.mem_cons_self
    cases recovery with
    | false => exact hnormal r hmem
    | true => exact hrecovery r hmem
  rw [Sluice.grantable_eq_some, Sluice.short_eq_zero]
  constructor
  · rintro ⟨⟨rest, hqueue⟩, hfits, hfirst⟩
    rw [hkind rest hqueue, Sluice.limit_eq] at hfits
    exact ⟨⟨rest, hqueue⟩, hfirst, hfits⟩
  · rintro ⟨⟨rest, hqueue⟩, hfirst, hfits⟩
    rw [hkind rest hqueue, Sluice.limit_eq]
    exact ⟨⟨rest, hqueue⟩, hfits, hfirst⟩

end Sys2Proof.Machine

/-! SUPPORT. The conditions of a safety output (R510). -/
namespace Sys2Proof.Machine

open Sys2Proof

/-- A mask holds the bits listed. -/
theorem testBit_maskOf (l : List Nat) (k : Nat) : (maskOf l).testBit k = true ↔ k ∈ l := by
  suffices h : ∀ m : Nat, (l.foldl (fun m i => m ||| 2 ^ i) m).testBit k = true ↔ m.testBit k = true ∨ k ∈ l by simpa [maskOf] using h 0
  induction l with
  | nil => simp
  | cons i r ih =>
    intro m
    rw [List.foldl_cons, ih, Nat.testBit_or, Bool.or_eq_true, Nat.testBit_two_pow, decide_eq_true_eq, List.mem_cons, or_assoc, @eq_comm _ i k]

/-- What a channel may drive high: the conditions of R510 one by one. -/
theorem SafeChan.mayDrive_iff (x : SafeChan) (c : SafeCh) (k : Nat) :
    x.mayDrive c k = true ↔
      x.held = false ∧ x.set.isSome = true ∧ x.usesOut k = true ∧ (∀ i ∈ x.masked k, x.ownRuns c i = true ∧ x.partnerRuns c i = true) ∧ x.demand.testBit k = false ∧
      (x.latches = 0 ∧ x.readback.testBit k = false ∧ ∀ i ∈ x.masked k, x.disc.testBit i = false) ∧ x.enable = true := by
  simp [SafeChan.mayDrive, SafeChan.allRun, SafeChan.faulted, and_assoc]

/-- Settles O55: the outputs commanded are those that the channel may drive and no test pulse of its own holds low. -/
theorem safetyOutputsNeedEveryCondition : Obligations.SafetyOutputsNeedEveryCondition := by
  intro c x k hcmd
  obtain ⟨hk, hdrive⟩ := List.mem_filter.mp ((testBit_maskOf _ k).mp hcmd)
  rw [Bool.and_eq_true, Bool.not_eq_true'] at hdrive
  obtain ⟨hheld, hset, _, hruns, hdemand, ⟨hlatches, hreadback, hdisc⟩, henable⟩ := (SafeChan.mayDrive_iff x c k).mp hdrive.1
  exact ⟨List.mem_range.mp hk, hheld, hset, hruns, hdemand, hlatches, hreadback, hdisc, henable, hdrive.2⟩

end Sys2Proof.Machine

/-! SUPPORT. The slots of the fault log (R523). -/
namespace Sys2Proof.Machine

open Sys2Proof

/-- Whether a slot of the log holds a pinned entry. -/
def slotPinned (log : Tbl LogEntry) (k : Nat) : Prop := (log.lookup k).any (·.pinned) = true

theorem freeSlot_of_free {log : Tbl LogEntry} {n : Nat} (h : ¬ slotPinned log (n % 256)) (fuel : Nat) : freeSlot log n fuel = n % 256 := by
  cases fuel with
  | zero => rfl
  | succ fuel =>
    unfold slotPinned at h
    unfold freeSlot
    split
    · next e he => exact if_neg (by simpa [he] using h)
    · rfl

theorem freeSlot_of_pinned {log : Tbl LogEntry} {n : Nat} (h : slotPinned log (n % 256)) (fuel : Nat) : freeSlot log n (fuel + 1) = freeSlot log (n + 1) fuel := by
  obtain ⟨e, he, hpinned⟩ := (Option.any_eq_true ..).mp h
  rw [freeSlot, he]
  exact if_pos hpinned

/-- The first slot from the serial's own that holds no pinned entry is the one taken. -/
theorem freeSlot_first {log : Tbl LogEntry} {k n fuel : Nat} (hk : k < fuel) (hfree : ¬ slotPinned log ((n + k) % 256)) (hbefore : ∀ j, j < k → slotPinned log ((n + j) % 256)) :
    freeSlot log n fuel = (n + k) % 256 := by
  induction k generalizing n fuel with
  | zero => exact freeSlot_of_free hfree fuel
  | succ k ih =>
    obtain ⟨m, rfl⟩ := Nat.exists_eq_succ_of_ne_zero (Nat.ne_zero_of_lt hk)
    have hnext : n + 1 + k = n + (k + 1) := by omega
    have hhere : slotPinned log (n % 256) := hbefore 0 k.succ_pos
    rw [freeSlot_of_pinned hhere, ih (Nat.lt_of_succ_lt_succ hk) (hnext ▸ hfree), hnext]
    intro j hj
    have hshift : n + 1 + j = n + (j + 1) := by omega
    rw [hshift]
    exact hbefore (j + 1) (Nat.succ_lt_succ hj)

/-- The entry that a fault brings. -/
def State.faultEntry (s : State) (code inst d0 d1 : Nat) : LogEntry :=
  { serial := s.faults.nextSerial, cls := faultClass code, island := faultIsland code, code, time := s.now16 / 65536, frac := s.now16 % 65536, inst := inst % 65536, d0 := BitVec.ofNat 32 d0, d1 := BitVec.ofNat 32 d1,
    withheld := Tbl.get 0 s.faults.withheld code, pinned := faultClass code == 5, inBoot := s.sys.hub == .boot }

/-- Logging a fault writes its entry to the slot and advances the serial, whether or not the entry is mirrored (R523, R527). -/
theorem State.logFault_log (s : State) (code inst d0 d1 : Nat) :
    (s.logFault code inst d0 d1).faults.log = Tbl.set s.faults.log (freeSlot s.faults.log s.faults.nextSerial 256) (s.faultEntry code inst d0 d1) ∧
    (s.logFault code inst d0 d1).faults.nextSerial = (s.faults.nextSerial + 1) % 2 ^ 32 := by
  unfold State.logFault State.logEntry
  simp only
  split <;> exact ⟨rfl, rfl⟩

/-- Settles O45: the entry is written to the slot that `freeSlot` finds; that slot is the first free one in the order of the serials. -/
theorem theFaultLogKeepsPinnedEntries : Obligations.TheFaultLogKeepsPinnedEntries := by
  intro s code inst d0 d1 t n pinned slot
  obtain ⟨hlog, hserial⟩ := s.logFault_log code inst d0 d1
  refine ⟨hserial, ⟨s.faultEntry code inst d0 d1, ?_, rfl, rfl, beq_iff_eq⟩, fun k hk => ?_, fun k hk hfree hbefore => freeSlot_first hk hfree hbefore⟩
  · exact (congrArg (List.lookup slot) hlog).trans (Tbl.lookup_set_same ..)
  · exact (congrArg (List.lookup k) hlog).trans (Tbl.lookup_set_other _ _ hk)

end Sys2Proof.Machine

/-! SUPPORT. What an MPORT frame that is rejected leaves, what the rings keep, and what a flush by a frame reaches (R545 to R553). -/
namespace Sys2Proof.Machine

open Sys2Proof

/-! ## Rejected frames (R545) -/

/-- The reasons of the table "Frame rejection reasons" are 1 to 6. -/
theorem State.rejection_le (s : State) (f : SpiFrame) (master : Bool) : s.rejection f master ≤ 6 := by
  unfold State.rejection
  simp only
  split_ifs <;> decide

/-- A frame that is rejected ends with its reason. -/
theorem State.frame_of_rejected {s : State} {f : SpiFrame} {master : Bool} (h : s.rejection f master ≠ 0) :
    s.frame f master = s.frameEnds (s.rejection f master) false false [s.statusWord] := by
  unfold State.frame
  split
  · next hzero => exact absurd hzero h
  · rfl

/-- The status word shows the reason of the last frame in its bits 1 to 3, and bit 0 where there is one. -/
theorem State.statusWord_reason {s : State} (h : s.serial.reason ≤ 6) :
    s.statusWord % 2 = (if s.serial.reason = 0 then 0 else 1) ∧ s.statusWord / 2 % 8 = s.serial.reason := by
  have hword : ∃ n, s.statusWord = (if s.serial.reason = 0 then 0 else 1) + 2 * s.serial.reason + 16 * n := by
    unfold State.statusWord
    simp only
    exact ⟨(if s.serial.readEnd then 1 else 0) + (if s.serial.writeEnd then 2 else 0) + (if s.serial.replies.isEmpty then 0 else 4) + (if 1044 ≤ ringFree s.serial.commands then 8 else 0) + 16 * s.sys.hub.code + 4096 * s.serial.nextLength,
      by split_ifs <;> omega⟩
  obtain ⟨n, hn⟩ := hword
  rw [hn]
  split <;> omega

/-- Settles O56: a rejected frame ends with its reason, which counts it and stands in the next status word. -/
theorem rejectedFramesWriteNothing : Obligations.RejectedFramesWriteNothing := by
  intro s f master hrejected
  have hreason : (s.frameEnds (s.rejection f master) false false [s.statusWord]).serial.reason = s.rejection f master := rfl
  have hcounters : (s.frameEnds (s.rejection f master) false false [s.statusWord]).serial.counters = Tbl.modify 0 s.serial.counters 1 (fun v => sat 32 (v + 1)) := by
    unfold State.frameEnds State.countSerial
    rw [if_neg hrejected]
    rfl
  obtain ⟨hframeErr, hbits⟩ := State.statusWord_reason (hreason ▸ s.rejection_le f master)
  rw [State.frame_of_rejected hrejected]
  refine ⟨rfl, ?counted, fun i hi => ?others, hframeErr.trans (if_neg (hreason ▸ hrejected)), hbits⟩
  case counted =>
    rw [hcounters, Tbl.get_modify_same]
    exact Nat.min_comm ..
  case others => rw [hcounters, Tbl.get_modify_other _ _ _ hi]

/-! ## The rings (R551, R552) -/

/-- A ring that an entry with room joins stays within its size. -/
theorem entrySizes_append {l : List Bytes} {b : Bytes} (hfits : (l.map entrySize).sum ≤ 16384) (hroom : entrySize b ≤ ringFree l) : ((l ++ [b]).map entrySize).sum ≤ 16384 := by
  unfold ringFree at hroom
  rw [List.map_append, List.sum_append, List.map_singleton, List.sum_singleton]
  omega

/-- What is bound for MPORT enters the ring where nothing is held and there is room, and is held behind the rest otherwise. -/
theorem State.appendReply_serial (s : State) (b : Bytes) :
    (s.appendReply b).serial = if s.serial.held.isEmpty ∧ entrySize b ≤ ringFree s.serial.replies then { s.serial with replies := s.serial.replies ++ [b] } else { s.serial with held := s.serial.held ++ [b] } := rfl

/-- The first packet held enters the ring where there is room. -/
theorem State.replyAppend_of_held {s : State} {b : Bytes} {r : List Bytes} (h : s.serial.held = b :: r) :
    s.replyAppend = s.setSerial (fun x => if entrySize b ≤ ringFree x.replies then { x with replies := x.replies ++ [b], held := r } else x) := by
  unfold State.replyAppend State.setSerial
  simp only [h]

theorem State.replyAppend_of_none {s : State} (h : s.serial.held = []) : s.replyAppend = s := by
  unfold State.replyAppend State.setSerial
  simp only [h]

/-- Settles O57: each way into the ring keeps the order and takes only what has room. -/
theorem repliesOverTheRingAreNeverDropped : Obligations.RepliesOverTheRingAreNeverDropped := by
  refine ⟨fun s b => ?appendOrder, fun s => ?heldOrder, fun s b hfits => ⟨?appendSize, ?heldSize⟩, fun s hheld => ?ringRead⟩
  case appendOrder =>
    rw [State.appendReply_serial]
    split
    · next hroom => simp [List.isEmpty_iff.mp hroom.1]
    · simp
  case heldOrder =>
    cases hheld : s.serial.held with
    | nil => rw [State.replyAppend_of_none hheld, hheld]
    | cons b r =>
      rw [State.replyAppend_of_held hheld, State.setSerial_serial]
      split
      · simp
      · rw [hheld]
  case appendSize =>
    rw [State.appendReply_serial]
    split
    · next hroom => exact entrySizes_append hfits hroom.2
    · exact hfits
  case heldSize =>
    cases hheld : s.serial.held with
    | nil => rwa [State.replyAppend_of_none hheld]
    | cons b r =>
      rw [State.replyAppend_of_held hheld, State.setSerial_serial]
      split
      · next hroom => exact entrySizes_append hfits hroom
      · exact hfits
  case ringRead => exact if_pos (by simp [hheld])

/-! ## A flush by a WRITE frame (R553) -/

/-- A WRITE frame of one word that sets FLUSH_CMD in the register at 0x040C. -/
def flushFrame : SpiFrame := { bits := 64, words := [0x8100040C, 1], rdyWasLow := false }

/-- A packet that came over the fabric while the firmware paused, behind one entry of the command ring (log 23). -/
def arrivalBehindRing : Arrival := { origin := .fabric .up, owner := .session 0, packet := { opcode := 0x0004, cmd := { version := 3, flags := 0, tag := 0, queue := 0, sessionId := 0, paramLength := 0, target := 0, source := 0, params := [] } }, owe := none, ring := 1 }

/-- A hub whose firmware pauses, and in which that packet waits. -/
def State.withArrival : State := { State.reset with sys := { State.reset.sys with hub := .ready, fwPaused := true }, cmds := { State.reset.cmds with arrivals := [arrivalBehindRing] } }

/-- Refutes O58: a WRITE frame to 0x040C that flushes the command ring also changes the packets that wait in the command processor, which count the ring entries before them (R553, log 23). -/
theorem not_serialFramesTouchOnlyTheirBlocks : ¬ Obligations.SerialFramesTouchOnlyTheirBlocks := by
  intro h
  have hframe := (h State.withArrival flushFrame false).1
  have hcmds : (State.withArrival.frame flushFrame false).cmds = State.withArrival.cmds := by rw [hframe]
  exact absurd (congrArg (fun c => c.arrivals.map (·.ring)) hcmds) (by decide)

end Sys2Proof.Machine

/-! SUPPORT. What the end of a flash operation leaves of the flash (R556, R557). -/
namespace Sys2Proof.Machine

open Sys2Proof

theorem State.serial_finish (s : State) (serial st d : Nat) (r : Bytes) : (s.finish serial st d r).serial = s.serial := by
  obtain ⟨hframe, -⟩ := finishingTouchesOnlyTheCommandProcessor s serial st d r
  rw [hframe]

theorem State.foldl_flash {β : Type} {f : State → β → State} (h : ∀ (s : State) (b : β), (f s b).serial.flash = s.serial.flash) (l : List β) (s : State) :
    (l.foldl f s).serial.flash = s.serial.flash := by
  induction l generalizing s with
  | nil => rfl
  | cons b r ih => exact (ih _).trans (h s b)

theorem State.windowLine_flash (s : State) (o : Nat) : (s.windowLine o).serial.flash = s.serial.flash := by
  unfold State.windowLine State.flashSuspend
  split <;> rfl

theorem State.flashAsk_flash (s : State) : s.flashAsk.serial.flash = s.serial.flash := by
  unfold State.flashAsk
  split
  · split <;> rfl
  · rfl

/-- The FLASH_READ commands that waited are answered. -/
def State.answerReads (s : State) (l : List Nat) : State :=
  l.foldl (fun (s : State) r => match s.heldOf r with | some h => s.finish r stOk 0 (s.flashReadOf h.cmd.params) | none => s) s

/-- A write of SP1_CTRL that waited takes effect (R555). -/
def State.takeSp1 (s : State) : State := match s.serial.sp1Next with | some v => s.setSerial (fun x => { x with sp1Ctrl := v, sp1Next := none }) | none => s

theorem State.flashIdle_eq (s : State) :
    s.flashIdle = (State.answerReads (s.serial.winReads.foldl State.windowLine (s.setSerial (fun x => { x with winReads := [], reads := [] }))) s.serial.reads).takeSp1.flashAsk := rfl

theorem State.answerReads_flash (s : State) (l : List Nat) : (s.answerReads l).serial.flash = s.serial.flash := by
  refine State.foldl_flash (fun a r => ?_) l s
  split
  · rw [State.serial_finish]
  · rfl

theorem State.takeSp1_flash (s : State) : s.takeSp1.serial.flash = s.serial.flash := by
  unfold State.takeSp1
  split <;> rfl

/-- What waited for an operation reads the flash and changes none of it. -/
theorem State.flashIdle_flash (s : State) : s.flashIdle.serial.flash = s.serial.flash := by
  rw [State.flashIdle_eq, State.flashAsk_flash, State.takeSp1_flash, State.answerReads_flash, State.foldl_flash State.windowLine_flash]
  rfl

/-- The end of an operation leaves the flash as the operation left it. -/
theorem State.flashEnd_flash (s : State) (o : FlashOp) (outcome : Nat) : (s.flashEnd o outcome).serial.flash = s.serial.flash := by
  unfold State.flashEnd
  simp only
  rw [State.flashIdle_flash, State.serial_finish]
  rfl

/-- The bytes that an operation leaves in its region: an erased sector's, or the data anded with what stood there (log 104). -/
def State.flashResult (s : State) (o : FlashOp) : Bytes :=
  if o.erase then List.replicate o.size 0xFF else o.data.zipIdx.map (fun e => e.1 &&& s.flashByte (s.flashAddr o.addr + e.2))

theorem State.flashResult_length (s : State) (o : FlashOp) : (s.flashResult o).length = if o.erase then o.size else o.data.length := by
  unfold State.flashResult
  split <;> simp

/-- An operation that its status register shows running only notes the status. -/
theorem State.flashDone_of_busy {s : State} {o : FlashOp} {status : Byte} (hrun : s.flashRuns = some o) (hbusy : status.getLsbD 0 = true) :
    s.flashDone status = s.setSerial (fun x => { x with status }) := by
  unfold State.flashDone
  simp only [hrun]
  exact if_pos hbusy

/-- One that its status register shows done writes what it leaves in its region. -/
theorem State.flashDone_flash {s : State} {o : FlashOp} {status : Byte} (hrun : s.flashRuns = some o) (hdone : status.getLsbD 0 = false) :
    (s.flashDone status).serial.flash = Mem.writeN (fun _ => 0xFF) s.serial.flash (s.flashAddr o.addr) (s.flashResult o) := by
  unfold State.flashDone
  simp only [hrun]
  rw [if_neg (by rw [hdone]; exact Bool.false_ne_true), State.flashEnd_flash]
  rfl

/-- Settles O60: while busy nothing but the status changes; when done the region holds what the operation leaves, by the rules of the byte memories. -/
theorem flashOperationsChangeTheirRegion : Obligations.FlashOperationsChangeTheirRegion := by
  intro s o status hrun hwf t a n
  refine ⟨State.flashDone_of_busy hrun, fun hdone => ?_⟩
  have hflash : t.serial.flash = Mem.writeN (fun _ => 0xFF) s.serial.flash a (s.flashResult o) := State.flashDone_flash hrun hdone
  have hbyte : ∀ q, t.flashByte q = Mem.read (fun _ => 0xFF) (Mem.writeN (fun _ => 0xFF) s.serial.flash a (s.flashResult o)) q := fun q => by rw [← hflash]; rfl
  have hlength : (s.flashResult o).length = n := s.flashResult_length o
  refine ⟨by rw [hflash]; exact Mem.writeN_wf _ _ _ _ hwf, fun herase i hi => ?erased, fun hprogram i hi => ?programmed, fun q hq => ?kept⟩
  case erased =>
    have hi' : i < (s.flashResult o).length := by rw [s.flashResult_length, if_pos herase]; exact hi
    rw [hbyte, Mem.read_writeN _ _ _ _ _ hwf hi']
    simp [State.flashResult, herase, hi]
  case programmed =>
    have hi' : i < (s.flashResult o).length := by rw [s.flashResult_length, if_neg (by simp [hprogram])]; exact hi
    rw [hbyte, Mem.read_writeN _ _ _ _ _ hwf hi']
    simp [State.flashResult, hprogram, hi, a]
  case kept =>
    rw [hbyte, Mem.read_writeN_other _ _ _ _ _ (by rw [hlength]; exact hq)]
    rfl

end Sys2Proof.Machine

/-! SUPPORT. What the rows of the serial ports do. -/
namespace Sys2Proof.Machine

open Sys2Proof

/-- The kind of row that brings a frame: by its operation, and for MAILBOX by its direction. -/
def frameKind (f : SpiFrame) : Nat := if headerOp (spiHeader f) = 3 ∧ headerPulls (spiHeader f) then 4 else headerOp (spiHeader f)

/-- In slave mode, once BOOT is over, SP0 takes a frame by the row of its kind (R549). -/
theorem State.slaveFrame_of_kind {s : State} {f : SpiFrame} {kind : Nat} (hreset : s.sys.hub ≠ .reset) (hboot : s.sys.hub ≠ .boot) (hslave : s.serial.sp0Ctrl.getLsbD 0 = false) (hkind : frameKind f = kind) :
    s.slaveFrame f kind = s.frame f false :=
  if_neg (by
    show ¬((!s.sp0Served) = true ∨ s.serial.sp0Ctrl.getLsbD 0 = true ∨ ((!f.words.isEmpty) = true ∧ frameKind f ≠ kind))
    simp only [State.sp0Served, hslave, hkind]
    simp [hreset, hboot])

/-- What a frame does that is not rejected, by its operation (R544). -/
def State.commitFrame (s : State) (f : SpiFrame) : State :=
  match headerOp (spiHeader f) with
  | 0 => s.frameEnds 0 false false [s.statusWord]
  | 1 => s.frameRead (spiHeader f)
  | 2 => s.frameWrite f (spiHeader f)
  | _ => if headerPulls (spiHeader f) then s.framePull (spiHeader f) else s.framePush f (spiHeader f)

theorem State.frame_of_accepted {s : State} {f : SpiFrame} {master : Bool} (h : s.rejection f master = 0) : s.frame f master = s.commitFrame f := by
  unfold State.frame
  simp only [h]
  rfl

/-- Settles O28: each row is an event whose meaning, where the clause's conditions hold, takes the branch written out. -/
theorem serialPortRowsTakeEffect : Obligations.SerialPortRowsTakeEffect := by
  refine ⟨fun f => ?nop, fun f => ?read, fun f => ?write, fun f => ?push, fun f => ?pull, fun f => ?poll, fun b r p hpacket => ?command, fun b r hpacket => ?noCommand, fun b r => ?append,
    ?flushCommands, ?flushReplies, fun value => ?sp0, fun value => ?sp1, ?snap, ?clear, fun value => ?window, fun addr value hlo hhi => ?image, fun addr value => ?register⟩
  case nop | read | write =>
    refine takes_of_runEvent (fun _ _ => rfl) fun s hreset hboot ⟨hslave, haccepted, hop⟩ => ?_
    rw [State.slaveFrame_of_kind hreset hboot hslave (by simp [frameKind, hop]), State.frame_of_accepted haccepted]
    simp only [State.commitFrame, hop]
  case push | pull =>
    refine takes_of_runEvent (fun _ _ => rfl) fun s hreset hboot ⟨hslave, haccepted, hop, hpulls⟩ => ?_
    rw [State.slaveFrame_of_kind hreset hboot hslave (by simp [frameKind, hop, hpulls]), State.frame_of_accepted haccepted]
    simp only [State.commitFrame, hop, hpulls]
    rfl
  case poll =>
    exact takes_of_runEvent (fun _ _ => rfl) fun s hreset hboot ⟨hmaster, hdue⟩ => if_neg (by simp [State.sp0Served, hreset, hboot, hmaster, hdue])
  case command | noCommand =>
    refine takes_of_runEvent (fun _ _ => rfl) fun s hreset hboot ⟨hruns, hnone, hnext⟩ => ?_
    simp [State.ringRead, hreset, hboot, hruns, hnone, hnext, hpacket]
  case append =>
    refine takes_of_runEvent (fun _ _ => rfl) fun s _ _ ⟨hheld, hroom⟩ => ?_
    rw [State.replyAppend_of_held hheld]
    exact congrArg (fun x => { s with serial := x }) (if_pos hroom)
  case flushCommands | flushReplies | sp0 | sp1 | snap | clear | window | register => exact takes_of_runEvent (fun _ _ => rfl) fun _ _ _ _ => rfl
  case image => exact takes_of_runEvent (fun _ _ => rfl) fun s _ _ _ => if_pos ⟨hlo, hhi⟩

end Sys2Proof.Machine

/-! SUPPORT. What the rows of fabric time do. -/
namespace Sys2Proof.Machine

open Sys2Proof

/-! ## What is due -/

/-- What is due at a time, if there is one, is due where that time has come. -/
theorem any_lt_of_due {o : Option Nat} {f : Nat → Nat} {now : Nat} (h : ∀ a, o = some a → f a ≤ now) : o.any (fun a => decide (now < f a)) = false := by
  cases o with
  | none => rfl
  | some a => exact decide_eq_false (Nat.not_lt.mpr (h a rfl))

/-! ## TIME messages (R403) -/

/-- A TIME frame that passes its checks at a port whose link is up is taken, and its message acted on where it is of the row's kind. -/
theorem State.timeFrame_of_passes {s : State} {p : Port} {f : Frame} {kind : Nat} (take lose : State → State) (hrec : s.receives p = true) (hup : s.linkUp p = true) (hpasses : s.timeReason p f = 0)
    (hkind : u8 f.payload 0 = kind) : s.timeFrame p f kind take lose = take (s.tookTime p f) := by
  unfold State.timeFrame
  rw [if_neg (by simp [hrec, hup])]
  simp only [hpasses]
  rw [if_neg (by simp), if_pos hkind]

/-- One that fails a check is refused, and what it belongs to is lost. -/
theorem State.timeFrame_of_fails {s : State} {p : Port} {f : Frame} {kind : Nat} (take lose : State → State) (hrec : s.receives p = true) (hup : s.linkUp p = true) (hfails : s.timeReason p f ≠ 0) :
    s.timeFrame p f kind take lose = lose (s.refuseTime p (s.timeReason p f)) := by
  unfold State.timeFrame
  rw [if_neg (by simp [hrec, hup])]
  exact if_pos hfails

/-! ## PPS_IN (R425, R427) -/

/-- Where local source 2 is not in force an edge of PPS_IN moves no time. -/
theorem State.ppsFollow_of_other {s : State} (h : ¬(s.sys.localMode = true ∧ s.time.source = 2)) (stamp : Int) : s.ppsFollow stamp = s := by
  refine if_pos ?_
  by_cases hlocal : s.sys.localMode = true
  · exact .inr (.inl fun hsource => h ⟨hlocal, hsource⟩)
  · exact .inl (by simp [hlocal])

/-! ## SYNC (R409 to R419) -/

/-- The hub after a SYNC has come on a port: counted, and its flags noted. -/
def State.hearSync (s : State) (p : Port) (b : Bytes) : State :=
  let s := s.setTimePort p (fun x => { x with syncRcvd := sat 32 (x.syncRcvd + 1) })
  State.noteFlags { s with time := { s.time with flags := b.getD 1 0, parentCode := u8 b 7 % 8, parentHops := u8 b 6, parentRoot := bit (u8 (s.link p).peer 11) 2 } }

/-- Whether a sequence number follows that of the last SYNC accepted. -/
def State.followsSync (s : State) (seq : Nat) : Bool :=
  match s.time.syncSeq with
  | none => true
  | some q => decide (0 < (seq + 65536 - q) % 65536) && decide ((seq + 65536 - q) % 65536 < 32768)

/-- The hub takes the offset of a SYNC that is accepted, by the phase in force. -/
def State.acceptSync (s : State) (p : Port) (b : Bytes) (rx d : Int) : State :=
  let theta := rx - (u64 b 112 * oneNs + i64 b 120 * 16777216) - d - psTime (s.timePort p).asym
  let tau := match s.time.syncRx with | some r => rx - r | none => 0
  let s := State.noteSync { s with time := { s.time with accepted := sat 32 (s.time.accepted + 1), offset := theta, syncAt := some s.now, syncSeq := some (u16 b 2), syncRx := some rx } } theta
  match s.time.phase with
  | 2 | 3 | 4 => s.acquire theta tau rx
  | 5 | 6 => s.lockedSync theta tau
  | _ => s.holdoverSync theta tau

/-- Once the hub acquires time, a SYNC of its source is accepted where the port holds a delay, the sequence follows, and both its times lie on this side of the last step; else it is dropped. -/
theorem State.syncTake_of_mean {s : State} {p : Port} {f : Frame} {rx d : Int} (hsource : s.timeSource = some p) (hhub : s.sys.hub ≠ .discover) (hstarted : s.time.phase ≠ 0) (hmean : (s.timePort p).mean = some d) :
    s.syncTake p f rx =
      if !s.followsSync (u16 f.payload 2) ∨ s.acrossStep rx ∨ s.acrossStep (rx - d - psTime (s.timePort p).asym) ∨ s.time.phase < 2 ∨ s.time.phase = 9 then (s.hearSync p f.payload).syncDropped
      else (s.hearSync p f.payload).acceptSync p f.payload rx d := by
  have hphase : ∀ g : TimePort → TimePort, (s.setTimePort p g).time.phase = s.time.phase := fun _ => rfl
  have hkept : ((s.hearSync p f.payload).timePort p).asym = (s.timePort p).asym :=
    (congrArg TimePort.asym (s.timePort_setTimePort p fun x => { x with syncRcvd := sat 32 (x.syncRcvd + 1) }) :)
  unfold State.syncTake
  rw [if_neg (not_or.mpr ⟨not_not_intro hsource, hhub⟩)]
  simp only [State.timePort_setTimePort, hmean, hphase, hstarted, false_and, if_false]
  unfold State.acceptSync
  rw [hkept]
  rfl

/-- Settles O24: each row is an event whose meaning, where the clause's conditions hold, takes the branch written out; the edges of PPS_IN and the level of TREF_IN (log 81), what a break does to a hub that acquires time (log 80), and from when a changed PPS_OUT counts (log 82) are the model's readings. -/
theorem timeRowsTakeEffect : Obligations.TimeRowsTakeEffect := by
  refine ⟨fun port txFrac => ?syncSend, fun port t1 => ?ask, fun port f t2 t3 => ?answer, fun port f t4 t1 => ?delay, fun port f rx d => ?sync, fun port f rx => ?syncRefused,
    fun a => ?missing, fun a => ?missingHoldover, fun a => ?bridgeLost, fun a => ?bridgeWait, fun codes b => ?pps, fun codes b => ?ppsLocal, fun codes => ?ppsNone, fun present freqErr => ?tref,
    fun from' o w => ?ppsOutNew, ?ppsOut⟩
  case syncSend =>
    exact takes_of_runEvent (fun _ _ => rfl) fun s hreset hboot ⟨hgives, hdue⟩ => if_neg (by simp [hgives, hreset, hboot, any_lt_of_due hdue])
  case ask =>
    exact takes_of_runEvent (fun _ _ => rfl) fun s _ _ ⟨hsource, hup, hdue⟩ => if_neg (by simpa [hsource, hup] using any_lt_of_due hdue)
  case answer =>
    refine takes_of_runEvent (fun _ _ => rfl) fun s _ _ ⟨hrec, hup, hpasses, hkind, hstep⟩ => ?_
    exact (State.timeFrame_of_passes _ _ hrec hup hpasses hkind).trans (if_neg (by simp [hstep]))
  case delay =>
    refine takes_of_runEvent (fun _ _ => rfl) fun s _ _ ⟨hrec, hup, hpasses, hkind, hsource, hasked, hlimit⟩ => ?_
    refine (State.timeFrame_of_passes _ _ hrec hup hpasses hkind).trans ?_
    unfold State.delayTake
    rw [if_neg (not_not_intro hsource)]
    simp only [hasked]
    rw [if_neg (not_not_intro rfl), if_neg (Int.not_lt.mpr hlimit)]
  case sync =>
    refine takes_of_runEvent (fun _ _ => rfl) fun s _ _ ⟨hrec, hup, hpasses, hkind, hsource, hhub, hmean, hphase, hlocal, hrxLo, hrxHi, htxLo, htxHi, hseq⟩ => ?_
    have hfollows : (s.tookTime port f).followsSync (u16 f.payload 2) = true := by
      unfold State.followsSync
      split
      · rfl
      · next q hq => simp [hseq q hq]
    refine (State.timeFrame_of_passes _ _ hrec hup hpasses hkind).trans ?_
    rw [State.syncTake_of_mean hsource hhub (by omega) hmean]
    have hacquires : ¬(s.tookTime port f).time.phase < 2 := Nat.not_lt.mpr hphase
    exact if_neg (by simp [-not_lt, hfollows, State.acrossStep, hrxLo, hrxHi, htxLo, htxHi, hacquires, hlocal])
  case syncRefused =>
    refine takes_of_runEvent (fun _ _ => rfl) fun s _ _ ⟨hrec, hup, hfails, hsource, hhub⟩ => ?_
    exact (State.timeFrame_of_fails _ _ hrec hup hfails).trans (if_pos ⟨hsource, hhub⟩)
  case missing | missingHoldover =>
    refine takes_of_runEvent (fun _ _ => rfl) fun s _ _ ⟨hat, hover, hphase⟩ => ?_
    simp only [State.syncMissing, hat]
    rw [if_neg (Nat.not_lt.mpr hover)]
    simp only [hphase, if_true, if_false]
  case bridgeLost =>
    refine takes_of_runEvent (fun _ _ => rfl) fun s _ _ ⟨hat, hphase, hover⟩ => ?_
    simp only [State.bridgeEnd, hat]
    rw [if_neg (Nat.not_le.mpr hover), if_pos hphase]
  case bridgeWait =>
    refine takes_of_runEvent (fun _ _ => rfl) fun s _ _ ⟨hat, hlow, hhigh, hover⟩ => ?_
    simp only [State.bridgeEnd, hat]
    rw [if_neg (Nat.not_le.mpr hover), if_neg (by omega), if_pos ⟨hlow, hhigh⟩]
  case pps =>
    refine takes_of_runEvent (fun _ _ => rfl) fun s _ _ ⟨hpick, hother⟩ => ?_
    simp only [State.ppsEdge, hpick]
    refine State.ppsFollow_of_other ?_ _
    simp only [(State.takePair_alike ..).sys, State.takePair_time]
    exact hother
  case ppsLocal =>
    refine takes_of_runEvent (fun _ _ => rfl) fun s _ _ ⟨hpick, _⟩ => ?_
    simp only [State.ppsEdge, hpick]
  case ppsNone =>
    refine takes_of_runEvent (fun _ _ => rfl) fun s _ _ hpick => ?_
    simp only [State.ppsEdge, hpick]
  case tref => exact fun _ _ _ => rfl
  case ppsOutNew =>
    refine takes_of_runEvent (fun _ _ => rfl) fun s _ _ ⟨hnext, hcome⟩ => ?_
    have htaken : s.takePps = { s with time := { s.time with ppsOffset := o, ppsWidth := w, ppsNext := none } } := by
      simp only [State.takePps, hnext]
      exact if_pos hcome
    simp only [State.ppsSecond, htaken]
  case ppsOut =>
    refine takes_of_runEvent (fun _ _ => rfl) fun s _ _ ⟨hnext, henabled, hinstant⟩ => ?_
    have htaken : s.takePps = s := by simp only [State.takePps, hnext]
    simp only [State.ppsSecond, htaken]
    exact if_pos ⟨henabled, hinstant⟩

end Sys2Proof.Machine

/-! SUPPORT. What the rows of the safety island, of memory protection, of lost dies and of dead islands do. -/
namespace Sys2Proof.Machine

open Sys2Proof

/-- A row that is an event, and acts in RESET and BOOT as well, completes with an effect where its meaning, once the row is due, is that effect. -/
theorem comes_of_event {row : Nat → Instr} {due : State → Prop} {f effect : State → State} (hrow : ∀ t s, exec (row t) s = .next (s.event t f)) (hf : ∀ s : State, due s → f s = effect s) : Comes row due effect := by
  intro t s hdue
  rw [hrow, State.event, hf _ hdue]

/-- A change of one channel's partner leaves the channel. -/
theorem State.chan_setSafe_other (s : State) (c : SafeCh) (f : SafeChan → SafeChan) : (s.setSafe (SafeCh.other c) f).safety.chan c = s.safety.chan c := by
  cases c <;> rfl

/-- The message of the cycle that the partner has sent reaches a channel that is not held in reset (R503). -/
theorem State.crossReceive_of_out {s : State} {c : SafeCh} {m : SafeMsg} (hout : (s.safety.chan (SafeCh.other c)).out = some m) (hheld : (s.safety.chan c).held = false) :
    s.crossReceive c = (s.setSafe (SafeCh.other c) (fun x => { x with out := none })).setSafe c (fun x =>
      { x with heard := some m, silent := 0, inWindow := x.inWindow + 1, partnerUsed := if m.releases < x.partnerUsed then m.used else x.partnerUsed }) := by
  unfold State.crossReceive
  simp only [hout, State.chan_setSafe_other, hheld]
  exact if_neg Bool.false_ne_true

/-- The island of a port other than UP is no Fatal fault: the port goes out of service (R534). -/
theorem State.islandDead_of_port {s : State} {p : Port} (hreset : s.sys.hub ≠ .reset) (hboot : s.sys.hub ≠ .boot) (hport : p ≠ .up) : s.islandDead (.port p) = s.killPort p :=
  (if_neg (not_or.mpr ⟨hreset, hboot⟩)).trans (if_pos hport)

/-- An island that is no port's is (R534). -/
theorem State.islandDead_of_other {s : State} {i : Island} (hreset : s.sys.hub ≠ .reset) (hboot : s.sys.hub ≠ .boot) (hother : ∀ p, i ≠ .port p) :
    s.islandDead i = (s.logFault 0x00F1 0 0 0).setFaults (fun f => { f with dead := f.dead ++ [(Island.code i, s.now)] }) := by
  refine (if_neg (not_or.mpr ⟨hreset, hboot⟩)).trans ?_
  cases i with
  | port p => exact absurd rfl (hother p)
  | grid | mash | kiln | mem => rfl

/-- Settles O27: each row is an event whose meaning, where the clause's conditions hold, takes the branch written out; the order of the steps of a cycle (log 98), the latches taken over from the partner (log 99), pulses (log 100), pending sets (log 101), scrub passes (log 102), what ends at a lost die's end strobe (log 103) and the port of a dead island (log 68) are the model's readings. -/
theorem safetyAndFaultRowsTakeEffect : Obligations.SafetyAndFaultRowsTakeEffect := by
  refine ⟨fun ch sin sfb srst selfTestOk => ?cycle, fun ch m => ?compare, fun ch pair sfbLow hpair => ?pulse, fun ch => ?rail, fun ch => ?enabled, fun ch => ?disabled, ?pending, fun ch => ?start,
    fun store word double hword => ?ecc, ?scrubStart, fun a => ?scrubEnd, fun die cause lanes hdie => ?lost, fun die last => ?endStrobe, fun i hother => ?island, fun port hport => ?port⟩
  case cycle => exact comes_of_event (fun _ _ => rfl) fun s hheld => if_neg (by rw [hheld]; exact Bool.false_ne_true)
  case compare => exact comes_of_event (fun _ _ => rfl) fun s ⟨hout, hheld⟩ => State.crossReceive_of_out hout hheld
  case pulse => exact comes_of_event (fun _ _ => rfl) fun s ⟨hheld, hends⟩ => if_neg (by simp [hheld, hends, hpair])
  case rail => exact comes_of_event (fun _ _ => rfl) fun _ _ => rfl
  case enabled | disabled => exact comes_of_event (fun _ _ => rfl) fun s hlevel => if_neg (not_not_intro hlevel.symm)
  case pending => exact comes_of_event (fun _ _ => rfl) fun s ⟨hwaits, hconfirm, hover⟩ => if_pos ⟨hwaits, by rw [hconfirm]; rfl, hover⟩
  case start => exact comes_of_event (fun _ _ => rfl) fun s hheld => if_neg (by simp [hheld])
  case ecc => exact takes_of_runEvent (fun _ _ => rfl) fun s hreset hboot _ => if_neg (by simp [hword, hreset, hboot])
  case scrubStart =>
    exact takes_of_runEvent (fun _ _ => rfl) fun s _ _ ⟨hacts, hasked, hfrom, hdue⟩ => if_neg (by simp [hacts, hasked, hfrom, hdue])
  case scrubEnd => exact takes_of_runEvent (fun _ _ => rfl) fun s _ _ hfrom => if_neg (by simp [hfrom])
  case lost => exact takes_of_runEvent (fun _ _ => rfl) fun s hreset hboot hstands => if_neg (by simp [hdie, hstands, hreset, hboot])
  case endStrobe =>
    refine takes_of_runEvent (fun _ _ => rfl) fun s _ _ ⟨hstrobe, hcome⟩ => ?_
    simp only [State.endLost, hstrobe]
    exact if_neg (Nat.not_lt.mpr hcome)
  case island => exact takes_of_runEvent (fun _ _ => rfl) fun s hreset hboot _ => State.islandDead_of_other hreset hboot hother
  case port => exact takes_of_runEvent (fun _ _ => rfl) fun s hreset hboot _ => State.islandDead_of_port hreset hboot hport

end Sys2Proof.Machine

/-! SUPPORT. What the rows of calibration, power and the sluice do. -/
namespace Sys2Proof.Machine

open Sys2Proof

/-! ## Calibration -/

/-- None of what makes `State.tdcMeasured` stand holds at an idle TDC cell of a powered pan (R464). -/
theorem State.tdcMeasured_guard {s : State} {ch : Nat} (hch : ch < 256) (hpower : (s.pan (panOf ch)).power = .on) (hbusy : (s.chan ch).tdcBusy ≤ s.now) (hpending : (s.chan ch).tdcPending = [])
    (hdie : s.dieLost (dieOf (panOf ch)) = false) :
    ¬(256 ≤ ch ∨ (s.pan (panOf ch)).power ≠ .on ∨ s.now < (s.chan ch).tdcBusy ∨ (!(s.chan ch).tdcPending.isEmpty) = true ∨ s.dieLost (dieOf (panOf ch)) = true) := by
  simp [hch, hpower, hbusy, hpending, hdie]

/-- None of what makes `State.forePanStart` stand holds at the epoch of a granted pass in READY or RUN (R470). -/
theorem State.forePanStart_guard {s : State} {f : ForePass} (hgranted : f.granted.any (fun g => s.passEpoch f g == s.now) = true) (hepoch : s.grid.isEpoch s.now = true) (hhub : s.sys.hub = .ready ∨ s.sys.hub = .run) :
    ¬((!f.granted.any (fun g => s.passEpoch f g == s.now)) = true ∨ (!s.grid.isEpoch s.now) = true ∨ (!decide (s.sys.hub = .ready ∨ s.sys.hub = .run)) = true) := by
  simp [hgranted, hepoch, hhub]

/-- The end of a pan's interruption notes the present time, which accounting for its samples leaves (R471, R472). -/
theorem State.calHoles_now (s : State) (p stop : Nat) : (s.calHoles p stop).now = s.now :=
  congrArg (fun t => t.counter / 2 ^ 40) (s.calHoles_time p stop)

/-! ## Rows -/

/-- Settles O26: each row is an event whose meaning, where the clause's conditions hold, takes the branch written out; the handing back of a loan (logs 92 and 93), the epochs of a foreground pass (log 94), when DORMANT's conditions count (log 95), and which request is granted, returned or ended (logs 96 and 97) are the model's readings. -/
theorem calibrationAndPowerRowsTakeEffect : Obligations.CalibrationAndPowerRowsTakeEffect := by
  refine ⟨fun temps => ?trigger, fun weights offset r c hpan => ?loanPasses, fun weights offset r c m hpan => ?loanRejected, fun ch fs hch => ?tdc, fun pan vcal senseErr f => ?next, fun pan vcal senseErr f => ?first,
    fun pan vcal senseErr f => ?refused, fun pan results f => ?panEnd, fun group hgroup hports => ?idle, fun group hgroup hports => ?wake, ?dormant, ?awake, ?hold, fun port => ?flash, fun port => ?training, fun port => ?scrub,
    fun recovery r => ?grant, fun op => ?tokens, fun recovery r => ?timeout⟩
  case trigger | flash | training | scrub | tokens => exact takes_of_runEvent (fun _ _ => rfl) fun _ _ _ _ => rfl
  case loanPasses | loanRejected =>
    refine takes_of_runEvent (fun _ _ => rfl) fun s _ _ ⟨hrotation, hasked, hloan, hjudged⟩ => ?_
    have hown : c ≠ 32 := Nat.ne_of_lt hpan
    simp only [State.loanEnd, hrotation, hasked, hown, hloan, if_false, ne_eq, not_true, hjudged]
  case tdc =>
    exact takes_of_runEvent (fun _ _ => rfl) fun s _ _ ⟨hpower, hbusy, hpending, hdie⟩ => if_neg (State.tdcMeasured_guard hch hpower hbusy hpending hdie)
  case next =>
    refine takes_of_runEvent (fun _ _ => rfl) fun s _ _ ⟨hfore, hentered, hrunning, hfirst, hstrobe, hfree, hsoon⟩ => ?_
    simp only [State.forePanStart, hfore]
    rw [if_pos hentered, if_neg (by simp [hrunning, hfirst, hstrobe, hfree, hsoon])]
  case first =>
    refine takes_of_runEvent (fun _ _ => rfl) fun s _ _ ⟨hfore, hentered, hgranted, hepoch, hhub, hcal, hsense⟩ => ?_
    simp only [State.forePanStart, hfore]
    rw [if_neg (by simp [hentered]), if_neg (State.forePanStart_guard hgranted hepoch hhub)]
    exact if_neg (not_or.mpr ⟨Nat.not_lt.mpr hcal, Nat.not_lt.mpr hsense⟩)
  case refused =>
    refine takes_of_runEvent (fun _ _ => rfl) fun s _ _ ⟨hfore, hentered, hgranted, hepoch, hhub, hfails⟩ => ?_
    simp only [State.forePanStart, hfore]
    rw [if_neg (by simp [hentered]), if_neg (State.forePanStart_guard hgranted hepoch hhub)]
    exact if_pos hfails
  case panEnd =>
    refine takes_of_runEvent (fun _ _ => rfl) fun s _ _ ⟨hfore, hrunning, hover⟩ => ?_
    have hnow : ((s.calHoles pan s.now).setPan pan (fun x => { x with calUntil := none })).now = s.now := s.calHoles_now pan s.now
    simp only [State.forePanEnd, hfore, hnow]
    refine (if_neg (by simp [hrunning, hover])).trans ?_
    rfl
  case idle => exact takes_of_runEvent (fun _ _ => rfl) fun s _ _ ⟨hbusy, hdue⟩ => if_neg (by simp [hports, Nat.not_le.mpr hgroup, hbusy, hdue])
  case wake => exact takes_of_runEvent (fun _ _ => rfl) fun s _ _ hbusy => if_neg (by simp [hports, Nat.not_le.mpr hgroup, hbusy])
  case dormant => exact takes_of_runEvent (fun _ _ => rfl) fun s _ _ ⟨hhub, hcalm, hhold, hdue⟩ => if_neg (by simp [hhub, hcalm, hhold, hdue])
  case awake =>
    refine takes_of_runEvent (fun _ _ => rfl) fun s _ _ ⟨hhub, hwakes⟩ => if_neg ?_
    rintro (hnot | ⟨htolerant, hnone⟩)
    · exact hnot hhub
    · exact hwakes.elim (fun hfalse => by simp [hfalse] at htolerant) (fun hsome => hsome (List.isEmpty_iff.mp hnone))
  case hold => exact takes_of_runEvent (fun _ _ => rfl) fun s _ _ hover => if_pos hover
  case grant =>
    refine takes_of_runEvent (fun _ _ => rfl) fun s _ _ hgrantable => ?_
    simp only [State.sluiceGrant, hgrantable]
  case timeout =>
    refine takes_of_runEvent (fun _ _ => rfl) fun s _ _ hover => ?_
    simp only [State.sluiceTimeout, hover]

end Sys2Proof.Machine

/-! SUPPORT. What the rows of twins and gangs do. -/
namespace Sys2Proof.Machine

open Sys2Proof

/-! ## Messages of the twin (R435) -/

/-- A byte past a message's first one. -/
theorem u8_drop (b : Bytes) (n i : Nat) : u8 (b.drop n) i = u8 b (n + i) := by
  simp [u8, List.getD_eq_getElem?_getD, List.getElem?_drop]

/-- A COPY goes to the standby's alignment (R443). -/
theorem State.twinRow_copy (s : State) {m : Bytes} (hkind : u8 m 0 = 2) : s.twinRow 2 m = s.copyTake m := by
  simp only [State.twinRow, State.twinMessage, hkind, if_pos]
  rfl

/-- A COPY_ACK goes to the release of records (R444). -/
theorem State.twinRow_copyAck (s : State) {m : Bytes} (hkind : u8 m 0 = 3) : s.twinRow 3 m = s.copyAck m := by
  simp only [State.twinRow, State.twinMessage, hkind, if_pos]
  rfl

/-- A MIRROR carries a packet, which comes to the standby where the firmware does not pause (R440, R92). -/
theorem State.twinRow_mirror {s : State} {m : Bytes} {p : Packet} (hkind : u8 m 0 = 4) (hpacket : packetOf (m.drop 5) = some p) (hpause : s.sys.fwPaused = false) :
    s.twinRow 4 m = s.mirrorArrive (u32 m 1) p := by
  simp only [State.twinRow, State.twinMessage, hkind, hpacket, if_pos, State.controlPacket, hpause]
  rfl

/-- A MIRROR_DONE goes to its mirror (R440). -/
theorem State.twinRow_mirrorDone (s : State) {m : Bytes} (hkind : u8 m 0 = 5) : s.twinRow 5 m = s.mirrorDone m := by
  simp only [State.twinRow, State.twinMessage, hkind, if_pos]
  rfl

/-- A RELAY carries a packet, which comes to the gang partner where the firmware does not pause (R453, R92). -/
theorem State.twinRow_relay {s : State} {m : Bytes} {p : Packet} (hkind : u8 m 0 = 6) (hpacket : packetOf (m.drop 1) = some p) (hpause : s.sys.fwPaused = false) :
    s.twinRow 6 m = s.relayArrive p := by
  simp only [State.twinRow, State.twinMessage, hkind, hpacket, if_pos, State.controlPacket, hpause]
  rfl

/-- A RELAY_REPLY goes to the command that waits for it (R453). -/
theorem State.twinRow_relayReply (s : State) {m : Bytes} (hkind : u8 m 0 = 7) : s.twinRow 7 m = s.relayReply m := by
  simp only [State.twinRow, State.twinMessage, hkind, if_pos]
  rfl

/-- A trigger of a linked group goes to the group of the same number (R454). -/
theorem State.twinRow_linkedTrigger (s : State) {m : Bytes} (hkind : u8 m 0 = 8) : s.twinRow 8 m = s.linkedTrigger m := by
  simp only [State.twinRow, State.twinMessage, hkind, if_pos]
  rfl

/-! ## What the messages do -/

/-- A relayed command that fails no check is admitted in the session held for the lead, as a dry run where its session id says so (R42, R453). -/
theorem State.relayArrive_of_clear {s : State} {p : Packet} (hmode : s.twin.mode = 2) (hpaired : s.twin.paired = true)
    (hclear : ((versionError { p.cmd with target := 0, source := 0 } none).or (shapeError { p.cmd with target := 0, source := 0 } (p.cmd.version == 2))).or (s.slotError .relay { p.cmd with target := 0, source := 0 }) = none) :
    s.relayArrive p =
      let c : Cmd := { p.cmd with target := 0, source := 0, flags := if p.cmd.sessionId = 1 then p.cmd.flags ||| 4 else p.cmd.flags }
      let a := s.admitCmd p.opcode (.fabric .twin) c .relay p.cmd.version (isImmediate p.opcode)
      if a.1.immediate then a.2.startCmd a.1 else a.2 := by
  refine (if_neg (by simp [hmode, hpaired])).trans ?_
  simp only [hclear]
  by_cases hdry : p.cmd.sessionId = 1
  · simp only [hdry, if_pos]
  · simp only [hdry, if_neg, not_false_eq_true]

/-- The partner's final reply to a command passed on gives that command's reply, whole for TWIN_RELAY (R453). -/
theorem State.relayReply_of_reply {s : State} {m : Bytes} {p : Packet} {x : Relay} (hpacket : packetOf (m.drop 1) = some p) (hreply : p.cmd.tag.toNat < 128) (hfinal : u8 m 17 ≠ stAccepted)
    (hwaits : s.twin.relays.find? (fun e => e.key == relayKey p) = some x) (hown : (s.heldOf x.ref).any (fun h => h.opcode == 0x0005 || cmdDryRun h.cmd) = false) :
    s.relayReply m = (s.setTwin (fun w => { w with relays := w.relays.filter (fun e => e.ref != x.ref) })).finish x.ref (u8 m 17) (u8 m 18)
      (if (s.heldOf x.ref).any (fun h => h.opcode == 0x0B13) then relayResult (m.drop 1) else m.drop 21) := by
  have habort : (s.heldOf x.ref).any (fun h => h.opcode == 0x0005) = false := by
    cases hheld : s.heldOf x.ref <;> simp_all
  have hdry : (s.heldOf x.ref).any (fun h => cmdDryRun h.cmd) = false := by
    cases hheld : s.heldOf x.ref <;> simp_all
  have hnotice : decide (128 ≤ p.cmd.tag.toNat) = false := decide_eq_false (Nat.not_le.mpr hreply)
  unfold State.relayReply
  simp only [hpacket, hnotice, hwaits, habort, hdry, u8_drop, List.drop_drop, Bool.false_eq_true, if_false, hfinal, false_and]

/-- The pair timeout of the one pairing command under way, where no pair stands: the hub forgets its twin, and the command ends INTERNAL (R458). -/
theorem State.pairingTimeout_of_one {s : State} {r a : Nat} (hrefs : s.twin.pairRefs = [(r, a)]) (hpaired : s.twin.paired = false) (hlate : a + 10000000000 ≤ s.now) :
    s.pairingTimeout = (State.twinNone (s.setTwin (fun w => { w with pairRefs := [] }))).finish r stInternal 0 [] := by
  have hdone : (s.setTwin (fun w => { w with pairRefs := w.pairRefs.filter (fun e => !decide (e.2 + 10000000000 ≤ s.now)) })) = s.setTwin (fun w => { w with pairRefs := [] }) := by
    simp [State.setTwin, hrefs, hlate]
  have hunpair : State.unpair (s.setTwin (fun w => { w with pairRefs := [] })) = State.twinNone (s.setTwin (fun w => { w with pairRefs := [] })) := if_pos ⟨rfl, by simp [State.setTwin, hpaired]⟩
  unfold State.pairingTimeout
  simp only [hdone, hunpair, hrefs, List.filter_cons, hlate, decide_true, if_pos, List.filter_nil, List.isEmpty_cons, Bool.false_eq_true, if_false, List.foldl_cons, List.foldl_nil]

/-- Settles O25: each row is an event whose meaning, where the clause's conditions hold, takes the branch written out; claims and the duty keeper (log 83), the copy (log 84), synchronisation (log 85), mirrors (log 86), the swap's hand-over (log 87), relays (log 88), mode none (log 89), retained records (log 90), the messages' kinds (log 91) and the end of a pairing that did not form (log 112) are the model's readings. -/
theorem twinRowsTakeEffect : Obligations.TwinRowsTakeEffect := by
  refine ⟨?linkBeat, ?pinBeat, fun msg hkind hlen => ?linkTake, fun msg => ?pinTake, ?linkDead, ?pinDead, fun level => ?dutyIn, fun a => ?claimStrapped, fun a => ?claimPlain, ?keeper, ?cycle, fun n => ?newCycle,
    fun msg hkind hlen => ?copy, fun msg x hkind => ?ack, fun msg p hkind hpacket => ?mirror, fun msg x hkind => ?done, fun number x => ?late, fun msg p hkind hpacket => ?relay,
    fun msg p x hkind hpacket hreply hfinal => ?reply, fun msg hkind hgroup => ?trigger, fun record hlen => ?record, ?yield, fun r a => ?pairing, ?formed, fun x => ?copyLate⟩
  case linkBeat | pinBeat =>
    refine takes_of_runEvent (fun _ _ => rfl) fun s _ _ ⟨hruns, hdue⟩ => ?_
    exact (if_neg (by simp [hruns])).trans (if_neg (by simp [any_lt_of_due hdue]))
  case linkTake => exact takes_of_runEvent (fun _ _ => rfl) fun s _ _ hmode => (if_neg hmode).trans (if_pos ⟨hkind, hlen⟩)
  case pinTake => exact takes_of_runEvent (fun _ _ => rfl) fun s _ _ hmode => if_neg hmode
  case linkDead | pinDead => exact takes_of_runEvent (fun _ _ => rfl) fun s _ _ hdead => if_neg (by simp [hdead])
  case dutyIn => exact comes_of_event (fun _ _ => rfl) fun s hwindow => congrArg State.interlock (if_neg (by simp [State.setTwin, hwindow]))
  case claimStrapped =>
    refine takes_of_runEvent (fun _ _ => rfl) fun s _ _ ⟨hwindow, hover, hrole⟩ => ?_
    simp only [State.claimEnd, hwindow]
    exact (if_neg (Nat.not_lt.mpr hover)).trans (if_pos hrole)
  case claimPlain =>
    refine takes_of_runEvent (fun _ _ => rfl) fun s _ _ ⟨hwindow, hover, hrole⟩ => ?_
    simp only [State.claimEnd, hwindow]
    exact (if_neg (Nat.not_lt.mpr hover)).trans (if_neg (by simp [hrole]))
  case keeper => exact takes_of_runEvent (fun _ _ => rfl) fun s _ _ hdue => if_pos hdue
  case cycle =>
    refine takes_of_runEvent (fun _ _ => rfl) fun s _ _ ⟨hmode, hpaired, hrole, hup, hend, hnext⟩ => ?_
    refine (if_neg (by simp [hmode, hpaired, hrole, hup, hend])).trans ?_
    simp only [hnext]
  case newCycle =>
    refine takes_of_runEvent (fun _ _ => rfl) fun s _ _ ⟨hmode, hpaired, hrole, hup, hend, hnext, hnew⟩ => ?_
    refine (if_neg (by simp [hmode, hpaired, hrole, hup, hend])).trans ?_
    simp only [hnext, hnew, if_pos]
  case copy =>
    refine takes_of_runEvent (fun _ _ => rfl) fun s _ _ ⟨hmode, hpaired, hrole⟩ => (State.twinRow_copy s hkind).trans ?_
    exact if_neg (by simp [hmode, hpaired, hrole, hlen])
  case ack =>
    refine takes_of_runEvent (fun _ _ => rfl) fun s _ _ hcopy => (State.twinRow_copyAck s hkind).trans ?_
    simp only [State.copyAck, hcopy]
  case mirror => exact takes_of_runEvent (fun _ _ => rfl) fun s _ _ ⟨hpause, hrole⟩ => (State.twinRow_mirror hkind hpacket hpause).trans (if_neg (not_not_intro hrole))
  case done =>
    refine takes_of_runEvent (fun _ _ => rfl) fun s _ _ hmirror => (State.twinRow_mirrorDone s hkind).trans ?_
    simp only [State.mirrorDone, hmirror]
  case late =>
    refine takes_of_runEvent (fun _ _ => rfl) fun s _ _ ⟨hmirror, hover⟩ => ?_
    simp only [State.mirrorTimeout, hmirror]
    exact if_neg (Nat.not_lt.mpr hover)
  case relay => exact takes_of_runEvent (fun _ _ => rfl) fun s _ _ ⟨hpause, hmode, hpaired, hclear⟩ => (State.twinRow_relay hkind hpacket hpause).trans (State.relayArrive_of_clear hmode hpaired hclear)
  case reply => exact takes_of_runEvent (fun _ _ => rfl) fun s _ _ ⟨hwaits, hown⟩ => (State.twinRow_relayReply s hkind).trans (State.relayReply_of_reply hpacket hreply hfinal hwaits hown)
  case trigger =>
    refine takes_of_runEvent (fun _ _ => rfl) fun s _ _ ⟨hmode, hpaired, hactive⟩ => (State.twinRow_linkedTrigger s hkind).trans ?_
    exact (if_neg (by simp [hmode, hpaired])).trans (if_neg (not_or.mpr ⟨Nat.not_le.mpr hgroup, show ¬ (!(s.group (u8 msg 1 % 64)).active) = true by simp [hactive]⟩))
  case record => exact takes_of_runEvent (fun _ _ => rfl) fun s _ _ ⟨hmode, hpaired, hrole⟩ => (if_neg (by simp [hmode, hpaired, hlen])).trans (if_pos hrole)
  case yield =>
    exact takes_of_runEvent (fun _ _ => rfl) fun s _ _ ⟨hmode, hpaired, hrole, hasked, hup, hlost, hpartner, hbeats⟩ => if_pos ⟨hmode, hpaired, hrole, hasked, by rw [hup]; rfl, hlost, hpartner, hbeats⟩
  case pairing => exact takes_of_runEvent (fun _ _ => rfl) fun s _ _ ⟨hrefs, hpaired, hlate⟩ => State.pairingTimeout_of_one hrefs hpaired hlate
  case formed => exact takes_of_runEvent (fun _ _ => rfl) fun _ _ _ _ => rfl
  case copyLate =>
    refine takes_of_runEvent (fun _ _ => rfl) fun s _ _ hcopy => ?_
    simp only [State.copyLate, hcopy]

end Sys2Proof.Machine

/-! SUPPORT. What the rows of sessions, queues, firmware, flash, reset and start-up do. -/
namespace Sys2Proof.Machine

open Sys2Proof

/-! ## Firmware (R92, R93, R101) -/

/-- The end of a verification alone ends its command (R101). -/
theorem State.slotVerified_of_verify {s : State} {c : FwCheck} (hfound : s.sys.fwChecks.find? (fun c => !c.passed && !s.slotBusy c.slot) = some c) (hverify : c.activate = false) :
    s.slotVerified = (s.setSys (fun x => { x with fwChecks := x.fwChecks.filter (fun d => d.ref != c.ref) })).finish c.ref stOk 0 (s.verifySlot c.slot).2 := by
  simp only [State.slotVerified, hfound]
  exact if_pos (by rw [hverify]; rfl)

/-- The end of a verification for an activation marks a good slot as passed and ends the command of a bad one (R101). -/
theorem State.slotVerified_of_activate {s : State} {c : FwCheck} (hfound : s.sys.fwChecks.find? (fun c => !c.passed && !s.slotBusy c.slot) = some c) (hactivate : c.activate = true) :
    s.slotVerified = if (s.verifySlot c.slot).1 ≠ 0 then (s.setSys (fun x => { x with fwChecks := x.fwChecks.filter (fun d => d.ref != c.ref) })).finish c.ref stBadParam 0 (s.verifySlot c.slot).2
      else s.setSys (fun x => { x with fwChecks := x.fwChecks.map (fun (d : FwCheck) => if d.ref = c.ref then { d with passed := true } else d) }) := by
  simp only [State.slotVerified, hfound]
  exact if_neg (by simp [hactivate])

/-! ## The die-to-die link (R11, R85) -/

/-- A half of the link comes up, its failed lanes mapped, or its die is lost in BOOT (R85). -/
theorem State.bringupEnd_of_boot {s : State} {die : Nat} (locked : Bool) (failed : List Nat) (hdie : die < 2) (hboot : s.sys.hub = .boot) (hfirst : s.sys.d2dUp.lookup die = none) :
    s.bringupEnd die locked failed =
      let l := (failed.filter (fun i => decide (i < 58))).eraseDups
      let ok := locked && decide (l.length ≤ 4)
      let u := s.setSys (fun x => { x with d2dUp := x.d2dUp ++ [(die, ok)] })
      if ok then State.mapLanes { u with front := { u.front with laneFails := Tbl.set u.front.laneFails die l } } die
      else if 4 < l.length then u.bootLost die 1 l.length
      else u.bootLost die 2 0 :=
  if_neg (by simp [hboot, hdie, hfirst])

/-- A lane of a die that stands fails outside RESET and BOOT: it joins the failed lanes, and is mapped at once only before the grid is trusted; a fifth loses the die (R11). -/
theorem State.d2dFailure_of_runs {s : State} {die lane : Nat} (hreset : s.sys.hub ≠ .reset) (hboot : s.sys.hub ≠ .boot) (hdie : die < 2) (hlane : lane < 58)
    (hstands : s.dieLost die = false) (hnew : lane ∉ Tbl.get [] s.front.laneFails die) :
    s.d2dFailure die lane =
      let l := Tbl.get [] s.front.laneFails die ++ [lane]
      let u : State := { s with front := { s.front with laneFails := Tbl.set s.front.laneFails die l } }
      if 5 ≤ l.length then u.declareLost die 1 l.length else if u.sys.hub = .discover ∨ u.sys.hub = .timelock then u.mapLanes die else u := by
  refine (if_neg (by simp [hreset, hboot, hdie, hlane, hstands, hnew])).trans ?_
  refine ite_congr rfl (fun _ => if_neg hboot) fun _ => ?_
  dsimp only
  cases hhub : s.sys.hub
  case boot => exact absurd hhub hboot
  all_goals simp

/-- Settles O18: each row is an event whose meaning, where the clause's conditions hold, takes the branch written out; what ends with a session (log 17) and by its idle time (log 113), packets that waited for the pause (log 23), the slots' verification and the boot codes (log 31), what a reset keeps (log 32), the reset pin and the rails (log 33), restarts (log 34), the session ids' start (log 35), erased and programmed flash (log 104), a region after a timeout (log 105), flash reads (log 106) and the cause of a half that fails in BOOT (log 118) are the model's readings. -/
theorem systemRowsTakeEffect : Obligations.SystemRowsTakeEffect := by
  refine ⟨fun queue => ?fence, fun slot x => ?idle, fun c => ?activation, ?restart, fun c => ?newFirmware, fun o status hbusy => ?flashBusy, fun o status hdone => ?flashDone, fun o => ?flashLate,
    fun offset => ?windowRead, fun offset => ?windowWait, fun c => ?verified, fun c => ?passed, fun c => ?refused, fun l hfew => ?forced, fun l hmany => ?third, fun lowNs taken htaken => ?reset, fun lowNs taken hshort => ?glitch,
    fun rail ns hlong => ?rail, fun rail ns hshort => ?dip, ?release, fun straps idStart temps => ?leave, fun single double => ?selfTest, fun die failed hdie hfew => ?halfUp, fun die locked failed hdie hmany => ?halfFailed,
    fun die failed hdie hfew => ?halfDead, fun n => ?patchGood, fun n => ?patchBad, fun ok d0 d1 => ?boot, fun die lane hdie hlane => ?lane, fun die lane hdie hlane => ?fifthLane, ?timeLock⟩
  case fence => exact takes_of_runEvent (fun _ _ => rfl) fun _ _ _ _ => rfl
  case idle =>
    refine takes_of_runEvent (fun _ _ => rfl) fun s _ _ ⟨hsession, hlimit, hover⟩ => ?_
    simp only [State.sessionIdle, hsession]
    exact if_neg (not_or.mpr ⟨hlimit, Nat.not_lt.mpr hover⟩)
  case activation =>
    refine takes_of_runEvent (fun _ _ => rfl) fun s _ _ ⟨hpassed, hpause, hidle⟩ => ?_
    simp only [State.activationStart, hpassed]
    exact if_neg (by simp [hpause, hidle])
  case restart =>
    refine takes_of_runEvent (fun _ _ => rfl) fun s _ _ ⟨hpause, hnone⟩ => congrArg State.takeArrivals ((if_neg (by simp [hpause])).trans ?_)
    simp only [State.setSys_sys, hnone]
  case newFirmware =>
    refine takes_of_runEvent (fun _ _ => rfl) fun s _ _ ⟨hpause, hcheck⟩ => congrArg State.takeArrivals ((if_neg (by simp [hpause])).trans ?_)
    simp only [State.setSys_sys, hcheck]
    rfl
  case flashBusy => exact comes_of_event (fun _ _ => rfl) fun s hrun => State.flashDone_of_busy hrun hbusy
  case flashDone =>
    refine comes_of_event (fun _ _ => rfl) fun s hrun => ?_
    simp only [State.flashDone, hrun]
    exact if_neg (by rw [hdone]; exact Bool.false_ne_true)
  case flashLate =>
    refine comes_of_event (fun _ _ => rfl) fun s ⟨hrun, hover⟩ => ?_
    simp only [State.flashTimeout, hrun]
    exact if_neg (Nat.not_lt.mpr hover)
  case windowRead =>
    exact takes_of_runEvent (fun _ _ => rfl) fun s hreset _ hfree => (if_neg hreset).trans (if_neg (show ¬ s.flashBlocked (offset / 32 * 32) 32 = true by rw [hfree]; exact Bool.false_ne_true))
  case windowWait => exact takes_of_runEvent (fun _ _ => rfl) fun s hreset _ hblocked => (if_neg hreset).trans (if_pos (show s.flashBlocked (offset / 32 * 32) 32 = true from hblocked))
  case verified => exact takes_of_runEvent (fun _ _ => rfl) fun s _ _ ⟨hfound, hverify⟩ => State.slotVerified_of_verify hfound hverify
  case passed => exact takes_of_runEvent (fun _ _ => rfl) fun s _ _ ⟨hfound, hactivate, hgood⟩ => (State.slotVerified_of_activate hfound hactivate).trans (if_neg (not_not_intro hgood))
  case refused => exact takes_of_runEvent (fun _ _ => rfl) fun s _ _ ⟨hfound, hactivate, hbad⟩ => (State.slotVerified_of_activate hfound hactivate).trans (if_pos hbad)
  case forced =>
    refine takes_of_runEvent (fun _ _ => rfl) fun s hreset hboot ⟨hpause, hrecent⟩ => (if_neg (by simp [hreset, hboot, hpause])).trans ?_
    rw [hrecent]
    exact if_neg (Nat.not_le.mpr hfew)
  case third =>
    refine takes_of_runEvent (fun _ _ => rfl) fun s hreset hboot ⟨hpause, hrecent⟩ => (if_neg (by simp [hreset, hboot, hpause])).trans ?_
    rw [hrecent]
    exact if_pos hmany
  case reset => exact comes_of_event (fun _ _ => rfl) fun _ _ => if_pos htaken
  case glitch => exact comes_of_event (fun _ _ => rfl) fun _ _ => if_neg (by rcases hshort with h | ⟨h, rfl⟩ <;> simp <;> omega)
  case rail => exact comes_of_event (fun _ _ => rfl) fun _ _ => if_neg (Nat.not_lt.mpr hlong)
  case dip => exact comes_of_event (fun _ _ => rfl) fun _ _ => if_pos hshort
  case release => exact comes_of_event (fun _ _ => rfl) fun _ hhub => if_pos hhub
  case leave =>
    refine comes_of_event (fun _ _ => rfl) fun s ⟨hhub, hsup⟩ => (if_neg (by simp [hhub, hsup])).trans ?_
    simp only [Straps.romOnly, Bool.or_eq_true, beq_iff_eq]
  case selfTest => exact comes_of_event (fun _ _ => rfl) fun s ⟨hhub, hfirst⟩ => if_neg (by simp [hhub, hfirst])
  case halfUp =>
    refine comes_of_event (fun _ _ => rfl) fun s ⟨hhub, hfirst⟩ => (State.bringupEnd_of_boot true failed hdie hhub hfirst).trans ?_
    simp only [hfew, decide_true, Bool.and_self, if_pos]
  case halfFailed =>
    refine comes_of_event (fun _ _ => rfl) fun s ⟨hhub, hfirst⟩ => (State.bringupEnd_of_boot locked failed hdie hhub hfirst).trans ?_
    simp only [decide_eq_false (Nat.not_le.mpr hmany), Bool.and_false, Bool.false_eq_true, if_false, if_pos hmany]
  case halfDead =>
    refine comes_of_event (fun _ _ => rfl) fun s ⟨hhub, hfirst⟩ => (State.bringupEnd_of_boot false failed hdie hhub hfirst).trans ?_
    simp only [Bool.false_and, Bool.false_eq_true, if_false, if_neg (Nat.not_lt.mpr hfew)]
  case patchGood =>
    refine comes_of_event (fun _ _ => rfl) fun s ⟨hhub, hunread, hcandidate, hgood⟩ => (if_neg (by simp [hhub, hunread])).trans ?_
    simp only [hcandidate]
    exact if_pos hgood
  case patchBad =>
    refine comes_of_event (fun _ _ => rfl) fun s ⟨hhub, hunread, hcandidate, hbad⟩ => (if_neg (by simp [hhub, hunread])).trans ?_
    simp only [hcandidate]
    exact if_neg hbad
  case boot => exact comes_of_event (fun _ _ => rfl) fun s ⟨hhub, htest, hhalf0, hhalf1, hpatch⟩ => if_neg (by simp [hhub, htest, hhalf0, hhalf1, hpatch])
  case lane =>
    refine takes_of_event (fun _ _ => rfl) fun s hreset hboot ⟨hstands, hnew, hfew⟩ => (State.d2dFailure_of_runs hreset hboot hdie hlane hstands hnew).trans ?_
    exact if_neg (by simpa using hfew)
  case fifthLane =>
    refine takes_of_event (fun _ _ => rfl) fun s hreset hboot ⟨hstands, hnew, hmany⟩ => (State.d2dFailure_of_runs hreset hboot hdie hlane hstands hnew).trans ?_
    exact (if_pos (by simpa using hmany)).trans (by rw [List.length_append]; rfl)
  case timeLock => exact takes_of_runEvent (fun _ _ => rfl) fun s _ _ hdue => if_pos hdue

end Sys2Proof.Machine
